-- ==== Sys2Proof/Word.lean ====
section
/-!
DEFINITION. The words of the module: the widths the manual gives its fields, and nothing else.
Bytes lie in memory, messages and records little-endian (R10); a field `high:low` is taken as R21 writes it.
-/
namespace Sys2Proof

/-- One byte. -/
abbrev Byte := BitVec 8
/-- A BAR0 register is 32 bits wide (R490). -/
abbrev W32 := BitVec 32
/-- A scalar register, an ownership word, half an action: 64 bits. -/
abbrev W64 := BitVec 64

/-- The orderable part (R1). -/
inductive Part where
  /-- G9600-F: 1,536 GiB of large tier, 16 packages, 128 sub-channels. -/
  | F
  /-- G9600-H: 768 GiB of large tier, 8 packages, 64 sub-channels. -/
  | H
deriving DecidableEq, Repr, Inhabited

end Sys2Proof
end

