-- ==== Sys2Proof/Machine/Tab.lean ====
section
/-!
DEFINITION. Sparse tables: a list of (key, value) pairs with keys strictly rising and no pair equal to what an
unlisted key reads as. Memories, register files and entry tables of the module are such lists, so equal contents are
equal data.
-/
namespace Sys2Proof.Machine

/-- A sparse table; the default of each table is named where it is read. -/
abbrev Tab (α : Type) := List (Nat × α)

namespace Tab

/-- What the table holds at a key: `d` where no pair names the key. The list rises, so the walk stops at the first
larger key. -/
def get {α : Type} (d : α) : Tab α → Nat → α
  | [], _ => d
  | (k, v) :: t, i => if i = k then v else if i < k then d else get d t i

/-- Leaves out the pairs whose key is not above `i`. -/
def above {α : Type} (i : Nat) : Tab α → Tab α
  | [] => []
  | (k, v) :: t => if k ≤ i then above i t else (k, v) :: t

/-- Writes a key, keeping the list rising and free of pairs that hold the default. -/
def put {α : Type} [DecidableEq α] (d : α) : Tab α → Nat → α → Tab α
  | [], i, x => if x = d then [] else [(i, x)]
  | (k, v) :: t, i, x =>
    if i = k then (if x = d then above i t else (k, x) :: t)
    else if i < k then (if x = d then (k, v) :: t else (i, x) :: (k, v) :: t)
    else (k, v) :: put d t i x

/-- Writes a key and keeps the pair whatever it holds. -/
def set {α : Type} : Tab α → Nat → α → Tab α
  | [], i, x => [(i, x)]
  | (k, v) :: t, i, x =>
    if i = k then (k, x) :: t else if i < k then (i, x) :: (k, v) :: t else (k, v) :: set t i x

/-- The value listed at a key, if any. -/
def find? {α : Type} : Tab α → Nat → Option α
  | [], _ => none
  | (k, v) :: t, i => if i = k then some v else if i < k then none else find? t i

/-- Takes a key out of the list. -/
def erase {α : Type} : Tab α → Nat → Tab α
  | [], _ => []
  | (k, v) :: t, i => if i = k then above i t else if i < k then (k, v) :: t else (k, v) :: erase t i

/-- Every key is above `lo` and the keys rise. -/
def rising {α : Type} : Option Nat → Tab α → Bool
  | _, [] => true
  | none, (k, _) :: t => rising (some k) t
  | some j, (k, _) :: t => decide (j < k) && rising (some k) t

/-- The canonical form: keys strictly rising, no pair holding the default. -/
def wf {α : Type} [DecidableEq α] (d : α) (t : Tab α) : Bool :=
  rising none t && t.all (fun p => decide (p.2 ≠ d))

/-- The keys listed. -/
def keys {α : Type} (t : Tab α) : List Nat := t.map (·.1)

/-- The values listed. -/
def vals {α : Type} (t : Tab α) : List α := t.map (·.2)

/-- Leaves out every pair whose key lies in `lo` to `hi`, both included. -/
def clearRange {α : Type} (t : Tab α) (lo hi : Nat) : Tab α :=
  t.filter (fun p => decide (p.1 < lo) || decide (hi < p.1))

end Tab

/-- A memory: a sparse table of bytes. The cells are the host's `Host.Cell`. -/
abbrev Mem := Tab Byte

namespace Mem

/-- One byte; a byte nothing has written reads 0 (washed, R453, R486; log entry 11). -/
def byte (m : Mem) (a : Nat) : Byte := Tab.get 0 m a

/-- Writes one byte. -/
def setByte (m : Mem) (a : Nat) (b : Byte) : Mem := Tab.put 0 m a b

/-- `n` bytes from an address up. -/
def bytes (m : Mem) (a : Nat) : Nat → List Byte
  | 0 => []
  | n + 1 => m.byte a :: bytes m (a + 1) n

/-- Writes a list of bytes from an address up. -/
def write (m : Mem) (a : Nat) : List Byte → Mem
  | [] => m
  | b :: bs => write (m.setByte a b) (a + 1) bs

/-- Sets `n` bytes from an address to 0. -/
def zero (m : Mem) (a n : Nat) : Mem := if n = 0 then m else Tab.clearRange m a (a + n - 1)

/-- The canonical form of a memory. -/
def wf (m : Mem) : Bool := Tab.wf 0 m

end Mem

end Sys2Proof.Machine
end

