-- ==== Sys2Proof/Machine/CauseState.lean ====
section
/-!
DEFINITION. State of the Causeway block that no register shows (14): ports, flows, lost nodes, what waits to be sent.
-/
namespace Sys2Proof.Machine

/-- A transaction of Table 14.10: what a message carries above the transport. -/
structure Txn where
  /-- The other node: destination of one sent, source of one received. -/
  node : Nat := 0
  /-- The partition; none for a system message. -/
  part : Option Nat := none
  flow : Nat := 0
  op : Nat := 0
  status : Nat := 0
  txn : Nat := 0
  /-- What Table 14.10 says the operation carries, in its order; the 24 bytes have no stated layout (log entry 15). -/
  args : List Nat := []
  data : List Byte := []
deriving DecidableEq, Repr, Inhabited

/-- A flit's header fields and payload (Tables 14.2, 14.3). -/
structure Flit where
  kind : Nat := 0
  vc : Nat := 0
  cls : Nat := 0
  seq : Nat := 0
  ack : Nat := 0
  sop : Bool := false
  eop : Bool := false
  payload : List Byte := []
  cvc : Nat := 0
  ccount : Nat := 0
  scount : Nat := 0
  aux : Nat := 0
deriving DecidableEq, Repr, Inhabited

/-- A port beside its registers (R353 to R359, R379). -/
structure PortSt where
  /-- Training steps of Table 14.5 completed. -/
  step : Nat := 0
  farInc : Nat := 0
  farRole : Nat := 0
  /-- State last received in a link-state flit (Table 14.4). -/
  farState : Nat := 0
  txSeq : Nat := 0
  /-- Retry buffer, oldest first: a flit and how often it has been resent. -/
  retry : List (Flit × Nat) := []
  /-- Credits for each VC and class (vc × 2 + class), and system credits. -/
  credits : Tab Nat := []
  sysCredits : Nat := 0
  /-- Flits waiting to be sent, in order, each with the input buffer it still stands in: port, VC and class, and a name of its own. -/
  waiting : List (Flit × Option (Nat × Nat × Nat)) := []
  /-- Where the round robin over the VC classes stands (R354). -/
  turn : Nat := 0
  /-- Next seq expected, and whether a retry request for it stands. -/
  rxNext : Nat := 0
  retryAsked : Bool := false
  /-- Credits to return, by VC and class; 16 is the system buffer. -/
  toReturn : Tab Nat := []
  /-- Payload gathered of the packet arriving, by VC and class; 16 is system. -/
  gathered : Tab (List Byte) := []
  /-- Where the packet arriving goes, by VC and class: its ports, and whether it is delivered here. -/
  route : Tab (List Nat × Bool) := []
  /-- A packet arriving is dropped to its end. -/
  dropping : List Nat := []
  /-- The last delays measured, newest first (R375). -/
  delays : List Nat := []
  /-- Place in its pair of codewords of the next flit received, and whether a codeword of that pair was bad (R351, R352). -/
  rxFlit : Nat := 0
  pairBad : Bool := false
deriving DecidableEq, Repr, Inhabited

/-- A flow's name (R365): node, partition (none system), VC, class, flow number. -/
structure FlowId where
  node : Nat := 0
  part : Option Nat := none
  vc : Nat := 0
  cls : Nat := 0
  flow : Nat := 0
deriving DecidableEq, Repr, Inhabited

/-- The sending end of a flow: next seq, unacknowledged messages, path bit. -/
structure FlowTx where
  id : FlowId := {}
  next : Nat := 0
  unacked : List (Nat × Txn) := []
  pathB : Bool := false
deriving DecidableEq, Repr, Inhabited

/-- The receiving end of a flow: next seq, messages held ahead of a gap, an ack is due. -/
structure FlowRx where
  id : FlowId := {}
  next : Nat := 0
  held : List (Nat × Txn) := []
  ackDue : Bool := false
deriving DecidableEq, Repr, Inhabited

/-- A broadcast under way on a tree (R338 to R340). -/
structure Broadcast where
  tree : Nat := 0
  object : Nat := 0
  version : Nat := 0
  first : Nat := 0
  count : Nat := 0
  part : Nat := 0
  tier : Nat := 0
  rehoming : Bool := false
  /-- This module reads it. -/
  reader : Bool := false
  /-- Next granule to send, or granules received. -/
  sent : Nat := 0
  received : List Nat := []
  /-- 4 KiB blocks received of granules not complete: granule × 16 + block. -/
  blocks : List Nat := []
deriving DecidableEq, Repr, Inhabited

/-- The Causeway block. -/
structure CauseSt where
  ports : Tab PortSt := []
  tx : List FlowTx := []
  rx : List FlowRx := []
  /-- Nodes held as lost, with the incarnation (R381). -/
  lost : Tab Nat := []
  /-- Nodes known, with the last incarnation met. -/
  known : Tab Nat := []
  /-- Losses and joins acted on: node and incarnation (R381, R384). -/
  acted : List (Nat × Nat) := []
  joined : List (Nat × Nat) := []
  /-- Probes outstanding: nodes. -/
  probes : List Nat := []
  /-- Transaction number of the next request. -/
  txnNext : Nat := 0
  /-- Messages the module has handed to the links, oldest first: what the rest of the system sees. -/
  sent : List Txn := []
  /-- Blocks put on each port above its FEC, oldest first: eight for a flit, each its port and 257 bits (R351). -/
  wire : List (Nat × BitVec 257) := []
  /-- Name of the next flit that stands in an input buffer. -/
  flitName : Nat := 0
  /-- Messages that wait for a flow without unacknowledged messages, oldest first (R365). -/
  parked : List Txn := []
  /-- Next seq to send on each tree, and next expected (Table 14.8, R371). -/
  treeSeq : Tab Nat := []
  treeNext : Tab Nat := []
  /-- It has had a trained port (R383). -/
  everTrained : Bool := false
  broadcasts : List Broadcast := []
  /-- The start count's incarnation has been loaded (R360). -/
  incarnation : Nat := 0
deriving DecidableEq, Repr, Inhabited

end Sys2Proof.Machine
end

