-- ==== Sys2Proof/Machine/Operands.lean ====
section
/-!
DEFINITION. Operands of the commands that are more than numbers: addresses, messages, and what only the world outside the module
fixes of a command (what a sensor read, what an array holds, when something took too long).
-/
namespace Sys2Proof.Machine

/-- An address of a READ or WRITE (R369). -/
inductive FarAddr where
  /-- A handle and a byte offset. -/
  | handle (h off : Nat)
  /-- A large-tier or store location, the object it must hold (0 for space lent), and a byte offset within the granule. -/
  | place (location object off : Nat)
  /-- An object, a version and a byte offset. -/
  | object (obj ver off : Nat)
deriving DecidableEq, Repr, Inhabited

/-- The address that a message's values name. -/
def farAddr (l : List Nat) : FarAddr :=
  match l.getD 0 0 with
  | 0 => .handle (l.getD 1 0) (l.getD 2 0 * 16)
  | 1 => .place (l.getD 1 0) (l.getD 2 0) (l.getD 3 0 * 16)
  | _ => .object (l.getD 1 0) (l.getD 2 0) (l.getD 3 0 * 16)

/-- How a granule's copy fails: an uncorrectable error of its source, by the place of its MOVE_GRANULE among the seam's and the byte of the
granule, or a failure writing the destination (R214). -/
inductive MoveFailure where
  | source (move : Fin 64) (byte : Fin 65536)
  | destination
deriving DecidableEq, Repr

/-- What the environment fixes of a descriptor's completion: far requests saved by merging, corrected errors at the far end and in
local scratch, and the first byte of the transfer at which an uncorrectable error was met at either end. -/
structure DescFacts where
  merged : Nat := 0
  farCe : Nat := 0
  localCe : Nat := 0
  farUe : Option Nat := none
  localUe : Option Nat := none
  /-- A directory entry of the range was unreadable in one copy, or in both (R210, Table 8.10). -/
  dirBad : Bool := false
  dirLost : Bool := false
deriving DecidableEq, Repr

/-- What a pass leaves for one sequence: its ledger entry's figures (Table 9.2), which the pattern writes (R246, R279). -/
structure Pass where
  slot : Nat := 0
  tokens : List W32 := []
  firstPos : Nat := 0
  retireDone : Bool := false
deriving DecidableEq, Repr, Inhabited

/-- What a tile's end brings: what the pass leaves for each sequence, if its item ends the pass; and what the environment fixes, of the tile that
ends the cycles in which a bank request waited (R84) and the corrected errors that its accesses met in the scratchpad and the accumulators
(R81, R87), and of the one that begins the 16-byte units of the core's scratchpad and the accumulator rows (tile × 128 + row) that
become uncorrectable in it. -/
structure TileFacts where
  passes : List Pass := []
  stalls : Nat := 0
  corrected : Nat := 0
  badUnits : List Nat := []
  badRows : List Nat := []
deriving DecidableEq, Repr

/-- Granules recalled by now between this module and another node: of those lent to it, and of those held from it (R233). -/
structure Recalled where
  lent : Nat := 0
  held : Nat := 0
deriving DecidableEq, Repr

/-- What the environment fixes of one step 5: how many messages it finishes before its bound, none for all; and the lookups
after which a request's match was cut, by request ID (R42, R291). -/
structure StepFive where
  messages : Option Nat := none
  cuts : List (Nat × Nat) := []
deriving DecidableEq, Repr

/-- A message as it arrives: its flow (with the source's node), flags, incarnation, seq and ack (Table 14.8), whether its trailer
matches, and its transaction. -/
structure Message where
  flow : FlowId := {}
  flags : Nat := 0
  incarnation : Nat := 0
  seq : Nat := 0
  ack : Nat := 0
  good : Bool := true
  txn : Txn := {}
deriving DecidableEq, Repr, Inhabited

/-- A message with its identifiers and numbers cut to the widths they have wherever they are stored (R12, Table 14.8). -/
def Message.cut (m : Message) : Message :=
  { m with
    flow := { node := m.flow.node % 4096, part := m.flow.part.map (· % 32), vc := m.flow.vc % 8, cls := m.flow.cls % 2, flow := m.flow.flow % 256 }
    incarnation := m.incarnation % 65536, seq := m.seq % 2 ^ 32, ack := m.ack % 2 ^ 32
    txn := { m.txn with node := m.txn.node % 4096, part := m.txn.part.map (· % 32) } }

/-- What a port measures as a flit arrives: with the first flit of a pair of codewords, how the pair decoded (R352); and, for a timing flit, the turnaround or round trip in
1/16 ns, the module's offset from the source in ns, and the residence in 1/16 ns. -/
structure FlitFacts where
  corrected : Nat := 0
  uncorrectable : Nat := 0
  time : Nat := 0
  offset : Int := 0
deriving DecidableEq, Repr, Inhabited

/-- A host message beside its type (Table 15.6): the header's fields as the host wrote them, and the bytes after the header. -/
structure HostHead where
  major : Nat := 2
  minor : Nat := 0
  length : Nat := 32
  /-- The byte of the partition, and the status byte. -/
  partByte : Nat := 0
  status : Nat := 0
  seqNo : Nat := 0
  reserved : Nat := 0
  body : List Byte := []
deriving DecidableEq, Repr, Inhabited

/-- What a configuration request asks (R389): the register read or the capability written. -/
inductive ConfigOp where
  /-- A read of the register at an offset. -/
  | read (reg : Nat)
  /-- A write of the command register: Bus Master Enable. -/
  | command (busMaster : Bool)
  /-- A write of the power state: D0 or D3hot. -/
  | power (d3hot : Bool)
  /-- A write of the MSI-X control: enable and function mask. -/
  | msix (enable mask : Bool)
  /-- A write of an entry of the function's MSI-X table. -/
  | vector (v : Nat) (addr : W64) (data : W32) (masked : Bool)
  /-- A write of NumVFs. -/
  | numVfs (n : Nat)
deriving DecidableEq, Repr, Inhabited

/-- What the environment fixes of one milestone: how many of steps 2 to 4 completed after their bounds, what step 5 got done, whether
CP3 finished step 6 by its bound, and whether a processor that was handing over has resumed (R42, R43, R419). -/
structure MileFacts where
  late : Nat := 0
  /-- The first of steps 2 to 4 that does not complete before the next milestone instant, if one does not (R43). -/
  unfinished : Option Nat := none
  /-- How long step 4 took, and step 1 of R253 in step 2, in 10 ns (R262, R282). -/
  buildTime : Nat := 0
  ledgerTime : Nat := 0
  five : StepFive := {}
  sixDone : Bool := true
  resumed : Bool := true
deriving DecidableEq, Repr

/-- What P1 finds: of the store's parts whether they keep the rules, targets per channel, raw GiB, bits per cell, the planes code,
usable granules, blocks of a target and their rated erases, and each channel's state, rate and targets (R423, Table 16.1); the bank
records (kind, index, bank) and save slots that do not read as valid; map pages without a valid record; granules (handle, granule)
that a missing directory page named (R437); and the stage at which the Alias key failed, if it did (Table 18.8). -/
structure StartFound where
  qualified : Bool := true
  targets : Nat := 1
  rawGib : Nat := 1024
  bitsPerCell : Nat := 3
  planes : Nat := 2
  usable : Nat := 0
  blocks : Nat := 0
  rating : Nat := 0
  channels : List (Nat × Nat × Nat) := []
  recBad : List (Nat × Nat × Nat) := []
  saveBad : List Nat := []
  mapLost : List Nat := []
  dirLost : List (Nat × Nat) := []
  aliasStage : Option Nat := none
deriving DecidableEq, Repr

/-- A PLDM command (R405): GetStatus, a reading of a numeric or a state sensor, a read of the event record at a place of the ring,
or another command. -/
inductive PldmOp where
  | getStatus
  /-- 0 Tj maximum, 1 module power, 2 VMAIN, 3 VAUX, 4 VSAVE. -/
  | numericSensor (n : Nat)
  /-- 0 start phase, 1 life-cycle state. -/
  | stateSensor (n : Nat)
  | readEvent (place : Nat)
  | other (command : Nat)
deriving DecidableEq, Repr, Inhabited

/-- A life-cycle token (R482): its command, target state or slot, serial number, nonce, authority and signature. -/
structure LcToken where
  command : Nat := 0
  target : Nat := 0
  dsn : W64 := 0
  nonce : List Byte := []
  /-- 0 owner, 1 Drumas. -/
  authority : Nat := 0
  signature : List Byte := []
deriving DecidableEq, Repr, Inhabited

/-- A provisioning bundle (R482): owner public key, configuration body, kept-table pages, serial number, nonce and signature. -/
structure LcBundle where
  ownerKey : List Byte := []
  config : List Byte := []
  /-- Record kind, index and bytes of each page. -/
  pages : List (Nat × Nat × List Byte) := []
  dsn : W64 := 0
  nonce : List Byte := []
  signature : List Byte := []
deriving DecidableEq, Repr, Inhabited

/-- One sample of power and heat (R461, R465): watts drawn, the highest Tj in °C and its sensor, and the rails in 50 mV. -/
structure PowerSample where
  watts : Nat := 0
  tj : Nat := 0
  sensor : Nat := 0
  vmain : Nat := 0
  vaux : Nat := 0
  vsave : Nat := 0
deriving DecidableEq, Repr

end Sys2Proof.Machine
end

