-- ==== Sys2Proof/Syntax.lean ====
section
/-!
DEFINITION. The commands the module takes: one constructor for each row of the opcode table, in its order. Operands whose range the
manual bounds have a type of that range; what else an operand must meet is in WellFormed.lean.
-/
namespace Sys2Proof

open Sys2Proof.Machine

/-- A command. -/
inductive Instr where
  /-- MILESTONE (R42): what only time fixes of it. -/
  | milestone (facts : MileFacts)
  /-- LEG_PERIOD_NEXT_WRITE (R34): the function that writes, and the word written. -/
  | legPeriodNextWrite (fn : Fin 33) (v : W32)
  /-- LEG_CHANGE_AT_WRITE (R33): the function that writes, and the word written. -/
  | legChangeAtWrite (fn : Fin 33) (v : W32)
  /-- LEG_SYNC_WRITE (R36): the function that writes, and the word written. -/
  | legSyncWrite (fn : Fin 33) (v : W32)
  /-- LEG_ERR_CLEAR_MAX (R60): the function that writes, and the word written. -/
  | legErrClearMax (fn : Fin 33) (v : W32)
  /-- MILE_IN_EDGE (R37): how many ns the edge precedes the module's own instant. -/
  | mileInEdge (raw : Int)
  /-- TIMING_MESSAGE (R38): the port, the message's fields (Table 14.11), the offset in ns and the residence in 1/16 ns. -/
  | timingMessage (port : Fin 16) (hops : Nat) (source : Nat) (period : Nat) (milestone : Nat) (correction : Nat) (offset : Int) (residence : Nat)
  /-- HOLDOVER_ENTRY (R40). -/
  | holdoverEntry
  /-- NOP (R73): the core, and bits 55:0 of the instruction. -/
  | nop (core : BitVec 10) (low : BitVec 56)
  /-- TBOUND (R67): the core, and bits 55:0 of the instruction. -/
  | tbound (core : BitVec 10) (low : BitVec 56)
  /-- END (R67): the core, and bits 55:0 of the instruction. -/
  | end_ (core : BitVec 10) (low : BitVec 56)
  /-- TILE_BOUNDARY (R67): the core; what the tile's end brings, with what the pass leaves for each sequence; and the expert results its tile
returned. -/
  | tileBoundary (core : BitVec 10) (work : TileFacts) (results : List (W64 × List Byte))
  /-- BR (R73): the core, and bits 55:0 of the instruction. -/
  | br (core : BitVec 10) (low : BitVec 56)
  /-- LOOP (R70): the core, and bits 55:0 of the instruction. -/
  | loop (core : BitVec 10) (low : BitVec 56)
  /-- FENCE (R73): the core, and bits 55:0 of the instruction. -/
  | fence (core : BitVec 10) (low : BitVec 56)
  /-- FAULT (R73): the core, and bits 55:0 of the instruction. -/
  | fault (core : BitVec 10) (low : BitVec 56)
  /-- ADD (R73): the core, and bits 55:0 of the instruction. -/
  | add (core : BitVec 10) (low : BitVec 56)
  /-- SUB (R73): the core, and bits 55:0 of the instruction. -/
  | sub (core : BitVec 10) (low : BitVec 56)
  /-- MUL (R73): the core, and bits 55:0 of the instruction. -/
  | mul (core : BitVec 10) (low : BitVec 56)
  /-- AND (R73): the core, and bits 55:0 of the instruction. -/
  | and (core : BitVec 10) (low : BitVec 56)
  /-- OR (R73): the core, and bits 55:0 of the instruction. -/
  | or (core : BitVec 10) (low : BitVec 56)
  /-- XOR (R73): the core, and bits 55:0 of the instruction. -/
  | xor (core : BitVec 10) (low : BitVec 56)
  /-- SHL (R73): the core, and bits 55:0 of the instruction. -/
  | shl (core : BitVec 10) (low : BitVec 56)
  /-- SHR (R73): the core, and bits 55:0 of the instruction. -/
  | shr (core : BitVec 10) (low : BitVec 56)
  /-- MIN (R73): the core, and bits 55:0 of the instruction. -/
  | min (core : BitVec 10) (low : BitVec 56)
  /-- MAX (R73): the core, and bits 55:0 of the instruction. -/
  | max (core : BitVec 10) (low : BitVec 56)
  /-- ADDI (R73): the core, and bits 55:0 of the instruction. -/
  | addi (core : BitVec 10) (low : BitVec 56)
  /-- MOVHI (R73): the core, and bits 55:0 of the instruction. -/
  | movhi (core : BitVec 10) (low : BitVec 56)
  /-- CMP (R73): the core, and bits 55:0 of the instruction. -/
  | cmp (core : BitVec 10) (low : BitVec 56)
  /-- LDS (R73): the core, and bits 55:0 of the instruction. -/
  | lds (core : BitVec 10) (low : BitVec 56)
  /-- STS (R73): the core, and bits 55:0 of the instruction. -/
  | sts (core : BitVec 10) (low : BitVec 56)
  /-- PLOG (R73): the core, and bits 55:0 of the instruction. -/
  | plog (core : BitVec 10) (low : BitVec 56)
  /-- MCFG (R100): the core, and bits 55:0 of the instruction. -/
  | mcfg (core : BitVec 10) (low : BitVec 56)
  /-- MLOADW (R76): the core, and bits 55:0 of the instruction. -/
  | mloadw (core : BitVec 10) (low : BitVec 56)
  /-- MSWAP (R73): the core, and bits 55:0 of the instruction. -/
  | mswap (core : BitVec 10) (low : BitVec 56)
  /-- MMAC (R109): the core, and bits 55:0 of the instruction. -/
  | mmac (core : BitVec 10) (low : BitVec 56)
  /-- MDARN (R113): the core, and bits 55:0 of the instruction. -/
  | mdarn (core : BitVec 10) (low : BitVec 56)
  /-- MCLR (R73): the core, and bits 55:0 of the instruction. -/
  | mclr (core : BitVec 10) (low : BitVec 56)
  /-- DRAIN (R177): the core, and bits 55:0 of the instruction. -/
  | drain (core : BitVec 10) (low : BitVec 56)
  /-- AREAD (R73): the core, and bits 55:0 of the instruction. -/
  | aread (core : BitVec 10) (low : BitVec 56)
  /-- AWRITE (R73): the core, and bits 55:0 of the instruction. -/
  | awrite (core : BitVec 10) (low : BitVec 56)
  /-- VLD (R73): the core, and bits 55:0 of the instruction. -/
  | vld (core : BitVec 10) (low : BitVec 56)
  /-- VST (R73): the core, and bits 55:0 of the instruction. -/
  | vst (core : BitVec 10) (low : BitVec 56)
  /-- VADD (R82): the core, and bits 55:0 of the instruction. -/
  | vadd (core : BitVec 10) (low : BitVec 56)
  /-- VMUL (R82): the core, and bits 55:0 of the instruction. -/
  | vmul (core : BitVec 10) (low : BitVec 56)
  /-- VFMA (R82): the core, and bits 55:0 of the instruction. -/
  | vfma (core : BitVec 10) (low : BitVec 56)
  /-- VMAX (R73): the core, and bits 55:0 of the instruction. -/
  | vmax (core : BitVec 10) (low : BitVec 56)
  /-- VMIN (R73): the core, and bits 55:0 of the instruction. -/
  | vmin (core : BitVec 10) (low : BitVec 56)
  /-- VRED (R73): the core, and bits 55:0 of the instruction. -/
  | vred (core : BitVec 10) (low : BitVec 56)
  /-- VTAB (R82): the core, and bits 55:0 of the instruction. -/
  | vtab (core : BitVec 10) (low : BitVec 56)
  /-- VCVT (R123): the core, and bits 55:0 of the instruction. -/
  | vcvt (core : BitVec 10) (low : BitVec 56)
  /-- VBCAST (R73): the core, and bits 55:0 of the instruction. -/
  | vbcast (core : BitVec 10) (low : BitVec 56)
  /-- VMOVS (R73): the core, and bits 55:0 of the instruction. -/
  | vmovs (core : BitVec 10) (low : BitVec 56)
  /-- SRD (R188): the core, and bits 55:0 of the instruction. -/
  | srd (core : BitVec 10) (low : BitVec 56)
  /-- SWR (R188): the core, and bits 55:0 of the instruction. -/
  | swr (core : BitVec 10) (low : BitVec 56)
  /-- SWAIT (R190): the core, and bits 55:0 of the instruction. -/
  | swait (core : BitVec 10) (low : BitVec 56)
  /-- SEMPOST (R89): the core, and bits 55:0 of the instruction. -/
  | sempost (core : BitVec 10) (low : BitVec 56)
  /-- SEMWAIT (R89): the core, and bits 55:0 of the instruction. -/
  | semwait (core : BitVec 10) (low : BitVec 56)
  /-- SEMTRY (R89): the core, and bits 55:0 of the instruction. -/
  | semtry (core : BitVec 10) (low : BitVec 56)
  /-- QPUSH (R141): the core, and bits 55:0 of the instruction. -/
  | qpush (core : BitVec 10) (low : BitVec 56)
  /-- QPOP (R141): the core, and bits 55:0 of the instruction. -/
  | qpop (core : BitVec 10) (low : BitVec 56)
  /-- CPUSH (R141): the core, and bits 55:0 of the instruction. -/
  | cpush (core : BitVec 10) (low : BitVec 56)
  /-- CPOP (R141): the core, and bits 55:0 of the instruction. -/
  | cpop (core : BitVec 10) (low : BitVec 56)
  /-- VQPUSH (R141): the core, and bits 55:0 of the instruction. -/
  | vqpush (core : BitVec 10) (low : BitVec 56)
  /-- VQPOP (R141): the core, and bits 55:0 of the instruction. -/
  | vqpop (core : BitVec 10) (low : BitVec 56)
  /-- CARM (R92): the core, and bits 55:0 of the instruction. -/
  | carm (core : BitVec 10) (low : BitVec 56)
  /-- CFETCH (R92): the core, and bits 55:0 of the instruction. -/
  | cfetch (core : BitVec 10) (low : BitVec 56)
  /-- CDONE (R93): the core, and bits 55:0 of the instruction. -/
  | cdone (core : BitVec 10) (low : BitVec 56)
  /-- RDSTAT (R500): the core, and bits 55:0 of the instruction. -/
  | rdstat (core : BitVec 10) (low : BitVec 56)
  /-- TILE_OVERTIME (R68): the core. -/
  | tileOvertime (core : BitVec 10)
  /-- CORE_FAULT_CLEAR (R97): the function that writes, the core, and the word written. -/
  | coreFaultClear (fn : Fin 33) (core : BitVec 10) (v : W32)
  /-- CORE_ARITH_CLEAR_COUNTS (R133): the function that writes, the core, and the word written. -/
  | coreArithClearCounts (fn : Fin 33) (core : BitVec 10) (v : W32)
  /-- CORE_ARITH_CLEAR_HIST (R133): the function that writes, the core, and the word written. -/
  | coreArithClearHist (fn : Fin 33) (core : BitVec 10) (v : W32)
  /-- FLIT_ENTER_QUEUE (R149): the core, its network (0 vector, 1 scalar, 2 control) and its input channel. -/
  | flitEnterQueue (core : BitVec 10) (net : Fin 3) (chan : Fin 16)
  /-- SEM_POST_ARRIVAL (R89): the core, the pair, and whether the room count is posted. -/
  | semPostArrival (core : BitVec 10) (pair : Fin 64) (room : Bool)
  /-- STEERING_FIRE (R147): the core and its steering unit. -/
  | steeringFire (core : BitVec 10) (unit : Fin 4)
  /-- EPOCH_ADVANCE (R150): the district and the slot. -/
  | epochAdvance (d : Fin 64) (slot : Fin 4)
  /-- STALL (R164): the district. -/
  | stall (d : Fin 64)
  /-- PRESS_COMMIT (R158): the seam record of the press. -/
  | pressCommit (k : Fin 256)
  /-- PRESS_NOT_QUIET (R158): the seam record of the press. -/
  | pressNotQuiet (k : Fin 256)
  /-- PRESS_LOAD_COMPLETE (R159): the seam record of the press, and whether the image could not be read. -/
  | pressLoadComplete (k : Fin 256) (failed : Bool)
  /-- WRING (R162): the function that writes, the district, and the word written. -/
  | wring (fn : Fin 33) (d : Fin 64) (v : W32)
  /-- WRING_DONE (R162): the district. -/
  | wringDone (d : Fin 64)
  /-- SCAN_IN (R163): the function that writes, the district, and the word written. -/
  | scanIn (fn : Fin 33) (d : Fin 64) (v : W32)
  /-- DISTRICT_RELEASE (R163): the function that writes, the district, and the word written. -/
  | districtRelease (fn : Fin 33) (d : Fin 64) (v : W32)
  /-- SERVING_PLAN_CTRL_WRITE (R182): the function that writes, and the word written. -/
  | servingPlanCtrlWrite (fn : Fin 33) (v : W32)
  /-- DESCRIPTOR_START (R191): the core, its engine (true the write engine) and the engine's slot. -/
  | descriptorStart (core : BitVec 10) (write : Bool) (place : Fin 4)
  /-- DESCRIPTOR_COMPLETE (R192): the core, its engine, the engine's slot, and what the transfer met. -/
  | descriptorComplete (core : BitVec 10) (write : Bool) (place : Fin 4) (facts : DescFacts)
  /-- FAR_POST (R192): the core, the pair, and whether the room count is posted. -/
  | farPost (core : BitVec 10) (pair : Fin 64) (room : Bool)
  /-- REMOTE_TIMEOUT (R202): the node asked and the transaction. -/
  | remoteTimeout (node : Fin 4096) (txn : W32)
  /-- DESCRIPTOR_SLOT_FREED (R204): the core, its engine and the engine's slot. -/
  | descriptorSlotFreed (core : BitVec 10) (write : Bool) (place : Fin 4)
  /-- TIER_STREAM_FAULT_CLEAR (R207): the function that writes, and the word written. -/
  | tierStreamFaultClear (fn : Fin 33) (v : W32)
  /-- ALLOC (R215): the set, the function whose session sends it, and the message beside its type. -/
  | alloc (set : Fin 32) (fn : Fin 33) (head : HostHead)
  /-- FREE (R220): the set, the function whose session sends it, and the message beside its type. -/
  | free (set : Fin 32) (fn : Fin 33) (head : HostHead)
  /-- ALLOCATION_FREE_COMMIT (R220): the handle. -/
  | allocationFreeCommit (h : BitVec 20)
  /-- PUBLISH (R221): the set, the function whose session sends it, and the message beside its type. -/
  | publish (set : Fin 32) (fn : Fin 33) (head : HostHead)
  /-- PUBLISH_DIGEST_DONE (R221): the handle. -/
  | publishDigestDone (h : BitVec 20)
  /-- MOVE_COMMIT (R213): the seam record, and, where the copy failed, 0 for an error of the source, 1 for one of the destination. -/
  | moveCommit (k : Fin 256) (failed : Option MoveFailure)
  /-- LARGE_TIER_SCRUB (R226): corrected bursts of the sector, and an unreadable one. -/
  | largeTierScrub (ce : Nat) (ue : Option (Fin 16))
  /-- LEND_RECALL (R233): the other node, the granules recalled by now, and of those lent to it the ones it has returned. -/
  | lendRecall (node : Fin 4096) (recalled : Recalled) (returned : Nat)
  /-- TIER_LEND_CTRL_WRITE (R232): the function that writes, and the word written. -/
  | tierLendCtrlWrite (fn : Fin 33) (v : W32)
  /-- WASH_REGION_DONE (R453). -/
  | washRegionDone
  /-- SEAM_SUBMIT (R238): the submitter (Table 9.7), the scope, the owning slot and request, timing 1, and the actions. -/
  | seamSubmit (submitter : Fin 6) (scope : Option (Fin 32 × Fin 4)) (owner : Option (Fin 8192)) (reqId : W64) (timing : Bool) (actions : List (W64 × W64))
  /-- SEAM_LOCAL_PREPARE (R243): the seam record. -/
  | seamLocalPrepare (k : Fin 256)
  /-- SEAM_COMMIT_POINT (R252): the seam record. -/
  | seamCommitPoint (k : Fin 256)
  /-- SEAM_TIMEOUT (R252): the seam record. -/
  | seamTimeout (k : Fin 256)
  /-- SEAM_PREPARE (R257): the coordinator, its seam, the scope byte, the actions and their staged data. -/
  | seamPrepare (node : Fin 4096) (id : W32) (scope : BitVec 8) (actions : List (W64 × W64)) (staged : List Byte)
  /-- SEAM_READY (R257): the participant and the seam. -/
  | seamReady (node : Fin 4096) (id : W32)
  /-- SEAM_REFUSE (R257): the participant, the seam and the status. -/
  | seamRefuse (node : Fin 4096) (id : W32) (code : BitVec 8)
  /-- SEAM_COMMIT (R257): the coordinator and the seam. -/
  | seamCommit (node : Fin 4096) (id : W32)
  /-- SEAM_UNPICK (R257): the coordinator, the seam and the code. -/
  | seamUnpick (node : Fin 4096) (id : W32) (code : BitVec 8)
  /-- SEAM_DONE (R257): the participant, the seam and the status. -/
  | seamDone (node : Fin 4096) (id : W32) (status : BitVec 8)
  /-- SEAM_QUERY (R258): the participant and the seam. -/
  | seamQuery (node : Fin 4096) (id : W32)
  /-- SEAM_QUERY_TIMER (R258): the seam record. -/
  | seamQueryTimer (k : Fin 256)
  /-- SEAM_PEER_TIMEOUT (R257): the seam record. -/
  | seamPeerTimeout (k : Fin 256)
  /-- SEAM_CTRL_CLEAR_MAX (R262): the function that writes, and the word written. -/
  | seamCtrlClearMax (fn : Fin 33) (v : W32)
  /-- REQUEST (R267): the set, the function whose session sends it, and the message beside its type. -/
  | request (set : Fin 32) (fn : Fin 33) (head : HostHead) (cut : Option Nat)
  /-- PREFIX_INSERT (R292): the handle of the KV space. -/
  | prefixInsert (h : BitVec 20)
  /-- PREFIX_FLUSH (R305): the function that writes, and the word written. -/
  | prefixFlush (fn : Fin 33) (v : W32)
  /-- PREFIX_TREE_LOG2_WRITE (R305): the function that writes, and the word written. -/
  | prefixTreeLog2Write (fn : Fin 33) (v : W32)
  /-- EXCHANGE_TAKE_BLOCK (R309): the context. -/
  | exchangeTakeBlock (ctx : Fin 64)
  /-- CLAIM (R311): the source, transaction, partition, model and tags. -/
  | claim (node : Fin 4096) (txn : W32) (part : Fin 32) (model : Fin 1024) (tags : List W64)
  /-- EXPERT_WINDOW_SETTLE (R312): the expert's key. -/
  | expertWindowSettle (key : Nat)
  /-- GRANT (R314): the host, the transaction, and its two masks. -/
  | grant (node : Fin 4096) (txn : W32) (granted : W64) (notResident : W64)
  /-- ROW (R314): the source, the tags and the row. -/
  | row (node : Fin 4096) (tags : List W64) (data : List Byte)
  /-- RESULT (R314): the tag and the row. -/
  | result (tag : W64) (data : List Byte)
  /-- FAILED (R320): the tag. -/
  | failed (tag : W64)
  /-- EXPERT_TIMEOUT (R317): the context, the block's offset in its port, and the choice. -/
  | expertTimeout (ctx : Fin 64) (off : Nat) (choice : Nat)
  /-- PRIVATE_EXPERT_LOAD_DONE (R319): the partition, the object and version, the expert, and whether the load failed. -/
  | privateExpertLoadDone (part : Fin 32) (object : W32) (version : W32) (e : Fin 8) (failed : Bool)
  /-- FORMATION_MOVES_DONE (R335): the context. -/
  | formationMovesDone (ctx : Fin 64)
  /-- EVICTION_QUIET (R334): the context. -/
  | evictionQuiet (ctx : Fin 64)
  /-- EVICTION_TIMEOUT (R334): the context. -/
  | evictionTimeout (ctx : Fin 64)
  /-- DEMOTION_SAVE_DONE (R346): the context. -/
  | demotionSaveDone (ctx : Fin 64)
  /-- BCAST (R338): the port, the tree, the message's seq, the partition, object and version, granule and block, the tier named,
rehoming, and the 4 KiB. -/
  | bcast (port : Fin 16) (tree : Fin 256) (seqNo : W32) (part : Fin 32) (object : W32) (version : W32) (g : Nat) (block : Fin 16) (tier : Fin 4) (rehoming : Bool) (data : List Byte)
  /-- BCAST_END (R339): the port, the tree, the message's seq, the partition, object and version, the granules and the first, the tier
named and rehoming. -/
  | bcastEnd (port : Fin 16) (tree : Fin 256) (seqNo : W32) (part : Fin 32) (object : W32) (version : W32) (count : Nat) (first : Nat) (tier : Fin 4) (rehoming : Bool)
  /-- BCAST_RESUME (R371): the receiver that asks, the tree, object and version, and the granule. -/
  | bcastResume (node : Fin 4096) (tree : Fin 256) (object : W32) (version : W32) (g : Nat)
  /-- SERVING_RES_CLEAR (R348): the function that writes, and the word written. -/
  | servingResClear (fn : Fin 33) (v : W32)
  /-- FLIT_RECEIVE (R353): the port, the flit's bytes, and what the port measured. -/
  | flitReceive (port : Fin 16) (flit : List Byte) (facts : FlitFacts)
  /-- RETRY_REQUEST (R355): the port and the seq asked for. -/
  | retryRequest (port : Fin 16) (seqNo : BitVec 12)
  /-- RETRY_TIMER (R355): the port. -/
  | retryTimer (port : Fin 16)
  /-- LINK_STATE (R357): the port and the flit's aux field (Table 14.4). -/
  | linkState (port : Fin 16) (aux : BitVec 42)
  /-- LINK_STATE_TIMER (R357): the port. -/
  | linkStateTimer (port : Fin 16)
  /-- PORT_TRAINING_STEP (R358): the port, the step of Table 14.5 that completes, and the lanes that locked. -/
  | portTrainingStep (port : Fin 16) (stage : Fin 6) (lanes : BitVec 4)
  /-- PORT_DOWN (R379): the port and the case of R379. -/
  | portDown (port : Fin 16) (cause : Fin 7)
  /-- TRANSPORT_MESSAGE (R367): the message and the port it came by. -/
  | transportMessage (message : Message) (via : Option (Fin 16))
  /-- ACK_TIMER (R367): the flow. -/
  | ackTimer (flow : FlowId)
  /-- RETRANSMIT_TIMER (R367): the flow and the message's seq. -/
  | retransmitTimer (flow : FlowId) (seqNo : W32)
  /-- PROBE_START (R380): the node. -/
  | probeStart (node : Fin 4096)
  /-- PROBE (R380): the node that asks. -/
  | probe (node : Fin 4096)
  /-- PROBE_REPLY (R380): the node that answers and its incarnation. -/
  | probeReply (node : Fin 4096) (incarnation : BitVec 16)
  /-- PROBE_TIMEOUT (R380): the node. -/
  | probeTimeout (node : Fin 4096)
  /-- NODE_LOST (R382): the node lost, its incarnation, and the port the notice came by. -/
  | nodeLost (node : Fin 4096) (incarnation : BitVec 16) (via : Option (Fin 16))
  /-- NODE_JOINED (R384): the node, its new incarnation, and the port the notice came by. -/
  | nodeJoined (node : Fin 4096) (incarnation : BitVec 16) (via : Option (Fin 16))
  /-- ISOLATION_TIMER (R383). -/
  | isolationTimer
  /-- READ (R369): the requester, partition, transaction, address and bytes. -/
  | read (node : Fin 4096) (part : Fin 32) (txn : W32) (addr : FarAddr) (n : Nat)
  /-- WRITE (R369): the requester, partition, transaction, address and data. -/
  | write (node : Fin 4096) (part : Fin 32) (txn : W32) (addr : FarAddr) (data : List Byte)
  /-- MOVE_DATA (R368): the sender, partition, transaction, handle, granule, block and its 4 KiB. -/
  | moveData (node : Fin 4096) (part : Fin 32) (txn : W32) (h : BitVec 20) (g : Nat) (block : Fin 16) (data : List Byte)
  /-- MSG (R370): the source node, the partition named and the staged message. -/
  | msg (node : Fin 4096) (set : Fin 32) (data : List Byte)
  /-- READ_DATA (R368): the node that answers, the transaction and the data. -/
  | readData (node : Fin 4096) (txn : W32) (data : List Byte)
  /-- WRITE_ACK (R368): the node that answers and the transaction. -/
  | writeAck (node : Fin 4096) (txn : W32)
  /-- REFUSE (R369): the node that refuses and the transaction. -/
  | refuse (node : Fin 4096) (txn : W32)
  /-- MOVE_ACK (R368): the transaction. -/
  | moveAck (txn : W32)
  /-- DELAY_TIMER (R375): the port. -/
  | delayTimer (port : Fin 16)
  /-- DELAY_REQUEST (R375): the port and the turnaround in 1/16 ns. -/
  | delayRequest (port : Fin 16) (turnaround : W32)
  /-- DELAY_RESPONSE (R375): the port, the round trip and the turnaround, in 1/16 ns. -/
  | delayResponse (port : Fin 16) (trip : W32) (turnaround : W32)
  /-- PORT_ENABLE (R376): the port and its role, as the write reaches CAUSEWAY_PORT_CTRL. -/
  | portEnable (port : Fin 16) (role : BitVec 2)
  /-- PORT_DISABLE (R378): the port; its role stays. -/
  | portDisable (port : Fin 16)
  /-- PORT_KILL (R378): the port; role and enable stay. -/
  | portKill (port : Fin 16)
  /-- CAUSEWAY_NODE_WRITE (R360): the node ID, as the write reaches CAUSEWAY_NODE. -/
  | causewayNodeWrite (node : Fin 4096)
  /-- POSTED_WRITE_APPLY (R494): the slow domain, by its busy bit (Table 19.3). -/
  | postedWriteApply (domain : Fin 4)
  /-- MAILBOX_HANDOVER (R391): the function, the set, the slot, the bytes of its message area and the ownership word. -/
  | mailboxHandover (fn : Fin 33) (set : Fin 32) (slot : Fin 16) (area : List Byte) (word : W64)
  /-- OUT_CONS_WRITE (R395): the function, the set and the new out_cons. -/
  | outConsWrite (fn : Fin 33) (set : Fin 32) (v : W32)
  /-- MSIX_HOLDOFF_EXPIRY (R398): the function and its vector. -/
  | msixHoldoffExpiry (fn : Fin 33) (vec : Fin 34)
  /-- HELLO (R400): the set, the function whose session sends it, and the message beside its type. -/
  | hello (set : Fin 32) (fn : Fin 33) (head : HostHead)
  /-- CANCEL (R280): the set, the function whose session sends it, and the message beside its type. -/
  | cancel (set : Fin 32) (fn : Fin 33) (head : HostHead)
  /-- DATA_PUT (R404): the set, the function whose session sends it, and the message beside its type. -/
  | dataPut (set : Fin 32) (fn : Fin 33) (head : HostHead)
  /-- DATA_GET (R404): the set, the function whose session sends it, and the message beside its type. -/
  | dataGet (set : Fin 32) (fn : Fin 33) (head : HostHead)
  /-- SEAM (R401): the set, the function whose session sends it, and the message beside its type. -/
  | seam (set : Fin 32) (fn : Fin 33) (head : HostHead)
  /-- SEAM_ABORT (R256): the set, the function whose session sends it, and the message beside its type. -/
  | seamAbort (set : Fin 32) (fn : Fin 33) (head : HostHead)
  /-- DISABLE (R57): the set, the function whose session sends it, and the message beside its type. -/
  | disable (set : Fin 32) (fn : Fin 33) (head : HostHead)
  /-- EMERGENCY_DISABLE (R58): the set, the function whose session sends it, and the message beside its type. -/
  | emergencyDisable (set : Fin 32) (fn : Fin 33) (head : HostHead)
  /-- ENABLE (R59): the set, the function whose session sends it, and the message beside its type. -/
  | enable (set : Fin 32) (fn : Fin 33) (head : HostHead)
  /-- SET_LEG (R34): the set, the function whose session sends it, and the message beside its type. -/
  | setLeg (set : Fin 32) (fn : Fin 33) (head : HostHead)
  /-- SET_POWER (R461): the set, the function whose session sends it, and the message beside its type. -/
  | setPower (set : Fin 32) (fn : Fin 33) (head : HostHead)
  /-- QUERY (R401): the set, the function whose session sends it, and the message beside its type. -/
  | query (set : Fin 32) (fn : Fin 33) (head : HostHead)
  /-- EVENT_MASK (R416): the set, the function whose session sends it, and the message beside its type. -/
  | eventMask (set : Fin 32) (fn : Fin 33) (head : HostHead)
  /-- FW_UPDATE (R419): the set, the function whose session sends it, and the message beside its type. -/
  | fwUpdate (set : Fin 32) (fn : Fin 33) (head : HostHead)
  /-- CP_RESTART (R412): the set, the function whose session sends it, and the message beside its type. -/
  | cpRestart (set : Fin 32) (fn : Fin 33) (head : HostHead)
  /-- PF_FLR (R389). -/
  | pfFlr
  /-- VF_FLR (R389): the partition of the virtual function. -/
  | vfFlr (vf : Fin 32)
  /-- CP_WATCHDOG_EXPIRY (R410): the processor. -/
  | cpWatchdogExpiry (cp : Fin 4)
  /-- CP_EXCEPTION (R410): the processor and the address. -/
  | cpException (cp : Fin 4) (addr : W32)
  /-- FW_RESTART_WRITE (R412): the function that writes and the word written, or the processor that writes its own entry. -/
  | fwRestartWrite (fn : Fin 33) (v : W32) (own : Option (Fin 4))
  /-- CP_RESTART_DONE (R410): the processor. -/
  | cpRestartDone (cp : Fin 4)
  /-- FW_IMAGE_VERIFIED (R419). -/
  | fwImageVerified
  /-- FW_HANDOFF_TIMEOUT (R420): whether the old firmware's state was refused. -/
  | fwHandoffTimeout (refused : Bool)
  /-- MCTP_CONTROL (R405): the command and its first data byte. -/
  | mctpControl (command : BitVec 8) (data : BitVec 8)
  /-- PLDM_COMMAND (R406): what it asks. -/
  | pldmCommand (op : PldmOp)
  /-- PLDM_FW_UPDATE (R405): the image it brought. -/
  | pldmFwUpdate (image : List Byte)
  /-- HEARTBEAT (R407): the power budget in W. -/
  | heartbeat (budget : BitVec 11)
  /-- HEARTBEAT_LOST (R407). -/
  | heartbeatLost
  /-- SPDM_GET_VERSION (R479). -/
  | spdmGetVersion
  /-- SPDM_GET_CAPABILITIES (R479). -/
  | spdmGetCapabilities
  /-- SPDM_NEGOTIATE_ALGORITHMS (R479). -/
  | spdmNegotiateAlgorithms
  /-- SPDM_GET_DIGESTS (R479). -/
  | spdmGetDigests
  /-- SPDM_GET_CERTIFICATE (R479): the slot, offset and length. -/
  | spdmGetCertificate (slot : BitVec 8) (off : BitVec 16) (n : BitVec 16)
  /-- SPDM_CHALLENGE (R479): the slot and the requester's nonce. -/
  | spdmChallenge (slot : BitVec 8) (nonce : List Byte)
  /-- SPDM_GET_MEASUREMENTS (R480): the index and the requester's nonce. -/
  | spdmGetMeasurements (index : BitVec 8) (nonce : List Byte)
  /-- LC_STATUS (R482). -/
  | lcStatus
  /-- LC_NONCE (R482). -/
  | lcNonce
  /-- LC_NONCE_EXPIRY (R482). -/
  | lcNonceExpiry
  /-- LC_TOKEN (R483): the token. -/
  | lcToken (token : LcToken)
  /-- PROVISION (R483): the bundle. -/
  | provision (bundle : LcBundle)
  /-- GARBAGE_COLLECTION (R431): the target, its free blocks, the units moved, the blocks erased and gone bad, and the erase counts
afterwards. -/
  | garbageCollection (target : Nat) (freeNow : Nat) (units : Nat) (erased : Nat) (bad : Nat) (lo : Nat) (hi : Nat) (mean : Nat)
  /-- STATIC_WEAR_LEVELLING (R432): the target, the units moved and the erase counts afterwards. -/
  | staticWearLevelling (target : Nat) (units : Nat) (lo : Nat) (hi : Nat) (mean : Nat)
  /-- MAP_WRITEBACK (R429): the pages written. -/
  | mapWriteback (pages : Nat)
  /-- BANK_COMPACTION (R436): the bank. -/
  | bankCompaction (bank : Fin 2)
  /-- STORE_PATROL_SCRUB (R434): codewords retried, blocks refreshed, units moved, blocks gone bad, and an unreadable place of an
allocation: handle and offset. -/
  | storePatrolScrub (retried : Nat) (refreshed : Nat) (units : Nat) (bad : Nat) (ue : Option (Nat × Nat))
  /-- STORE_ZQ_CALIBRATION (R422). -/
  | storeZqCalibration
  /-- VAUX_GOOD (R450). -/
  | vauxGood
  /-- P1_COMPLETE (R450): what P1 found. -/
  | p1Complete (found : StartFound)
  /-- START_GRANT_ASSERT (R451). -/
  | startGrantAssert
  /-- START_GRANT_WITHDRAW (R449). -/
  | startGrantWithdraw
  /-- VMAIN_GOOD (R451). -/
  | vmainGood
  /-- PCIE_LINK_UP (R452). -/
  | pcieLinkUp
  /-- PERST_N_DEASSERT (R452). -/
  | perstDeassert
  /-- PERST_N_ASSERT (R452). -/
  | perstAssert
  /-- P2_COMPLETE (R451): the status with which the fallback pattern's press was unpicked, if it was. -/
  | p2Complete (press : Option (BitVec 8))
  /-- P3_COMPLETE (R451): the sub-channels that failed to train. -/
  | p3Complete (failed : List (Fin 128))
  /-- P4_COMPLETE (R454). -/
  | p4Complete
  /-- POWER_SAMPLE (R461): the sample. -/
  | powerSample (sample : PowerSample)
  /-- CLAMP_RELEASE (R465): whether it is the power clamp. -/
  | clampRelease (power : Bool)
  /-- PWRFAIL_N_ASSERT (R467). -/
  | pwrfailAssert
  /-- VMAIN_LOW (R467). -/
  | vmainLow
  /-- VAUX_LOW (R467). -/
  | vauxLow
  /-- RESET_N_ASSERT (R456). -/
  | resetAssert
  /-- RESET_N_DEASSERT (R456). -/
  | resetDeassert
  /-- SAVE_COMPLETE (R467). -/
  | saveComplete
  /-- PWRFAIL_N_DEASSERT (R468). -/
  | pwrfailDeassert
  /-- POWER_CAP_WRITE (R461): the function that writes, and the word written. -/
  | powerCapWrite (fn : Fin 33) (v : W32)
  /-- FL_SUPPLY_OVERCURRENT (R510): the voltage read, in 50 mV. -/
  | flSupplyOvercurrent (volts : Nat)
  /-- LPDDR_RETRAIN (R507): the sub-channel, the training code, the corrected bursts, and whether it failed three times. -/
  | lpddrRetrain (chan : Fin 128) (code : Fin 8) (ce : Nat) (failed : Bool)
  /-- GLOBAL_PLL_CTRL_WRITE (R504): the function that writes, and the word written. -/
  | globalPllCtrlWrite (fn : Fin 33) (v : W32)
  /-- SNAP_TAKE (R497): the function that writes, and the word written. -/
  | snapTake (fn : Fin 33) (v : W32)
  /-- SNAP_RELEASE (R498): the function that writes, and the word written. -/
  | snapRelease (fn : Fin 33) (v : W32)
  /-- ALIAS_WRITE (R501): the function, the offset of the alias word and the word written. -/
  | aliasWrite (fn : Fin 33) (off : Nat) (v : W32)
  /-- REGISTER_WRITE (R490): the function, the offset, the bytes written and their value. -/
  | registerWrite (fn : Fin 33) (off : Nat) (bytes : Nat) (v : W64)
  /-- SCAN_IN_COMPLETE (R163): the district. -/
  | scanInComplete (d : Fin 64)
  /-- LASER_LIGHT_RESTORED (R358): the port. -/
  | laserLightRestored (port : Fin 16)
  /-- VMAIN_AT_40_V (R511). -/
  | vmainAt40V
  /-- CONFIGURATION_REQUEST (R389): the function, what it asks, and whether a reset of the function has ended by now. -/
  | configurationRequest (fn : Fin 33) (op : ConfigOp) (done : Bool)
  /-- DIRECTORY_COPY_REWRITTEN (R210). -/
  | directoryCopyRewritten
  /-- MAP_PAGE_REBUILD_DONE (R437): the map page. -/
  | mapPageRebuildDone (page : Nat)
  /-- REPLICA_MADE (R222): the object and version, the granule, and whether its source met an error. -/
  | replicaMade (object : W32) (version : W32) (g : Nat) (failed : Bool)
  /-- BANK_RECORD_WRITTEN (R438): the record's kind and index, and whether the program failed. -/
  | bankRecordWritten (kind : BitVec 8) (index : Nat) (failed : Bool)
  /-- WEIGHT_BROADCAST_START (R338): the tree, object and version, first granule and count, partition, tier and rehoming. -/
  | weightBroadcastStart (tree : Fin 256) (object : W32) (version : W32) (first : Nat) (count : Nat) (part : Fin 32) (tier : Fin 4) (rehoming : Bool)
  /-- TEST_PORT_INSTRUCTION (R481): the instruction (log entry 9). -/
  | testPortInstruction (instr : Fin 5)
deriving DecidableEq, Repr

end Sys2Proof
end

