-- ==== Sys2Proof/Decode.lean ====
section
/-!
DEFINITION. The commands of this block are given by name and operands: the opcode table gives no row any bits, so no word spells one.
-/
namespace Sys2Proof

/-- The command a word spells by the table's bits: the table gives none. -/
def decodeTableWord (_nbits _w : Nat) : Option Instr := none

end Sys2Proof
end

