-- ==== Sys2Proof/Config.lean ====
section
/-!
DEFINITION. What one module fixes and what the manual leaves open. Every constant here is opaque: it has no body,
so nothing can evaluate it, and a statement about it holds for every value (log entry 1).
-/
namespace Sys2Proof.Config

/-- The free values: the n-th value drawn where the manual gives an effect and leaves the value open.
`State.free` counts the draws (log entry 1). -/
opaque freeValue : Nat → BitVec 64

/-- The finite results of a table function of VTAB, by selector and operand (R82, Table 3.5): the manual
bounds their error and gives no bits (log entry 1). -/
opaque tableResult : Nat → BitVec 32 → BitVec 32

/-- The shared operand sequence, keys and signatures of the enclave: what signs what is the enclave's own
(R477 to R484). Arguments: a public key's bytes, the message, the signature. -/
opaque slhDsaVerify : List (BitVec 8) → List (BitVec 8) → List (BitVec 8) → Bool

/-- A signature made by the enclave under the named key (0 Alias, 1 DeviceID, 2 Recovery), over a message. -/
opaque slhDsaSign : Nat → List (BitVec 8) → List (BitVec 8)

/-- The certificate chain the enclave holds in slot 0, as bytes (R479). -/
opaque certificateChain : List (BitVec 8)

/-- The 12 detail bytes of an event record, from its code and the values Table 15.17 lists for it: the manual gives
the values and no layout (log entry 12). -/
opaque eventDetail : Nat → List Nat → BitVec 96

/-- The data bytes of a REPLY to QUERY, from the selector, the argument and the LEG_COUNT: the manual gives no
layout (R401, log entry 13). -/
opaque queryData : Nat → Nat → Nat → List (BitVec 8)

/-- The bytes that carry what a transaction carries, from its operation and the values of Table 14.10 in their order: the first 24 are
the args field and the rest stand before the data (R368 gives no layout; log entry 15). -/
opaque txnLayout : Nat → List Nat → List (BitVec 8)

/-- The values and the data that a transaction's args and data fields carry, by operation (log entry 15). -/
opaque txnParse : Nat → List (BitVec 8) → List Nat × List (BitVec 8)

/-- What the tier codec makes of a 4 KiB block: its payload and the model it keeps; the coder's arithmetic is internal (R229). -/
opaque codedBlock : List (BitVec 8) → List (BitVec 8) × Nat

/-- The 496 parity bytes of a codeword of the store, from its 4,112 other bytes: the manual names the code and gives no matrix (R424). -/
opaque ldpcParity : List (BitVec 8) → List (BitVec 8)

/-- AES-256-XTS under the enclave's key of an index: the tweak, and the 4,096 bytes encrypted (R425); no key is ever shown. -/
opaque storeCipher : Nat → Nat → List (BitVec 8) → List (BitVec 8)

/-- The SEC-DED check bits of a burst, from its 32 data bytes and metadata bits 31:10: the manual gives no code (Table 8.5). -/
opaque burstCheck : List (BitVec 8) → Nat → BitVec 10

/-- Significand bits of the matrix unit's internal sum beyond the 32 it has at least (R109). -/
opaque sumExtraBits : Nat

/-- Which of the usual forms the rounding register's shift register takes (R122 gives its polynomial). -/
opaque lfsrForm : Nat

/-- Measurement 1: the digest of the enclave ROM (Table 18.3). -/
opaque romDigest : BitVec 256

end Sys2Proof.Config
end

