-- ==== Sys2Proof/Machine/Bits.lean ====
section
/-!
DEFINITION. Bit fields of numbers, byte order, and the small integer arithmetic the manual's pseudocode uses (R10, R21).
-/
namespace Sys2Proof.Machine

/-- Field `hi:lo` of a number: R21, `(value >> low) and ((1 << (high − low + 1)) − 1)`. -/
def bits (n hi lo : Nat) : Nat := (n >>> lo) % 2 ^ (hi + 1 - lo)

/-- Bit `i` of a number. -/
def bit (n i : Nat) : Bool := (n >>> i) % 2 == 1

/-- A number with field `hi:lo` replaced by `v`, cut to the field's width. -/
def withBits (n hi lo v : Nat) : Nat :=
  n - bits n hi lo * 2 ^ lo + (v % 2 ^ (hi + 1 - lo)) * 2 ^ lo

/-- 1 for true, 0 for false. -/
def b2n (b : Bool) : Nat := if b then 1 else 0

/-- Division rounded up; the divisor is never 0 where it is used. -/
def ceilDiv (a b : Nat) : Nat := (a + b - 1) / b

/-- The first number from `i` on, among `n` of them, that passes a test. -/
def firstFrom (p : Nat → Bool) : Nat → Nat → Option Nat
  | _, 0 => none
  | i, n + 1 => if p i then some i else firstFrom p (i + 1) n

/-- The number a little-endian list of bytes spells (R10). -/
def leNat : List Byte → Nat
  | [] => 0
  | b :: bs => b.toNat + 256 * leNat bs

/-- The `n` bytes of a number, the lowest first (R10). -/
def leBytes : Nat → Nat → List Byte
  | 0, _ => []
  | n + 1, v => BitVec.ofNat 8 v :: leBytes n (v / 256)

/-- `n` bytes of a list from offset `o`, 0 past its end. -/
def sliceBytes (l : List Byte) (o n : Nat) : List Byte :=
  let t := (l.drop o).take n
  t ++ List.replicate (n - t.length) 0

/-- The little-endian number of `n` bytes at offset `o`. -/
def fieldAt (l : List Byte) (o n : Nat) : Nat := leNat (sliceBytes l o n)

/-- Writes `v` over the list from offset `o`, as far as the list reaches. -/
def pokeBytes (l : List Byte) (o : Nat) (v : List Byte) : List Byte :=
  l.take o ++ v.take (l.length - o) ++ l.drop (o + v.length)

/-- Every byte of a range of the list is 0. -/
def zerosAt (l : List Byte) (o n : Nat) : Bool := (sliceBytes l o n).all (· == 0)

/-- The signed reading of the low 32 bits of a difference, as deadline and period rules take it (R33, R268). -/
def sdiff32 (a b : Nat) : Int :=
  let d : Nat := (a % 2 ^ 32 + 2 ^ 32 - b % 2 ^ 32) % 2 ^ 32
  if d < 2 ^ 31 then Int.ofNat d else Int.ofNat d - 2 ^ 32

/-- A number sign-extended from `w` bits to 64. -/
def sext64 (w n : Nat) : W64 := (BitVec.ofNat w n).signExtend 64


end Sys2Proof.Machine
end

