-- ==== Sys2Proof/Machine/RegMap.lean ====
section
/-!
DEFINITION. The register map of BAR0 as the manual's block tables give it (R489): every register's offset, and every
field's place, access code and reset value. A field without a table row is reserved: it reads 0 (R17). A register whose
block table gives no Reset column is a counter or a view and starts at 0 (log entry 10). Resets that depend on the part or
the core are in `resetWord` of Machine/Regs.lean.
-/
namespace Sys2Proof.Machine

/-- Access codes (Table 0.4). -/
inductive Acc where
  /-- Read and write. -/ | RW
  /-- Read only. -/ | RO
  /-- Writing 1 clears. -/ | W1C
  /-- Write only, reads 0. -/ | WO
  /-- Read and write, sticky. -/ | RWS
  /-- Posted write. -/ | PW
deriving DecidableEq, Repr

/-- What a virtual function reads of a register (Table 19.2). -/
inductive VfView where
  /-- Actual values. -/ | all
  /-- Its own partition's only. -/ | partition
  /-- Of its own districts only. -/ | district
  /-- Of its own contexts only. -/ | context
  /-- Of its own work counters only. -/ | counter
  /-- Always 0. -/ | none
deriving DecidableEq, Repr

/-- One field of a register: bits `hi:lo`, its access code and its reset value. -/
structure RegField where
  hi : Nat
  lo : Nat
  acc : Acc
  reset : Nat
deriving DecidableEq, Repr

/-- One row of a block map: `count` registers `stride` bytes apart from `base`; with `core` set, once in each of the
1,024 windows of the CORE block. `snap`: a snapshot register (Table 19.5). -/
structure RegDef where
  name : String
  base : Nat
  stride : Nat
  count : Nat
  core : Bool
  snap : Bool
  vf : VfView
  fields : List RegField
deriving DecidableEq, Repr

/-! Offsets by name (the index of an array is the argument; in the CORE window the first argument is the core). -/
namespace Reg

/-- R60. -/
abbrev LEG_PERIOD : Nat := 0x010000
/-- R60. -/
abbrev LEG_PERIOD_NEXT : Nat := 0x010004
/-- R60. -/
abbrev LEG_CHANGE_AT : Nat := 0x010008
/-- R60. -/
abbrev LEG_SYNC : Nat := 0x01000C
/-- R60. -/
abbrev LEG_SYNC_STATUS : Nat := 0x010010
/-- R60. -/
abbrev LEG_COUNT_LO : Nat := 0x010018
/-- R60. -/
abbrev LEG_COUNT_HI : Nat := 0x01001C
/-- R60. -/
abbrev LEG_SLIP_ITEMS : Nat := 0x010020
/-- R60. -/
abbrev LEG_SLIP_LEGS : Nat := 0x010024
/-- R60. -/
abbrev LEG_SLIP_AGE_MAX : Nat := 0x010028
/-- R60. -/
abbrev LEG_OVERRUN_MAX : Nat := 0x01002C
/-- R60. -/
abbrev LEG_STEP_LATE : Nat := 0x010030
/-- R60. -/
abbrev LEG_ERR : Nat := 0x010034
/-- R97. -/
abbrev CORE_ID (c : Nat) : Nat := 0x800000 + 0x1000 * c
/-- R97. -/
abbrev CORE_STATUS (c : Nat) : Nat := 0x800004 + 0x1000 * c
/-- R97. -/
abbrev CORE_FAULT (c : Nat) : Nat := 0x800008 + 0x1000 * c
/-- R97. -/
abbrev CORE_FAULT_PC (c : Nat) : Nat := 0x80000C + 0x1000 * c
/-- R97. -/
abbrev CORE_SHARE0 (c : Nat) : Nat := 0x800010 + 0x1000 * c
/-- R97. -/
abbrev CORE_SHARE1 (c : Nat) : Nat := 0x800014 + 0x1000 * c
/-- R97. -/
abbrev CORE_SHARE2 (c : Nat) : Nat := 0x800018 + 0x1000 * c
/-- R97. -/
abbrev CORE_SHARE3 (c : Nat) : Nat := 0x80001C + 0x1000 * c
/-- R97. -/
abbrev CORE_TILES (c : Nat) : Nat := 0x800020 + 0x1000 * c
/-- R97. -/
abbrev CORE_BANK_STALL (c : Nat) : Nat := 0x800024 + 0x1000 * c
/-- R97. -/
abbrev CORE_CTX_SWITCH (c : Nat) : Nat := 0x800028 + 0x1000 * c
/-- R97. -/
abbrev CORE_ECC_CE (c : Nat) : Nat := 0x80002C + 0x1000 * c
/-- R97. -/
abbrev CORE_SEM_OWNER (c i : Nat) : Nat := 0x800030 + 0x1000 * c + 4 * i
/-- R97. -/
abbrev CORE_SEM (c i : Nat) : Nat := 0x800100 + 0x1000 * c + 4 * i
/-- R133. -/
abbrev CORE_ARITH_SAT (c : Nat) : Nat := 0x800200 + 0x1000 * c
/-- R133. -/
abbrev CORE_ARITH_OVF (c : Nat) : Nat := 0x800204 + 0x1000 * c
/-- R133. -/
abbrev CORE_ARITH_NAN (c : Nat) : Nat := 0x800208 + 0x1000 * c
/-- R133. -/
abbrev CORE_ARITH_BADCODE (c : Nat) : Nat := 0x80020C + 0x1000 * c
/-- R133. -/
abbrev CORE_ARITH_LIMIT (c : Nat) : Nat := 0x800210 + 0x1000 * c
/-- R133. -/
abbrev CORE_AUDIT_CTRL (c : Nat) : Nat := 0x800214 + 0x1000 * c
/-- R133. -/
abbrev CORE_AUDIT_THRESH (c : Nat) : Nat := 0x800218 + 0x1000 * c
/-- R133. -/
abbrev CORE_AUDIT_DONE (c : Nat) : Nat := 0x80021C + 0x1000 * c
/-- R133. -/
abbrev CORE_AUDIT_SKIPPED (c : Nat) : Nat := 0x800220 + 0x1000 * c
/-- R133. -/
abbrev CORE_AUDIT_EXCEED (c : Nat) : Nat := 0x800224 + 0x1000 * c
/-- R133. -/
abbrev CORE_ARITH_CLEAR (c : Nat) : Nat := 0x800228 + 0x1000 * c
/-- R133. -/
abbrev CORE_HIST_ARRAY (c i : Nat) : Nat := 0x800240 + 0x1000 * c + 4 * i
/-- R133. -/
abbrev CORE_HIST_DRAIN (c i : Nat) : Nat := 0x800280 + 0x1000 * c + 4 * i
/-- R133. -/
abbrev CORE_AMAX (c i : Nat) : Nat := 0x8002C0 + 0x1000 * c + 4 * i
/-- R165. -/
abbrev SERVING_DIST_STATUS (i : Nat) : Nat := 0x120000 + 64 * i
/-- R165. -/
abbrev SERVING_DIST_STRAY (i : Nat) : Nat := 0x120004 + 64 * i
/-- R165. -/
abbrev SERVING_DIST_FLUSHED (i : Nat) : Nat := 0x120008 + 64 * i
/-- R165. -/
abbrev SERVING_DIST_STALLS (i : Nat) : Nat := 0x12000C + 64 * i
/-- R165. -/
abbrev SERVING_DIST_RESIDUE (i : Nat) : Nat := 0x120010 + 64 * i
/-- R165. -/
abbrev SERVING_DIST_PRESSES (i : Nat) : Nat := 0x120014 + 64 * i
/-- R165. -/
abbrev SERVING_DIST_NOTQUIET (i : Nat) : Nat := 0x120018 + 64 * i
/-- R165. -/
abbrev SERVING_DIST_WRING_CTRL (i : Nat) : Nat := 0x12001C + 64 * i
/-- R165. -/
abbrev SERVING_DIST_WRING_ADDR (i : Nat) : Nat := 0x120020 + 64 * i
/-- R165. -/
abbrev SERVING_DIST_WRING_STATUS (i : Nat) : Nat := 0x120024 + 64 * i
/-- R186. -/
abbrev SERVING_PLAN_CTRL : Nat := 0x130000
/-- R186. -/
abbrev SERVING_PLAN_STATUS : Nat := 0x130004
/-- R186. -/
abbrev SERVING_PLAN_SEL : Nat := 0x130008
/-- R186. -/
abbrev SERVING_PLAN_DATA (i : Nat) : Nat := 0x130040 + 4 * i
/-- R186. -/
abbrev SERVING_PLAN_FALLBACK (i : Nat) : Nat := 0x130100 + 4 * i
/-- R186. -/
abbrev SERVING_PLAN_NOPLAN (i : Nat) : Nat := 0x130180 + 4 * i
/-- R207. -/
abbrev TIER_STREAM_FAULT : Nat := 0x210000
/-- R207. -/
abbrev TIER_STREAM_FAULT_TAG : Nat := 0x210004
/-- R207. -/
abbrev TIER_STREAM_FAULT_ADDR : Nat := 0x210008
/-- R207. -/
abbrev TIER_STREAM_INFLIGHT : Nat := 0x21000C
/-- R207. -/
abbrev TIER_STREAM_DESC (i : Nat) : Nat := 0x210100 + 32 * i
/-- R207. -/
abbrev TIER_STREAM_RD (i : Nat) : Nat := 0x210104 + 32 * i
/-- R207. -/
abbrev TIER_STREAM_WR (i : Nat) : Nat := 0x210108 + 32 * i
/-- R207. -/
abbrev TIER_STREAM_MERGED (i : Nat) : Nat := 0x21010C + 32 * i
/-- R207. -/
abbrev TIER_STREAM_FAULTS (i : Nat) : Nat := 0x210110 + 32 * i
/-- R207. -/
abbrev TIER_STREAM_PREFDROP (i : Nat) : Nat := 0x210114 + 32 * i
/-- R207. -/
abbrev TIER_STREAM_CANCEL (i : Nat) : Nat := 0x210118 + 32 * i
/-- R237. -/
abbrev TIER_STATUS : Nat := 0x200000
/-- R237. -/
abbrev TIER_LARGE_GRANULES : Nat := 0x200004
/-- R237. -/
abbrev TIER_LARGE_FREE : Nat := 0x200008
/-- R237. -/
abbrev TIER_DIR_USED : Nat := 0x20000C
/-- R237. -/
abbrev TIER_ERR : Nat := 0x200010
/-- R237. -/
abbrev TIER_SCRUB_CTRL : Nat := 0x200014
/-- R237. -/
abbrev TIER_LEND_CTRL : Nat := 0x200018
/-- R237. -/
abbrev TIER_LEND_STATUS : Nat := 0x20001C
/-- R237. -/
abbrev TIER_CE_COUNT : Nat := 0x200020
/-- R237. -/
abbrev TIER_UE_COUNT : Nat := 0x200024
/-- R237. -/
abbrev TIER_CODEC_SAVED : Nat := 0x200028
/-- R237. -/
abbrev TIER_QUOTA (i : Nat) : Nat := 0x201000 + 32 * i
/-- R237. -/
abbrev TIER_SHARE (i : Nat) : Nat := 0x201004 + 32 * i
/-- R237. -/
abbrev TIER_USED (i : Nat) : Nat := 0x201008 + 32 * i
/-- R237. -/
abbrev TIER_LOST (i : Nat) : Nat := 0x20100C + 32 * i
/-- R262. -/
abbrev SEAM_CTRL : Nat := 0x300000
/-- R262. -/
abbrev SEAM_STATUS : Nat := 0x300004
/-- R262. -/
abbrev SEAM_CLOSED : Nat := 0x300008
/-- R262. -/
abbrev SEAM_UNPICKED : Nat := 0x30000C
/-- R262. -/
abbrev SEAM_ALREADY : Nat := 0x300010
/-- R262. -/
abbrev SEAM_FULL_COUNT : Nat := 0x300014
/-- R262. -/
abbrev SEAM_LAST : Nat := 0x300018
/-- R262. -/
abbrev SEAM_LEDGER_TIME : Nat := 0x30001C
/-- R282. -/
abbrev SERVING_STATUS : Nat := 0x100000
/-- R282. -/
abbrev SERVING_SCHED : Nat := 0x100004
/-- R282. -/
abbrev SERVING_ADMITTED : Nat := 0x100008
/-- R282. -/
abbrev SERVING_REFUSED : Nat := 0x10000C
/-- R282. -/
abbrev SERVING_OVERLOAD : Nat := 0x100010
/-- R282. -/
abbrev SERVING_MISSED : Nat := 0x100014
/-- R282. -/
abbrev SERVING_WL_ITEMS : Nat := 0x100018
/-- R282. -/
abbrev SERVING_WL_FULL : Nat := 0x10001C
/-- R282. -/
abbrev SERVING_BUILD_TIME : Nat := 0x100020
/-- R282. -/
abbrev SERVING_TENANT_SEL : Nat := 0x100024
/-- R282. -/
abbrev SERVING_TENANT_USED : Nat := 0x100028
/-- R282. -/
abbrev SERVING_TENANT_DEFICIT : Nat := 0x10002C
/-- R282. -/
abbrev SERVING_TENANT_BUDGET : Nat := 0x100030
/-- R282. -/
abbrev SERVING_TENANT_FLAGS : Nat := 0x100034
/-- R282. -/
abbrev SERVING_MODEL_SEL : Nat := 0x100038
/-- R282. -/
abbrev SERVING_MODEL_RATE : Nat := 0x10003C
/-- R282. -/
abbrev SERVING_PART_CFG (i : Nat) : Nat := 0x101000 + 64 * i
/-- R282. -/
abbrev SERVING_PART_QCFG (i : Nat) : Nat := 0x101004 + 64 * i
/-- R282. -/
abbrev SERVING_PART_RATE (i : Nat) : Nat := 0x101008 + 64 * i
/-- R282. -/
abbrev SERVING_PART_QUEUED (i : Nat) : Nat := 0x10100C + 64 * i
/-- R282. -/
abbrev SERVING_PART_QROWS (i : Nat) : Nat := 0x101010 + 64 * i
/-- R282. -/
abbrev SERVING_PART_SLOTS (i : Nat) : Nat := 0x101014 + 64 * i
/-- R282. -/
abbrev SERVING_PART_SLIP_ITEMS (i : Nat) : Nat := 0x101018 + 64 * i
/-- R282. -/
abbrev SERVING_PART_SLIP_LEGS (i : Nat) : Nat := 0x10101C + 64 * i
/-- R282. -/
abbrev SERVING_PART_OVERLOAD (i : Nat) : Nat := 0x101020 + 64 * i
/-- R282. -/
abbrev SERVING_PART_MISSED (i : Nat) : Nat := 0x101024 + 64 * i
/-- R282. -/
abbrev SERVING_PART_LATE (i : Nat) : Nat := 0x101028 + 64 * i
/-- R282. -/
abbrev SERVING_PART_NOFIT (i : Nat) : Nat := 0x10102C + 64 * i
/-- R305. -/
abbrev SERVING_PREFIX_CTRL : Nat := 0x140000
/-- R305. -/
abbrev SERVING_PREFIX_LOOKUPS : Nat := 0x140004
/-- R305. -/
abbrev SERVING_PREFIX_HITS : Nat := 0x140008
/-- R305. -/
abbrev SERVING_PREFIX_CUT : Nat := 0x14000C
/-- R305. -/
abbrev SERVING_PREFIX_INSERTED : Nat := 0x140010
/-- R305. -/
abbrev SERVING_PREFIX_SKIPPED : Nat := 0x140014
/-- R305. -/
abbrev SERVING_SPEC_NODES : Nat := 0x140018
/-- R305. -/
abbrev SERVING_SPEC_ACCEPTED : Nat := 0x14001C
/-- R305. -/
abbrev SERVING_SPEC_BADTREE : Nat := 0x140020
/-- R305. -/
abbrev SERVING_SPEC_NARROWED : Nat := 0x140024
/-- R305. -/
abbrev SERVING_EXIT_ROWS : Nat := 0x140028
/-- R305. -/
abbrev SERVING_EXIT_FILLED : Nat := 0x14002C
/-- R305. -/
abbrev SERVING_PREFIX_PART (i : Nat) : Nat := 0x140100 + 4 * i
/-- R321. -/
abbrev SERVING_EXPERT_CTRL : Nat := 0x150000
/-- R321. -/
abbrev SERVING_EXPERT_CLAIMED : Nat := 0x150004
/-- R321. -/
abbrev SERVING_EXPERT_ACCEPTED : Nat := 0x150008
/-- R321. -/
abbrev SERVING_EXPERT_BYP_FULL : Nat := 0x15000C
/-- R321. -/
abbrev SERVING_EXPERT_BYP_MISSING : Nat := 0x150010
/-- R321. -/
abbrev SERVING_EXPERT_BYP_PRIVATE : Nat := 0x150014
/-- R321. -/
abbrev SERVING_EXPERT_BYP_TIMEOUT : Nat := 0x150018
/-- R321. -/
abbrev SERVING_EXPERT_NOCHOICE : Nat := 0x15001C
/-- R321. -/
abbrev SERVING_EXPERT_HOSTED : Nat := 0x150020
/-- R321. -/
abbrev SERVING_EXPERT_LATE : Nat := 0x150024
/-- R321. -/
abbrev SERVING_EXPERT_SEL : Nat := 0x150028
/-- R321. -/
abbrev SERVING_EXPERT_USE : Nat := 0x15002C
/-- R321. -/
abbrev SERVING_EXPERT_PART (i : Nat) : Nat := 0x150100 + 16 * i
/-- R321. -/
abbrev SERVING_EXPERT_BAYLOADS (i : Nat) : Nat := 0x150104 + 16 * i
/-- R321. -/
abbrev SERVING_EXPERT_HELD (i : Nat) : Nat := 0x150108 + 16 * i
/-- R348. -/
abbrev SERVING_RES_STATUS : Nat := 0x160000
/-- R348. -/
abbrev SERVING_RES_FORMED : Nat := 0x160004
/-- R348. -/
abbrev SERVING_RES_EVICTED : Nat := 0x160008
/-- R348. -/
abbrev SERVING_RES_DEMOTED : Nat := 0x16000C
/-- R348. -/
abbrev SERVING_RES_PREEMPTS : Nat := 0x160010
/-- R348. -/
abbrev SERVING_RES_FORM_TIME : Nat := 0x160014
/-- R348. -/
abbrev SERVING_RES_CTR_SEL : Nat := 0x160018
/-- R348. -/
abbrev SERVING_RES_CTR_OWNER : Nat := 0x16001C
/-- R348. -/
abbrev SERVING_RES_CLEAR : Nat := 0x160020
/-- R348. -/
abbrev SERVING_CTX (i : Nat) : Nat := 0x161000 + 16 * i
/-- R348. -/
abbrev SERVING_CTX_USE (i : Nat) : Nat := 0x161004 + 16 * i
/-- R348. -/
abbrev SERVING_CTX_ITEMS (i : Nat) : Nat := 0x161008 + 16 * i
/-- R348. -/
abbrev SERVING_PART_DIST_LO (i : Nat) : Nat := 0x162000 + 16 * i
/-- R348. -/
abbrev SERVING_PART_DIST_HI (i : Nat) : Nat := 0x162004 + 16 * i
/-- R348. -/
abbrev SERVING_PART_STATE (i : Nat) : Nat := 0x162008 + 16 * i
/-- R385. -/
abbrev CAUSEWAY_PORT_CTRL (i : Nat) : Nat := 0x400000 + 4096 * i
/-- R385. -/
abbrev CAUSEWAY_PORT_STATUS (i : Nat) : Nat := 0x400004 + 4096 * i
/-- R385. -/
abbrev CAUSEWAY_PORT_DELAY (i : Nat) : Nat := 0x400008 + 4096 * i
/-- R385. -/
abbrev CAUSEWAY_PORT_FEC_CORR (i : Nat) : Nat := 0x40000C + 4096 * i
/-- R385. -/
abbrev CAUSEWAY_PORT_FEC_UNCORR (i : Nat) : Nat := 0x400010 + 4096 * i
/-- R385. -/
abbrev CAUSEWAY_PORT_CRC_ERR (i : Nat) : Nat := 0x400014 + 4096 * i
/-- R385. -/
abbrev CAUSEWAY_PORT_RETRIES (i : Nat) : Nat := 0x400018 + 4096 * i
/-- R385. -/
abbrev CAUSEWAY_PORT_DOWNS (i : Nat) : Nat := 0x40001C + 4096 * i
/-- R385. -/
abbrev CAUSEWAY_PORT_TX_FLITS (i : Nat) : Nat := 0x400020 + 4096 * i
/-- R385. -/
abbrev CAUSEWAY_PORT_RX_FLITS (i : Nat) : Nat := 0x400024 + 4096 * i
/-- R385. -/
abbrev CAUSEWAY_NODE : Nat := 0x400800
/-- R385. -/
abbrev CAUSEWAY_STATUS : Nat := 0x400804
/-- R385. -/
abbrev CAUSEWAY_LOST_SEL : Nat := 0x400808
/-- R385. -/
abbrev CAUSEWAY_LOST_STATE : Nat := 0x40080C
/-- R385. -/
abbrev CAUSEWAY_NOROUTE : Nat := 0x400810
/-- R385. -/
abbrev CAUSEWAY_HOPDROP : Nat := 0x400814
/-- R385. -/
abbrev CAUSEWAY_E2E_CRC : Nat := 0x400818
/-- R385. -/
abbrev CAUSEWAY_RETRANSMITS : Nat := 0x40081C
/-- R385. -/
abbrev CAUSEWAY_LOSSES : Nat := 0x400820
/-- R421. -/
abbrev MAILBOX_CTRL : Nat := 0x030000
/-- R421. -/
abbrev MAILBOX_ERR : Nat := 0x030004
/-- R421. -/
abbrev MAILBOX_STATUS (i : Nat) : Nat := 0x030100 + 16 * i
/-- R421. -/
abbrev MAILBOX_BACKLOG (i : Nat) : Nat := 0x030104 + 16 * i
/-- R421. -/
abbrev MAILBOX_DROPPED (i : Nat) : Nat := 0x030108 + 16 * i
/-- R421. -/
abbrev MAILBOX_LOST (i : Nat) : Nat := 0x03010C + 16 * i
/-- R421. -/
abbrev EVENT_PROD : Nat := 0x040000
/-- R421. -/
abbrev EVENT_CONS : Nat := 0x040004
/-- R421. -/
abbrev EVENT_LOST : Nat := 0x040008
/-- R421. -/
abbrev EVENT_IRQ : Nat := 0x04000C
/-- R421. -/
abbrev FW_VERSION : Nat := 0x700000
/-- R421. -/
abbrev FW_STATUS (i : Nat) : Nat := 0x700010 + 4 * i
/-- R421. -/
abbrev FW_RESTART : Nat := 0x700020
/-- R421. -/
abbrev FW_UPDATE_STATUS : Nat := 0x700024
/-- R421. -/
abbrev FW_LOG_PROD : Nat := 0x700028
/-- R421. -/
abbrev FW_LOG_SEL : Nat := 0x70002C
/-- R421. -/
abbrev FW_LOG_DATA (i : Nat) : Nat := 0x700040 + 4 * i
/-- R421. -/
abbrev FW_TRACE_EN (i : Nat) : Nat := 0x700080 + 4 * i
/-- R444. -/
abbrev STORE_STATUS : Nat := 0x600000
/-- R444. -/
abbrev STORE_GEOMETRY : Nat := 0x600004
/-- R444. -/
abbrev STORE_USABLE : Nat := 0x600008
/-- R444. -/
abbrev STORE_FREE : Nat := 0x60000C
/-- R444. -/
abbrev STORE_SCRUB_CTRL : Nat := 0x600010
/-- R444. -/
abbrev STORE_ERR : Nat := 0x600014
/-- R444. -/
abbrev STORE_SAVE_STATUS : Nat := 0x600018
/-- R444. -/
abbrev STORE_BANK_SEQ_LO : Nat := 0x60001C
/-- R444. -/
abbrev STORE_BANK_SEQ_HI : Nat := 0x600020
/-- R444. -/
abbrev STORE_RETRY_CW : Nat := 0x600024
/-- R444. -/
abbrev STORE_UE : Nat := 0x600028
/-- R444. -/
abbrev STORE_GROWN_BAD : Nat := 0x60002C
/-- R444. -/
abbrev STORE_REFRESHED : Nat := 0x600030
/-- R444. -/
abbrev STORE_HOST_UNITS : Nat := 0x600034
/-- R444. -/
abbrev STORE_NAND_UNITS : Nat := 0x600038
/-- R444. -/
abbrev STORE_WEAR : Nat := 0x60003C
/-- R444. -/
abbrev STORE_CHAN (i : Nat) : Nat := 0x600040 + 4 * i
/-- R471. -/
abbrev POWER_STATUS : Nat := 0x020000
/-- R471. -/
abbrev POWER_CAP : Nat := 0x020004
/-- R471. -/
abbrev POWER_BUDGET : Nat := 0x020008
/-- R471. -/
abbrev POWER_LIMIT : Nat := 0x02000C
/-- R471. -/
abbrev POWER_CLOCK : Nat := 0x020010
/-- R471. -/
abbrev POWER_TEMP : Nat := 0x020014
/-- R471. -/
abbrev POWER_RAILS : Nat := 0x020018
/-- R471. -/
abbrev POWER_CLAMPS : Nat := 0x02001C
/-- R471. -/
abbrev POWER_THROTTLE_LEGS : Nat := 0x020020
/-- R471. -/
abbrev POWER_SHED_LEGS : Nat := 0x020024
/-- R471. -/
abbrev POWER_START_TIME : Nat := 0x020028
/-- R488. -/
abbrev GLOBAL_SECURITY : Nat := 0x000040
/-- R488. -/
abbrev GLOBAL_DSN_LO : Nat := 0x000044
/-- R488. -/
abbrev GLOBAL_DSN_HI : Nat := 0x000048
/-- R503. -/
abbrev GLOBAL_ID : Nat := 0x000000
/-- R503. -/
abbrev GLOBAL_PART : Nat := 0x000004
/-- R503. -/
abbrev GLOBAL_DOMAIN_STATUS : Nat := 0x000008
/-- R503. -/
abbrev GLOBAL_ACCESS_ERR : Nat := 0x00000C
/-- R503. -/
abbrev GLOBAL_PLL_CTRL : Nat := 0x000010
/-- R503. -/
abbrev GLOBAL_PLL_STATUS : Nat := 0x000014
/-- R503. -/
abbrev GLOBAL_SCRATCH (i : Nat) : Nat := 0x000020 + 4 * i
/-- R506. -/
abbrev LPDDR_STATUS : Nat := 0x500000
/-- R506. -/
abbrev LPDDR_CTRL : Nat := 0x500004
/-- R506. -/
abbrev LPDDR_RETRAINS : Nat := 0x500008
/-- R506. -/
abbrev LPDDR_SUB (i : Nat) : Nat := 0x501000 + 4 * i
/-- R61. -/
abbrev POWER_KW_CTRL : Nat := 0x020100
/-- R61. -/
abbrev POWER_KW_FLOOR : Nat := 0x020104
/-- R61. -/
abbrev POWER_KW_FALL : Nat := 0x020108
/-- R61. -/
abbrev POWER_KW_STATUS : Nat := 0x02010C
/-- R98. -/
abbrev SERVING_CTR_STATE (i : Nat) : Nat := 0x110000 + 16 * i
/-- R98. -/
abbrev SERVING_CTR_CFG (i : Nat) : Nat := 0x110004 + 16 * i
/-- R98. -/
abbrev SERVING_CTR_DUP (i : Nat) : Nat := 0x110008 + 16 * i
/-- R98. -/
abbrev SERVING_CTR_STALE (i : Nat) : Nat := 0x11000C + 16 * i
/-- R505. -/
abbrev SNAP_CTRL : Nat := 0x050000
/-- R505. -/
abbrev SNAP_STATUS : Nat := 0x050004
/-- R505. -/
abbrev SNAP_LEG_LO : Nat := 0x050008
/-- R505. -/
abbrev SNAP_LEG_HI : Nat := 0x05000C
/-- R505. -/
abbrev SNAP_OFFSET : Nat := 0x050010

end Reg

/-- Rows of the LEG block. -/
def regsLeg0 : List RegDef := [
  ⟨"LEG_PERIOD", 0x010000, 4, 1, false, false, .all,
    [⟨13, 0, .RO, 1000⟩]⟩,
  ⟨"LEG_PERIOD_NEXT", 0x010004, 4, 1, false, false, .all,
    [⟨13, 0, .RW, 1000⟩]⟩,
  ⟨"LEG_CHANGE_AT", 0x010008, 4, 1, false, false, .all,
    [⟨31, 0, .RW, 0⟩]⟩,
  ⟨"LEG_SYNC", 0x01000C, 4, 1, false, false, .all,
    [⟨1, 0, .RW, 0⟩]⟩,
  ⟨"LEG_SYNC_STATUS", 0x010010, 4, 1, false, false, .all,
    [⟨31, 24, .RO, 0⟩, ⟨23, 8, .RO, 0⟩, ⟨1, 1, .RO, 0⟩, ⟨0, 0, .RO, 0⟩]⟩,
  ⟨"LEG_COUNT_LO", 0x010018, 4, 1, false, true, .all,
    [⟨31, 0, .RO, 0⟩]⟩,
  ⟨"LEG_COUNT_HI", 0x01001C, 4, 1, false, true, .all,
    [⟨31, 0, .RO, 0⟩]⟩,
  ⟨"LEG_SLIP_ITEMS", 0x010020, 4, 1, false, true, .all,
    [⟨31, 0, .RO, 0⟩]⟩,
  ⟨"LEG_SLIP_LEGS", 0x010024, 4, 1, false, true, .all,
    [⟨31, 0, .RO, 0⟩]⟩,
  ⟨"LEG_SLIP_AGE_MAX", 0x010028, 4, 1, false, true, .all,
    [⟨31, 0, .RO, 0⟩]⟩,
  ⟨"LEG_OVERRUN_MAX", 0x01002C, 4, 1, false, true, .all,
    [⟨31, 0, .RO, 0⟩]⟩,
  ⟨"LEG_STEP_LATE", 0x010030, 4, 1, false, true, .all,
    [⟨31, 0, .RO, 0⟩]⟩,
  ⟨"LEG_ERR", 0x010034, 4, 1, false, false, .all,
    [⟨2, 2, .WO, 0⟩, ⟨1, 1, .W1C, 0⟩, ⟨0, 0, .W1C, 0⟩]⟩]

/-- Rows of the CORE block. -/
def regsCore0 : List RegDef := [
  ⟨"CORE_ID", 0x800000, 4, 1, true, false, .none,
    [⟨15, 10, .RO, 0⟩, ⟨9, 5, .RO, 0⟩, ⟨4, 0, .RO, 0⟩]⟩,
  ⟨"CORE_STATUS", 0x800004, 4, 1, true, false, .none,
    [⟨11, 8, .RO, 0⟩, ⟨5, 4, .RO, 0⟩, ⟨3, 0, .RO, 0⟩]⟩,
  ⟨"CORE_FAULT", 0x800008, 4, 1, true, false, .none,
    [⟨31, 31, .W1C, 0⟩, ⟨15, 14, .RO, 0⟩, ⟨7, 0, .RO, 0⟩]⟩,
  ⟨"CORE_FAULT_PC", 0x80000C, 4, 1, true, false, .none,
    [⟨11, 0, .RO, 0⟩]⟩,
  ⟨"CORE_SHARE0", 0x800010, 4, 1, true, false, .none,
    [⟨13, 8, .RO, 0⟩, ⟨5, 0, .RO, 0⟩]⟩,
  ⟨"CORE_SHARE1", 0x800014, 4, 1, true, false, .none,
    [⟨13, 8, .RO, 0⟩, ⟨5, 0, .RO, 0⟩]⟩,
  ⟨"CORE_SHARE2", 0x800018, 4, 1, true, false, .none,
    [⟨13, 8, .RO, 0⟩, ⟨5, 0, .RO, 0⟩]⟩,
  ⟨"CORE_SHARE3", 0x80001C, 4, 1, true, false, .none,
    [⟨13, 8, .RO, 0⟩, ⟨5, 0, .RO, 0⟩]⟩,
  ⟨"CORE_TILES", 0x800020, 4, 1, true, true, .none,
    [⟨31, 0, .RO, 0⟩]⟩,
  ⟨"CORE_BANK_STALL", 0x800024, 4, 1, true, true, .none,
    [⟨31, 0, .RO, 0⟩]⟩,
  ⟨"CORE_CTX_SWITCH", 0x800028, 4, 1, true, true, .none,
    [⟨31, 0, .RO, 0⟩]⟩,
  ⟨"CORE_ECC_CE", 0x80002C, 4, 1, true, true, .none,
    [⟨31, 0, .RO, 0⟩]⟩,
  ⟨"CORE_SEM_OWNERi", 0x800030, 4, 8, true, false, .none,
    [⟨31, 0, .RO, 0⟩]⟩,
  ⟨"CORE_SEMi", 0x800100, 4, 64, true, true, .none,
    [⟨31, 0, .RO, 0⟩]⟩,
  ⟨"CORE_ARITH_SAT", 0x800200, 4, 1, true, true, .none,
    [⟨31, 0, .RO, 0⟩]⟩,
  ⟨"CORE_ARITH_OVF", 0x800204, 4, 1, true, true, .none,
    [⟨31, 0, .RO, 0⟩]⟩,
  ⟨"CORE_ARITH_NAN", 0x800208, 4, 1, true, true, .none,
    [⟨31, 0, .RO, 0⟩]⟩,
  ⟨"CORE_ARITH_BADCODE", 0x80020C, 4, 1, true, true, .none,
    [⟨31, 0, .RO, 0⟩]⟩,
  ⟨"CORE_ARITH_LIMIT", 0x800210, 4, 1, true, false, .none,
    [⟨31, 16, .RW, 1⟩, ⟨15, 0, .RW, 4096⟩]⟩,
  ⟨"CORE_AUDIT_CTRL", 0x800214, 4, 1, true, false, .none,
    [⟨16, 0, .RW, 1024⟩]⟩,
  ⟨"CORE_AUDIT_THRESH", 0x800218, 4, 1, true, false, .none,
    [⟨30, 24, .RW, 16⟩, ⟨19, 16, .RW, 15⟩, ⟨14, 8, .RW, 1⟩, ⟨3, 0, .RW, 5⟩]⟩,
  ⟨"CORE_AUDIT_DONE", 0x80021C, 4, 1, true, true, .none,
    [⟨31, 0, .RO, 0⟩]⟩,
  ⟨"CORE_AUDIT_SKIPPED", 0x800220, 4, 1, true, true, .none,
    [⟨31, 0, .RO, 0⟩]⟩,
  ⟨"CORE_AUDIT_EXCEED", 0x800224, 4, 1, true, true, .none,
    [⟨31, 0, .RO, 0⟩]⟩]

/-- Rows of the CORE block. -/
def regsCore1 : List RegDef := [
  ⟨"CORE_ARITH_CLEAR", 0x800228, 4, 1, true, false, .none,
    [⟨1, 1, .WO, 0⟩, ⟨0, 0, .WO, 0⟩]⟩,
  ⟨"CORE_HIST_ARRAYi", 0x800240, 4, 16, true, true, .none,
    [⟨31, 0, .RO, 0⟩]⟩,
  ⟨"CORE_HIST_DRAINi", 0x800280, 4, 16, true, true, .none,
    [⟨31, 0, .RO, 0⟩]⟩,
  ⟨"CORE_AMAXi", 0x8002C0, 4, 16, true, true, .none,
    [⟨31, 16, .RO, 0⟩, ⟨15, 0, .RO, 0⟩]⟩]

/-- Rows of the SERVING block. -/
def regsServing0 : List RegDef := [
  ⟨"SERVING_DIST_STATUS", 0x120000, 64, 64, false, true, .district,
    [⟨31, 16, .RO, 0⟩, ⟨12, 8, .RO, 0⟩, ⟨7, 7, .RO, 0⟩, ⟨2, 0, .RO, 0⟩]⟩,
  ⟨"SERVING_DIST_STRAY", 0x120004, 64, 64, false, true, .district,
    [⟨31, 0, .RO, 0⟩]⟩,
  ⟨"SERVING_DIST_FLUSHED", 0x120008, 64, 64, false, true, .district,
    [⟨31, 0, .RO, 0⟩]⟩,
  ⟨"SERVING_DIST_STALLS", 0x12000C, 64, 64, false, true, .district,
    [⟨31, 0, .RO, 0⟩]⟩,
  ⟨"SERVING_DIST_RESIDUE", 0x120010, 64, 64, false, true, .district,
    [⟨31, 0, .RO, 0⟩]⟩,
  ⟨"SERVING_DIST_PRESSES", 0x120014, 64, 64, false, true, .district,
    [⟨31, 0, .RO, 0⟩]⟩,
  ⟨"SERVING_DIST_NOTQUIET", 0x120018, 64, 64, false, true, .district,
    [⟨31, 0, .RO, 0⟩]⟩,
  ⟨"SERVING_DIST_WRING_CTRL", 0x12001C, 64, 64, false, false, .district,
    [⟨15, 8, .RW, 178⟩, ⟨1, 0, .WO, 0⟩]⟩,
  ⟨"SERVING_DIST_WRING_ADDR", 0x120020, 64, 64, false, false, .district,
    [⟨24, 0, .RW, 0⟩]⟩,
  ⟨"SERVING_DIST_WRING_STATUS", 0x120024, 64, 64, false, true, .district,
    [⟨31, 31, .RO, 0⟩, ⟨30, 30, .W1C, 0⟩, ⟨29, 27, .RO, 0⟩, ⟨23, 0, .RO, 0⟩]⟩,
  ⟨"SERVING_PLAN_CTRL", 0x130000, 4, 1, false, false, .all,
    [⟨16, 0, .RW, 16000⟩]⟩,
  ⟨"SERVING_PLAN_STATUS", 0x130004, 4, 1, false, true, .all,
    [⟨13, 0, .RO, 0⟩]⟩,
  ⟨"SERVING_PLAN_SEL", 0x130008, 4, 1, false, false, .all,
    [⟨12, 0, .RW, 0⟩]⟩,
  ⟨"SERVING_PLAN_DATAi", 0x130040, 4, 16, false, false, .none,
    [⟨31, 0, .RO, 0⟩]⟩,
  ⟨"SERVING_PLAN_FALLBACKi", 0x130100, 4, 32, false, true, .partition,
    [⟨31, 0, .RO, 0⟩]⟩,
  ⟨"SERVING_PLAN_NOPLANi", 0x130180, 4, 32, false, true, .partition,
    [⟨31, 0, .RO, 0⟩]⟩,
  ⟨"SERVING_STATUS", 0x100000, 4, 1, false, true, .all,
    [⟨30, 16, .RO, 0⟩, ⟨13, 0, .RO, 0⟩]⟩,
  ⟨"SERVING_SCHED", 0x100004, 4, 1, false, false, .all,
    [⟨24, 24, .WO, 0⟩, ⟨23, 8, .RW, 1024⟩, ⟨7, 0, .RW, 2⟩]⟩,
  ⟨"SERVING_ADMITTED", 0x100008, 4, 1, false, true, .all,
    [⟨31, 0, .RO, 0⟩]⟩,
  ⟨"SERVING_REFUSED", 0x10000C, 4, 1, false, true, .all,
    [⟨31, 0, .RO, 0⟩]⟩,
  ⟨"SERVING_OVERLOAD", 0x100010, 4, 1, false, true, .all,
    [⟨31, 0, .RO, 0⟩]⟩,
  ⟨"SERVING_MISSED", 0x100014, 4, 1, false, true, .all,
    [⟨31, 0, .RO, 0⟩]⟩,
  ⟨"SERVING_WL_ITEMS", 0x100018, 4, 1, false, true, .all,
    [⟨12, 0, .RO, 0⟩]⟩,
  ⟨"SERVING_WL_FULL", 0x10001C, 4, 1, false, true, .all,
    [⟨31, 0, .RO, 0⟩]⟩]

/-- Rows of the SERVING block. -/
def regsServing1 : List RegDef := [
  ⟨"SERVING_BUILD_TIME", 0x100020, 4, 1, false, true, .all,
    [⟨31, 0, .RO, 0⟩]⟩,
  ⟨"SERVING_TENANT_SEL", 0x100024, 4, 1, false, false, .all,
    [⟨11, 0, .RW, 0⟩]⟩,
  ⟨"SERVING_TENANT_USED", 0x100028, 4, 1, false, false, .none,
    [⟨31, 0, .RO, 0⟩]⟩,
  ⟨"SERVING_TENANT_DEFICIT", 0x10002C, 4, 1, false, false, .none,
    [⟨31, 0, .RO, 0⟩]⟩,
  ⟨"SERVING_TENANT_BUDGET", 0x100030, 4, 1, false, false, .none,
    [⟨31, 0, .RO, 0⟩]⟩,
  ⟨"SERVING_TENANT_FLAGS", 0x100034, 4, 1, false, false, .none,
    [⟨31, 0, .RO, 0⟩]⟩,
  ⟨"SERVING_MODEL_SEL", 0x100038, 4, 1, false, false, .all,
    [⟨9, 0, .RW, 0⟩]⟩,
  ⟨"SERVING_MODEL_RATE", 0x10003C, 4, 1, false, false, .none,
    [⟨31, 16, .RO, 16⟩, ⟨15, 0, .RO, 16⟩]⟩,
  ⟨"SERVING_PART_CFGp", 0x101000, 64, 32, false, true, .partition,
    [⟨23, 16, .RO, 230⟩, ⟨13, 0, .RO, 0⟩]⟩,
  ⟨"SERVING_PART_QCFGp", 0x101004, 64, 32, false, true, .partition,
    [⟨31, 16, .RO, 256⟩, ⟨14, 0, .RO, 1024⟩]⟩,
  ⟨"SERVING_PART_RATEp", 0x101008, 64, 32, false, true, .partition,
    [⟨31, 0, .RO, 0⟩]⟩,
  ⟨"SERVING_PART_QUEUEDp", 0x10100C, 64, 32, false, true, .partition,
    [⟨14, 0, .RO, 0⟩]⟩,
  ⟨"SERVING_PART_QROWSp", 0x101010, 64, 32, false, true, .partition,
    [⟨31, 0, .RO, 0⟩]⟩,
  ⟨"SERVING_PART_SLOTSp", 0x101014, 64, 32, false, true, .partition,
    [⟨13, 0, .RO, 0⟩]⟩,
  ⟨"SERVING_PART_SLIP_ITEMSp", 0x101018, 64, 32, false, true, .partition,
    [⟨31, 0, .RO, 0⟩]⟩,
  ⟨"SERVING_PART_SLIP_LEGSp", 0x10101C, 64, 32, false, true, .partition,
    [⟨31, 0, .RO, 0⟩]⟩,
  ⟨"SERVING_PART_OVERLOADp", 0x101020, 64, 32, false, true, .partition,
    [⟨31, 0, .RO, 0⟩]⟩,
  ⟨"SERVING_PART_MISSEDp", 0x101024, 64, 32, false, true, .partition,
    [⟨31, 0, .RO, 0⟩]⟩,
  ⟨"SERVING_PART_LATEp", 0x101028, 64, 32, false, true, .partition,
    [⟨31, 0, .RO, 0⟩]⟩,
  ⟨"SERVING_PART_NOFITp", 0x10102C, 64, 32, false, true, .partition,
    [⟨31, 0, .RO, 0⟩]⟩,
  ⟨"SERVING_PREFIX_CTRL", 0x140000, 4, 1, false, false, .all,
    [⟨8, 8, .WO, 0⟩, ⟨4, 0, .RW, 20⟩]⟩,
  ⟨"SERVING_PREFIX_LOOKUPS", 0x140004, 4, 1, false, true, .all,
    [⟨31, 0, .RO, 0⟩]⟩,
  ⟨"SERVING_PREFIX_HITS", 0x140008, 4, 1, false, true, .all,
    [⟨31, 0, .RO, 0⟩]⟩,
  ⟨"SERVING_PREFIX_CUT", 0x14000C, 4, 1, false, true, .all,
    [⟨31, 0, .RO, 0⟩]⟩]

/-- Rows of the SERVING block. -/
def regsServing2 : List RegDef := [
  ⟨"SERVING_PREFIX_INSERTED", 0x140010, 4, 1, false, true, .all,
    [⟨31, 0, .RO, 0⟩]⟩,
  ⟨"SERVING_PREFIX_SKIPPED", 0x140014, 4, 1, false, true, .all,
    [⟨31, 0, .RO, 0⟩]⟩,
  ⟨"SERVING_SPEC_NODES", 0x140018, 4, 1, false, true, .all,
    [⟨31, 0, .RO, 0⟩]⟩,
  ⟨"SERVING_SPEC_ACCEPTED", 0x14001C, 4, 1, false, true, .all,
    [⟨31, 0, .RO, 0⟩]⟩,
  ⟨"SERVING_SPEC_BADTREE", 0x140020, 4, 1, false, true, .all,
    [⟨31, 0, .RO, 0⟩]⟩,
  ⟨"SERVING_SPEC_NARROWED", 0x140024, 4, 1, false, true, .all,
    [⟨31, 0, .RO, 0⟩]⟩,
  ⟨"SERVING_EXIT_ROWS", 0x140028, 4, 1, false, true, .all,
    [⟨31, 0, .RO, 0⟩]⟩,
  ⟨"SERVING_EXIT_FILLED", 0x14002C, 4, 1, false, true, .all,
    [⟨31, 0, .RO, 0⟩]⟩,
  ⟨"SERVING_PREFIX_PARTp", 0x140100, 4, 32, false, true, .partition,
    [⟨2, 2, .RO, 0⟩, ⟨1, 0, .RO, 0⟩]⟩,
  ⟨"SERVING_EXPERT_CTRL", 0x150000, 4, 1, false, false, .all,
    [⟨21, 16, .RW, 16⟩, ⟨11, 0, .RW, 800⟩]⟩,
  ⟨"SERVING_EXPERT_CLAIMED", 0x150004, 4, 1, false, true, .all,
    [⟨31, 0, .RO, 0⟩]⟩,
  ⟨"SERVING_EXPERT_ACCEPTED", 0x150008, 4, 1, false, true, .all,
    [⟨31, 0, .RO, 0⟩]⟩,
  ⟨"SERVING_EXPERT_BYP_FULL", 0x15000C, 4, 1, false, true, .all,
    [⟨31, 0, .RO, 0⟩]⟩,
  ⟨"SERVING_EXPERT_BYP_MISSING", 0x150010, 4, 1, false, true, .all,
    [⟨31, 0, .RO, 0⟩]⟩,
  ⟨"SERVING_EXPERT_BYP_PRIVATE", 0x150014, 4, 1, false, true, .all,
    [⟨31, 0, .RO, 0⟩]⟩,
  ⟨"SERVING_EXPERT_BYP_TIMEOUT", 0x150018, 4, 1, false, true, .all,
    [⟨31, 0, .RO, 0⟩]⟩,
  ⟨"SERVING_EXPERT_NOCHOICE", 0x15001C, 4, 1, false, true, .all,
    [⟨31, 0, .RO, 0⟩]⟩,
  ⟨"SERVING_EXPERT_HOSTED", 0x150020, 4, 1, false, true, .all,
    [⟨31, 0, .RO, 0⟩]⟩,
  ⟨"SERVING_EXPERT_LATE", 0x150024, 4, 1, false, true, .all,
    [⟨31, 0, .RO, 0⟩]⟩,
  ⟨"SERVING_EXPERT_SEL", 0x150028, 4, 1, false, false, .all,
    [⟨31, 31, .RW, 0⟩, ⟨30, 15, .RW, 0⟩, ⟨12, 6, .RW, 0⟩, ⟨5, 0, .RW, 0⟩]⟩,
  ⟨"SERVING_EXPERT_USE", 0x15002C, 4, 1, false, false, .none,
    [⟨28, 16, .RO, 0⟩, ⟨12, 0, .RO, 0⟩]⟩,
  ⟨"SERVING_EXPERT_PARTp", 0x150100, 16, 32, false, true, .partition,
    [⟨12, 8, .RO, 0⟩, ⟨7, 0, .RO, 0⟩]⟩,
  ⟨"SERVING_EXPERT_BAYLOADSp", 0x150104, 16, 32, false, true, .partition,
    [⟨31, 0, .RO, 0⟩]⟩,
  ⟨"SERVING_EXPERT_HELDp", 0x150108, 16, 32, false, true, .partition,
    [⟨31, 0, .RO, 0⟩]⟩]

/-- Rows of the SERVING block. -/
def regsServing3 : List RegDef := [
  ⟨"SERVING_RES_STATUS", 0x160000, 4, 1, false, true, .all,
    [⟨10, 8, .RO, 0⟩, ⟨6, 0, .RO, 0⟩]⟩,
  ⟨"SERVING_RES_FORMED", 0x160004, 4, 1, false, true, .all,
    [⟨31, 0, .RO, 0⟩]⟩,
  ⟨"SERVING_RES_EVICTED", 0x160008, 4, 1, false, true, .all,
    [⟨31, 0, .RO, 0⟩]⟩,
  ⟨"SERVING_RES_DEMOTED", 0x16000C, 4, 1, false, true, .all,
    [⟨31, 0, .RO, 0⟩]⟩,
  ⟨"SERVING_RES_PREEMPTS", 0x160010, 4, 1, false, true, .all,
    [⟨31, 0, .RO, 0⟩]⟩,
  ⟨"SERVING_RES_FORM_TIME", 0x160014, 4, 1, false, true, .all,
    [⟨15, 0, .RO, 0⟩]⟩,
  ⟨"SERVING_RES_CTR_SEL", 0x160018, 4, 1, false, false, .all,
    [⟨11, 0, .RW, 0⟩]⟩,
  ⟨"SERVING_RES_CTR_OWNER", 0x16001C, 4, 1, false, false, .none,
    [⟨7, 7, .RO, 0⟩, ⟨4, 0, .RO, 0⟩]⟩,
  ⟨"SERVING_RES_CLEAR", 0x160020, 4, 1, false, false, .all,
    [⟨0, 0, .WO, 0⟩]⟩,
  ⟨"SERVING_CTXc", 0x161000, 16, 64, false, true, .context,
    [⟨31, 28, .RO, 0⟩, ⟨27, 23, .RO, 0⟩, ⟨22, 21, .RO, 0⟩, ⟨20, 15, .RO, 0⟩, ⟨14, 14, .RO, 0⟩, ⟨13, 13, .RO, 0⟩, ⟨9, 0, .RO, 0⟩]⟩,
  ⟨"SERVING_CTX_USEc", 0x161004, 16, 64, false, true, .context,
    [⟨18, 16, .RO, 4⟩, ⟨15, 0, .RO, 0⟩]⟩,
  ⟨"SERVING_CTX_ITEMSc", 0x161008, 16, 64, false, true, .context,
    [⟨31, 0, .RO, 0⟩]⟩,
  ⟨"SERVING_PART_DIST_LOp", 0x162000, 16, 32, false, true, .partition,
    [⟨31, 0, .RO, 0⟩]⟩,
  ⟨"SERVING_PART_DIST_HIp", 0x162004, 16, 32, false, true, .partition,
    [⟨31, 0, .RO, 0⟩]⟩,
  ⟨"SERVING_PART_STATEp", 0x162008, 16, 32, false, true, .partition,
    [⟨22, 15, .RO, 0⟩, ⟨11, 9, .RO, 0⟩, ⟨5, 3, .RO, 0⟩, ⟨1, 1, .RO, 0⟩, ⟨0, 0, .RO, 0⟩]⟩,
  ⟨"SERVING_CTR_STATE", 0x110000, 16, 4096, false, true, .counter,
    [⟨31, 31, .RO, 0⟩, ⟨30, 16, .RO, 0⟩, ⟨14, 0, .RO, 0⟩]⟩,
  ⟨"SERVING_CTR_CFG", 0x110004, 16, 4096, false, true, .counter,
    [⟨31, 31, .RO, 0⟩, ⟨28, 24, .RO, 0⟩, ⟨23, 20, .RO, 0⟩, ⟨19, 19, .RO, 0⟩, ⟨14, 0, .RO, 0⟩]⟩,
  ⟨"SERVING_CTR_DUP", 0x110008, 16, 4096, false, true, .counter,
    [⟨31, 0, .RO, 0⟩]⟩,
  ⟨"SERVING_CTR_STALE", 0x11000C, 16, 4096, false, true, .counter,
    [⟨31, 0, .RO, 0⟩]⟩]

/-- Rows of the TIER block. -/
def regsTier0 : List RegDef := [
  ⟨"TIER_STREAM_FAULT", 0x210000, 4, 1, false, false, .all,
    [⟨31, 31, .W1C, 0⟩, ⟨30, 26, .RO, 0⟩, ⟨25, 24, .RO, 0⟩, ⟨23, 23, .RO, 0⟩, ⟨19, 15, .RO, 0⟩, ⟨14, 10, .RO, 0⟩, ⟨7, 0, .RO, 0⟩]⟩,
  ⟨"TIER_STREAM_FAULT_TAG", 0x210004, 4, 1, false, false, .all,
    [⟨31, 0, .RO, 0⟩]⟩,
  ⟨"TIER_STREAM_FAULT_ADDR", 0x210008, 4, 1, false, false, .all,
    [⟨21, 0, .RO, 0⟩]⟩,
  ⟨"TIER_STREAM_INFLIGHT", 0x21000C, 4, 1, false, true, .all,
    [⟨13, 0, .RO, 0⟩]⟩,
  ⟨"TIER_STREAM_DESCp", 0x210100, 32, 32, false, true, .partition,
    [⟨31, 0, .RO, 0⟩]⟩,
  ⟨"TIER_STREAM_RDp", 0x210104, 32, 32, false, true, .partition,
    [⟨31, 0, .RO, 0⟩]⟩,
  ⟨"TIER_STREAM_WRp", 0x210108, 32, 32, false, true, .partition,
    [⟨31, 0, .RO, 0⟩]⟩,
  ⟨"TIER_STREAM_MERGEDp", 0x21010C, 32, 32, false, true, .partition,
    [⟨31, 0, .RO, 0⟩]⟩,
  ⟨"TIER_STREAM_FAULTSp", 0x210110, 32, 32, false, true, .partition,
    [⟨31, 0, .RO, 0⟩]⟩,
  ⟨"TIER_STREAM_PREFDROPp", 0x210114, 32, 32, false, true, .partition,
    [⟨31, 0, .RO, 0⟩]⟩,
  ⟨"TIER_STREAM_CANCELp", 0x210118, 32, 32, false, true, .partition,
    [⟨31, 0, .RO, 0⟩]⟩,
  ⟨"TIER_STATUS", 0x200000, 4, 1, false, false, .all,
    [⟨31, 31, .RO, 0⟩, ⟨30, 24, .RO, 0⟩, ⟨0, 0, .RO, 0⟩]⟩,
  ⟨"TIER_LARGE_GRANULES", 0x200004, 4, 1, false, false, .all,
    [⟨24, 0, .RO, 0⟩]⟩,
  ⟨"TIER_LARGE_FREE", 0x200008, 4, 1, false, true, .all,
    [⟨24, 0, .RO, 0⟩]⟩,
  ⟨"TIER_DIR_USED", 0x20000C, 4, 1, false, true, .all,
    [⟨27, 0, .RO, 0⟩]⟩,
  ⟨"TIER_ERR", 0x200010, 4, 1, false, false, .all,
    [⟨3, 3, .W1C, 0⟩, ⟨2, 2, .W1C, 0⟩, ⟨1, 1, .W1C, 0⟩, ⟨0, 0, .W1C, 0⟩]⟩,
  ⟨"TIER_SCRUB_CTRL", 0x200014, 4, 1, false, false, .all,
    [⟨8, 8, .RW, 1⟩, ⟨7, 0, .RW, 24⟩]⟩,
  ⟨"TIER_LEND_CTRL", 0x200018, 4, 1, false, false, .all,
    [⟨31, 31, .RW, 0⟩, ⟨30, 24, .RW, 0⟩, ⟨23, 16, .RW, 16⟩, ⟨15, 0, .RW, 0⟩]⟩,
  ⟨"TIER_LEND_STATUS", 0x20001C, 4, 1, false, true, .all,
    [⟨31, 16, .RO, 0⟩, ⟨15, 0, .RO, 0⟩]⟩,
  ⟨"TIER_CE_COUNT", 0x200020, 4, 1, false, true, .all,
    [⟨31, 0, .RO, 0⟩]⟩,
  ⟨"TIER_UE_COUNT", 0x200024, 4, 1, false, true, .all,
    [⟨31, 0, .RO, 0⟩]⟩,
  ⟨"TIER_CODEC_SAVED", 0x200028, 4, 1, false, true, .all,
    [⟨31, 0, .RO, 0⟩]⟩,
  ⟨"TIER_QUOTAp", 0x201000, 32, 32, false, false, .partition,
    [⟨24, 0, .RO, 0⟩]⟩,
  ⟨"TIER_SHAREp", 0x201004, 32, 32, false, false, .partition,
    [⟨7, 0, .RO, 0⟩]⟩]

/-- Rows of the TIER block. -/
def regsTier1 : List RegDef := [
  ⟨"TIER_USEDp", 0x201008, 32, 32, false, true, .partition,
    [⟨24, 0, .RO, 0⟩]⟩,
  ⟨"TIER_LOSTp", 0x20100C, 32, 32, false, true, .partition,
    [⟨31, 0, .RO, 0⟩]⟩]

/-- Rows of the SEAM block. -/
def regsSeam0 : List RegDef := [
  ⟨"SEAM_CTRL", 0x300000, 4, 1, false, false, .all,
    [⟨16, 16, .WO, 0⟩, ⟨15, 0, .RW, 1000⟩]⟩,
  ⟨"SEAM_STATUS", 0x300004, 4, 1, false, true, .all,
    [⟨24, 16, .RO, 0⟩, ⟨8, 0, .RO, 0⟩]⟩,
  ⟨"SEAM_CLOSED", 0x300008, 4, 1, false, true, .all,
    [⟨31, 0, .RO, 0⟩]⟩,
  ⟨"SEAM_UNPICKED", 0x30000C, 4, 1, false, true, .all,
    [⟨31, 0, .RO, 0⟩]⟩,
  ⟨"SEAM_ALREADY", 0x300010, 4, 1, false, true, .all,
    [⟨31, 0, .RO, 0⟩]⟩,
  ⟨"SEAM_FULL_COUNT", 0x300014, 4, 1, false, true, .all,
    [⟨31, 0, .RO, 0⟩]⟩,
  ⟨"SEAM_LAST", 0x300018, 4, 1, false, false, .all,
    [⟨31, 24, .RO, 0⟩, ⟨23, 19, .RO, 0⟩, ⟨15, 0, .RO, 0⟩]⟩,
  ⟨"SEAM_LEDGER_TIME", 0x30001C, 4, 1, false, true, .all,
    [⟨15, 0, .RO, 0⟩]⟩]

/-- Rows of the CAUSEWAY block. -/
def regsCauseway0 : List RegDef := [
  ⟨"CAUSEWAY_PORT_CTRL", 0x400000, 4096, 16, false, false, .none,
    [⟨4, 4, .PW, 0⟩, ⟨2, 2, .PW, 0⟩, ⟨1, 0, .PW, 0⟩]⟩,
  ⟨"CAUSEWAY_PORT_STATUS", 0x400004, 4096, 16, false, false, .none,
    [⟨31, 28, .RO, 0⟩, ⟨27, 16, .RO, 0⟩, ⟨15, 12, .RO, 0⟩, ⟨7, 4, .RO, 0⟩, ⟨3, 3, .RO, 0⟩, ⟨2, 0, .RO, 0⟩]⟩,
  ⟨"CAUSEWAY_PORT_DELAY", 0x400008, 4096, 16, false, false, .none,
    [⟨15, 0, .RO, 0⟩]⟩,
  ⟨"CAUSEWAY_PORT_FEC_CORR", 0x40000C, 4096, 16, false, true, .none,
    [⟨31, 0, .RO, 0⟩]⟩,
  ⟨"CAUSEWAY_PORT_FEC_UNCORR", 0x400010, 4096, 16, false, true, .none,
    [⟨31, 0, .RO, 0⟩]⟩,
  ⟨"CAUSEWAY_PORT_CRC_ERR", 0x400014, 4096, 16, false, true, .none,
    [⟨31, 0, .RO, 0⟩]⟩,
  ⟨"CAUSEWAY_PORT_RETRIES", 0x400018, 4096, 16, false, true, .none,
    [⟨31, 0, .RO, 0⟩]⟩,
  ⟨"CAUSEWAY_PORT_DOWNS", 0x40001C, 4096, 16, false, true, .none,
    [⟨31, 0, .RO, 0⟩]⟩,
  ⟨"CAUSEWAY_PORT_TX_FLITS", 0x400020, 4096, 16, false, true, .none,
    [⟨31, 0, .RO, 0⟩]⟩,
  ⟨"CAUSEWAY_PORT_RX_FLITS", 0x400024, 4096, 16, false, true, .none,
    [⟨31, 0, .RO, 0⟩]⟩,
  ⟨"CAUSEWAY_NODE", 0x400800, 4, 1, false, false, .none,
    [⟨31, 16, .RO, 0⟩, ⟨11, 0, .PW, 0⟩]⟩,
  ⟨"CAUSEWAY_STATUS", 0x400804, 4, 1, false, true, .none,
    [⟨31, 31, .RO, 0⟩, ⟨30, 30, .RO, 0⟩, ⟨15, 0, .RO, 0⟩]⟩,
  ⟨"CAUSEWAY_LOST_SEL", 0x400808, 4, 1, false, false, .none,
    [⟨11, 0, .PW, 0⟩]⟩,
  ⟨"CAUSEWAY_LOST_STATE", 0x40080C, 4, 1, false, false, .none,
    [⟨31, 31, .RO, 0⟩, ⟨15, 0, .RO, 0⟩]⟩,
  ⟨"CAUSEWAY_NOROUTE", 0x400810, 4, 1, false, true, .none,
    [⟨31, 0, .RO, 0⟩]⟩,
  ⟨"CAUSEWAY_HOPDROP", 0x400814, 4, 1, false, true, .none,
    [⟨31, 0, .RO, 0⟩]⟩,
  ⟨"CAUSEWAY_E2E_CRC", 0x400818, 4, 1, false, true, .none,
    [⟨31, 0, .RO, 0⟩]⟩,
  ⟨"CAUSEWAY_RETRANSMITS", 0x40081C, 4, 1, false, true, .none,
    [⟨31, 0, .RO, 0⟩]⟩,
  ⟨"CAUSEWAY_LOSSES", 0x400820, 4, 1, false, true, .none,
    [⟨31, 0, .RO, 0⟩]⟩]

/-- Rows of the MAILBOX block. -/
def regsMailbox0 : List RegDef := [
  ⟨"MAILBOX_CTRL", 0x030000, 4, 1, false, false, .none,
    [⟨9, 0, .RW, 0⟩]⟩,
  ⟨"MAILBOX_ERR", 0x030004, 4, 1, false, false, .none,
    [⟨0, 0, .W1C, 0⟩]⟩,
  ⟨"MAILBOX_STATUSp", 0x030100, 16, 32, false, false, .partition,
    [⟨23, 20, .RO, 0⟩, ⟨19, 16, .RO, 0⟩, ⟨1, 1, .RO, 0⟩, ⟨0, 0, .RO, 0⟩]⟩,
  ⟨"MAILBOX_BACKLOGp", 0x030104, 16, 32, false, true, .partition,
    [⟨31, 0, .RO, 0⟩]⟩,
  ⟨"MAILBOX_DROPPEDp", 0x030108, 16, 32, false, true, .partition,
    [⟨31, 0, .RO, 0⟩]⟩,
  ⟨"MAILBOX_LOSTp", 0x03010C, 16, 32, false, true, .partition,
    [⟨31, 0, .RO, 0⟩]⟩]

/-- Rows of the EVENT block. -/
def regsEvent0 : List RegDef := [
  ⟨"EVENT_PROD", 0x040000, 4, 1, false, true, .none,
    [⟨31, 0, .RO, 0⟩]⟩,
  ⟨"EVENT_CONS", 0x040004, 4, 1, false, false, .none,
    [⟨31, 0, .RW, 0⟩]⟩,
  ⟨"EVENT_LOST", 0x040008, 4, 1, false, true, .none,
    [⟨31, 0, .RO, 0⟩]⟩,
  ⟨"EVENT_IRQ", 0x04000C, 4, 1, false, false, .none,
    [⟨1, 0, .RW, 2⟩]⟩]

/-- Rows of the FW block. -/
def regsFw0 : List RegDef := [
  ⟨"FW_VERSION", 0x700000, 4, 1, false, false, .none,
    [⟨31, 0, .RO, 0⟩]⟩,
  ⟨"FW_STATUSc", 0x700010, 4, 4, false, false, .none,
    [⟨31, 24, .RO, 0⟩, ⟨23, 16, .RO, 0⟩, ⟨3, 0, .RO, 0⟩]⟩,
  ⟨"FW_RESTART", 0x700020, 4, 1, false, false, .none,
    [⟨3, 0, .WO, 0⟩]⟩,
  ⟨"FW_UPDATE_STATUS", 0x700024, 4, 1, false, false, .none,
    [⟨7, 4, .RO, 0⟩, ⟨3, 0, .RO, 0⟩]⟩,
  ⟨"FW_LOG_PROD", 0x700028, 4, 1, false, true, .none,
    [⟨31, 0, .RO, 0⟩]⟩,
  ⟨"FW_LOG_SEL", 0x70002C, 4, 1, false, false, .none,
    [⟨13, 0, .RW, 0⟩]⟩,
  ⟨"FW_LOG_DATAi", 0x700040, 4, 16, false, false, .none,
    [⟨31, 0, .RO, 0⟩]⟩,
  ⟨"FW_TRACE_ENi", 0x700080, 4, 8, false, false, .none,
    [⟨31, 0, .RW, 0⟩]⟩]

/-- Rows of the STORE block. -/
def regsStore0 : List RegDef := [
  ⟨"STORE_STATUS", 0x600000, 4, 1, false, false, .none,
    [⟨31, 28, .RO, 0⟩, ⟨27, 27, .RO, 0⟩, ⟨26, 26, .RO, 0⟩, ⟨25, 25, .RO, 0⟩, ⟨24, 24, .RO, 0⟩, ⟨23, 23, .RO, 0⟩, ⟨7, 0, .RO, 0⟩]⟩,
  ⟨"STORE_GEOMETRY", 0x600004, 4, 1, false, false, .none,
    [⟨31, 16, .RO, 0⟩, ⟨10, 8, .RO, 0⟩, ⟨5, 4, .RO, 0⟩, ⟨2, 0, .RO, 0⟩]⟩,
  ⟨"STORE_USABLE", 0x600008, 4, 1, false, false, .none,
    [⟨31, 0, .RO, 0⟩]⟩,
  ⟨"STORE_FREE", 0x60000C, 4, 1, false, true, .none,
    [⟨31, 0, .RO, 0⟩]⟩,
  ⟨"STORE_SCRUB_CTRL", 0x600010, 4, 1, false, false, .none,
    [⟨8, 8, .PW, 1⟩, ⟨7, 0, .PW, 7⟩]⟩,
  ⟨"STORE_ERR", 0x600014, 4, 1, false, false, .none,
    [⟨3, 3, .W1C, 0⟩, ⟨2, 2, .W1C, 0⟩, ⟨1, 1, .W1C, 0⟩, ⟨0, 0, .W1C, 0⟩]⟩,
  ⟨"STORE_SAVE_STATUS", 0x600018, 4, 1, false, false, .none,
    [⟨31, 30, .RO, 0⟩, ⟨29, 29, .RO, 0⟩, ⟨27, 0, .RO, 0⟩]⟩,
  ⟨"STORE_BANK_SEQ_LO", 0x60001C, 4, 1, false, false, .none,
    [⟨31, 0, .RO, 0⟩]⟩,
  ⟨"STORE_BANK_SEQ_HI", 0x600020, 4, 1, false, false, .none,
    [⟨31, 0, .RO, 0⟩]⟩,
  ⟨"STORE_RETRY_CW", 0x600024, 4, 1, false, true, .none,
    [⟨31, 0, .RO, 0⟩]⟩,
  ⟨"STORE_UE", 0x600028, 4, 1, false, true, .none,
    [⟨31, 0, .RO, 0⟩]⟩,
  ⟨"STORE_GROWN_BAD", 0x60002C, 4, 1, false, true, .none,
    [⟨31, 0, .RO, 0⟩]⟩,
  ⟨"STORE_REFRESHED", 0x600030, 4, 1, false, true, .none,
    [⟨31, 0, .RO, 0⟩]⟩,
  ⟨"STORE_HOST_UNITS", 0x600034, 4, 1, false, true, .none,
    [⟨31, 0, .RO, 0⟩]⟩,
  ⟨"STORE_NAND_UNITS", 0x600038, 4, 1, false, true, .none,
    [⟨31, 0, .RO, 0⟩]⟩,
  ⟨"STORE_WEAR", 0x60003C, 4, 1, false, true, .none,
    [⟨31, 16, .RO, 0⟩, ⟨15, 0, .RO, 0⟩]⟩,
  ⟨"STORE_CHANc", 0x600040, 4, 8, false, false, .none,
    [⟨31, 28, .RO, 0⟩, ⟨27, 26, .RO, 0⟩, ⟨2, 0, .RO, 0⟩]⟩]

/-- Rows of the POWER block. -/
def regsPower0 : List RegDef := [
  ⟨"POWER_STATUS", 0x020000, 4, 1, false, false, .all,
    [⟨31, 31, .RO, 0⟩, ⟨30, 30, .RO, 0⟩, ⟨29, 29, .RO, 0⟩, ⟨28, 28, .RO, 0⟩, ⟨27, 27, .RO, 0⟩, ⟨26, 26, .RO, 0⟩, ⟨25, 25, .RO, 0⟩, ⟨24, 24, .RO, 0⟩, ⟨23, 23, .RO, 0⟩, ⟨22, 20, .RO, 4⟩, ⟨2, 0, .RO, 0⟩]⟩,
  ⟨"POWER_CAP", 0x020004, 4, 1, false, false, .all,
    [⟨10, 0, .RW, 1700⟩]⟩,
  ⟨"POWER_BUDGET", 0x020008, 4, 1, false, false, .all,
    [⟨26, 16, .RO, 1700⟩, ⟨15, 0, .RO, 0⟩]⟩,
  ⟨"POWER_LIMIT", 0x02000C, 4, 1, false, true, .all,
    [⟨26, 16, .RO, 1700⟩, ⟨10, 0, .RO, 0⟩]⟩,
  ⟨"POWER_CLOCK", 0x020010, 4, 1, false, true, .all,
    [⟨26, 16, .RO, 1600⟩, ⟨10, 0, .RO, 1600⟩]⟩,
  ⟨"POWER_TEMP", 0x020014, 4, 1, false, true, .all,
    [⟨23, 16, .RO, 0⟩, ⟨7, 0, .RO, 0⟩]⟩,
  ⟨"POWER_RAILS", 0x020018, 4, 1, false, true, .all,
    [⟨31, 22, .RO, 0⟩, ⟨21, 12, .RO, 0⟩, ⟨11, 0, .RO, 0⟩]⟩,
  ⟨"POWER_CLAMPS", 0x02001C, 4, 1, false, true, .all,
    [⟨31, 0, .RO, 0⟩]⟩,
  ⟨"POWER_THROTTLE_LEGS", 0x020020, 4, 1, false, true, .all,
    [⟨31, 0, .RO, 0⟩]⟩,
  ⟨"POWER_SHED_LEGS", 0x020024, 4, 1, false, true, .all,
    [⟨31, 0, .RO, 0⟩]⟩,
  ⟨"POWER_START_TIME", 0x020028, 4, 1, false, false, .all,
    [⟨31, 16, .RO, 0⟩, ⟨15, 0, .RO, 0⟩]⟩,
  ⟨"POWER_KW_CTRL", 0x020100, 4, 1, false, false, .all,
    [⟨0, 0, .RW, 0⟩]⟩,
  ⟨"POWER_KW_FLOOR", 0x020104, 4, 1, false, false, .all,
    [⟨10, 0, .RW, 0⟩]⟩,
  ⟨"POWER_KW_FALL", 0x020108, 4, 1, false, false, .all,
    [⟨10, 0, .RW, 100⟩]⟩,
  ⟨"POWER_KW_STATUS", 0x02010C, 4, 1, false, true, .all,
    [⟨26, 16, .RO, 0⟩, ⟨10, 0, .RO, 0⟩]⟩]

/-- Rows of the GLOBAL block. -/
def regsGlobal0 : List RegDef := [
  ⟨"GLOBAL_SECURITY", 0x000040, 4, 1, false, false, .all,
    [⟨30, 24, .RO, 0⟩, ⟨21, 16, .RO, 0⟩, ⟨13, 8, .RO, 0⟩, ⟨5, 5, .RO, 0⟩, ⟨4, 4, .RO, 0⟩, ⟨3, 3, .RO, 0⟩, ⟨2, 0, .RO, 0⟩]⟩,
  ⟨"GLOBAL_DSN_LO", 0x000044, 4, 1, false, false, .all,
    [⟨31, 0, .RO, 0⟩]⟩,
  ⟨"GLOBAL_DSN_HI", 0x000048, 4, 1, false, false, .all,
    [⟨31, 0, .RO, 0⟩]⟩,
  ⟨"GLOBAL_ID", 0x000000, 4, 1, false, false, .all,
    [⟨31, 16, .RO, 2400⟩, ⟨15, 8, .RO, 176⟩]⟩,
  ⟨"GLOBAL_PART", 0x000004, 4, 1, false, false, .all,
    [⟨31, 28, .RO, 0⟩, ⟨27, 23, .RO, 0⟩, ⟨22, 15, .RO, 0⟩, ⟨10, 0, .RO, 0⟩]⟩,
  ⟨"GLOBAL_DOMAIN_STATUS", 0x000008, 4, 1, false, false, .all,
    [⟨19, 16, .W1C, 0⟩, ⟨3, 0, .RO, 0⟩]⟩,
  ⟨"GLOBAL_ACCESS_ERR", 0x00000C, 4, 1, false, false, .all,
    [⟨1, 1, .W1C, 0⟩, ⟨0, 0, .W1C, 0⟩]⟩,
  ⟨"GLOBAL_PLL_CTRL", 0x000010, 4, 1, false, false, .all,
    [⟨1, 0, .PW, 0⟩]⟩,
  ⟨"GLOBAL_PLL_STATUS", 0x000014, 4, 1, false, false, .all,
    [⟨3, 3, .RO, 0⟩, ⟨2, 2, .RO, 0⟩, ⟨1, 1, .RO, 0⟩, ⟨0, 0, .RO, 0⟩]⟩,
  ⟨"GLOBAL_SCRATCHi", 0x000020, 4, 4, false, false, .all,
    [⟨31, 0, .RWS, 0⟩]⟩]

/-- Rows of the LPDDR block. -/
def regsLpddr0 : List RegDef := [
  ⟨"LPDDR_STATUS", 0x500000, 4, 1, false, true, .none,
    [⟨31, 28, .RO, 0⟩, ⟨7, 0, .RO, 0⟩]⟩,
  ⟨"LPDDR_CTRL", 0x500004, 4, 1, false, false, .none,
    [⟨8, 8, .PW, 1⟩, ⟨7, 0, .PW, 100⟩]⟩,
  ⟨"LPDDR_RETRAINS", 0x500008, 4, 1, false, true, .none,
    [⟨31, 0, .RO, 0⟩]⟩,
  ⟨"LPDDR_SUBc", 0x501000, 4, 128, false, true, .none,
    [⟨31, 28, .RO, 0⟩, ⟨27, 25, .RO, 0⟩, ⟨15, 0, .RO, 0⟩]⟩]

/-- Rows of the SNAP block. -/
def regsSnap0 : List RegDef := [
  ⟨"SNAP_CTRL", 0x050000, 4, 1, false, false, .none,
    [⟨1, 1, .WO, 0⟩, ⟨0, 0, .WO, 0⟩]⟩,
  ⟨"SNAP_STATUS", 0x050004, 4, 1, false, false, .none,
    [⟨31, 31, .RO, 0⟩, ⟨15, 0, .RO, 0⟩]⟩,
  ⟨"SNAP_LEG_LO", 0x050008, 4, 1, false, false, .none,
    [⟨31, 0, .RO, 0⟩]⟩,
  ⟨"SNAP_LEG_HI", 0x05000C, 4, 1, false, false, .none,
    [⟨31, 0, .RO, 0⟩]⟩,
  ⟨"SNAP_OFFSET", 0x050010, 4, 1, false, false, .none,
    [⟨31, 0, .RO, 0⟩]⟩]

/-- Every register of BAR0. -/
def regTable : List RegDef :=
  regsLeg0 ++
  regsCore0 ++
  regsCore1 ++
  regsServing0 ++
  regsServing1 ++
  regsServing2 ++
  regsServing3 ++
  regsTier0 ++
  regsTier1 ++
  regsSeam0 ++
  regsCauseway0 ++
  regsMailbox0 ++
  regsEvent0 ++
  regsFw0 ++
  regsStore0 ++
  regsPower0 ++
  regsGlobal0 ++
  regsLpddr0 ++
  regsSnap0

/-- The row of the map that an offset falls in, and the index within it. -/
def RegDef.index? (r : RegDef) (off : Nat) : Option Nat :=
  let o := if r.core then (if 0x800000 ≤ off then 0x800000 + (off - 0x800000) % 0x1000 else 0) else off
  if o < r.base then none
  else
    let d := o - r.base
    if d % r.stride = 0 ∧ d / r.stride < r.count ∧ (r.core = true → off < 0xC00000) then some (d / r.stride) else none

/-- The row of the register at an aligned offset, if the map has one. -/
def findReg (off : Nat) : Option RegDef := regTable.find? (fun r => (r.index? off).isSome)

end Sys2Proof.Machine
end

