-- ==== Sys2Proof/Machine/CoreState.lean ====
section
/-!
DEFINITION. State of the cores, the districts and the on-die networks that no register shows (03, 04, 05, 07). The
default of every field is its value at reset.
-/
namespace Sys2Proof.Machine

/-- What a slot of a core holds of its pressed image (Table 5.8). -/
structure SlotImg where
  /-- round_mode of the pattern: stochastic (R120). -/
  stochastic : Bool := false
  /-- Work counters the image lists. -/
  counters : List Nat := []
  instrCount : Nat := 0
  instrs : Tab W64 := []
  /-- Route entries by network × 64 + circuit (Table 5.2). -/
  routes : Tab W32 := []
  /-- Input channel configurations by network × 16 + channel (Table 5.3). -/
  inputs : Tab W32 := []
  /-- Output channel configurations, in the same order. -/
  outputs : Tab W32 := []
  /-- Steering units 0 to 3 (Table 5.4). -/
  steer : Tab W64 := []
  /-- Initial counts of the pairs. -/
  initial : Tab W32 := []
deriving DecidableEq, Repr, Inhabited

/-- An entry of a queue: slot and epoch of its sender, and a flit, a tag and value in bits 35:0, or a token in bits 7:0. -/
structure QEntry where
  slot : Nat := 0
  epoch : Nat := 0
  circuit : Nat := 0
  data : BitVec 512 := 0
  /-- Its place in the extension region, if it lies there: its data is then what the region holds (R144). -/
  place : Option Nat := none
deriving DecidableEq, Repr, Inhabited

/-- A flit or token in a transit buffer: its network, the router it stands in and the port it came in by (R138). -/
structure Flight where
  net : Nat := 0
  core : Nat := 0
  port : Nat := 0
  entry : QEntry := {}
deriving DecidableEq, Repr, Inhabited

/-- A far request handed to Causeway and not answered: its transaction, the far byte address it begins at, and the rows' pieces it
serves: far offset within it, local address, bytes (R198). -/
structure FarReq where
  txn : Nat := 0
  node : Nat := 0
  base : Nat := 0
  pieces : List (Nat × Nat × Nat) := []
deriving DecidableEq, Repr, Inhabited

/-- A descriptor an engine holds (Table 7.1). -/
structure Desc where
  seqNo : Nat := 0
  /-- Issued by SWR. -/
  write : Bool := false
  /-- Its slot of the engine, 0 to 3. -/
  place : Nat := 0
  slot : Nat := 0
  epoch : Nat := 0
  part : Nat := 0
  /-- The work item whose tile issued it. -/
  item : Nat := 0
  words : List W64 := []
  /-- The scratch address it was issued from. -/
  addr : Nat := 0
  /-- Far requests not answered, and the local addresses of the pieces that such requests serve. -/
  reqs : List FarReq := []
  served : List Nat := []
  /-- 0 not started; 1 in progress; 2 cancelled, its slot not freed yet. -/
  state : Nat := 0
  /-- Instant of its start, in 10 ns. -/
  startedAt : Nat := 0
  /-- Far requests of its own that waited beside one of another descriptor which one far request may serve too (R198). -/
  shared : Nat := 0
  /-- Replicas its far requests resolved to: granule, tier, node and location (R222). -/
  copies : List (Nat × Nat × Nat × Nat) := []
deriving DecidableEq, Repr, Inhabited

/-- A half of the weight store: element and scale bytes as the scratchpad held them, and the formats they were loaded under. -/
structure WHalf where
  loaded : Bool := false
  wf : Nat := 0
  af : Nat := 0
  rows : Nat := 0
  elems : List Byte := []
  scales : List Byte := []
deriving DecidableEq, Repr, Inhabited

/-- An amax tracker (R124). -/
structure Amax where
  current : W32 := 0
  previous : W32 := 0
  raised : Bool := false
deriving DecidableEq, Repr, Inhabited

/-- One core. -/
structure Core where
  scal : Tab W64 := []
  /-- Predicates p0 to p15; p0 reads 1 (R66). -/
  pred : BitVec 16 := 1
  vec : Tab (BitVec 2048) := []
  pc : Nat := 0
  /-- Loop stack, innermost first: first and last instruction of the body and passes left (R70). -/
  loops : List (Nat × Nat × Nat) := []
  active : WHalf := {}
  inactive : WHalf := {}
  /-- MCFG: weight format, activation format, darning on. -/
  wf : Nat := 0
  af : Nat := 0
  darn : Bool := false
  /-- Darning rows for the next MMAC: K index and 64 FP8 values. -/
  darns : List (Nat × List Byte) := []
  /-- Accumulator words by tile × 8,192 + row × 64 + column, as this tile of work has written them; a word not listed holds
  the free value of `accBase` and its place (R65). -/
  acc : Tab W32 := []
  accBase : Nat := 0
  /-- Class of each tile: 1 floating point, 2 integer; 0 not set in this tile of work. -/
  accClass : Tab Nat := []
  /-- Rows of the accumulator with an uncorrectable error, by tile × 128 + row (R81). -/
  accBad : List Nat := []
  scratch : Mem := []
  /-- Unreadable 16-byte units of the scratchpad (R87). -/
  bad : List Nat := []
  /-- Amax trackers by slot × 8 + tracker (R124). -/
  amax : Tab Amax := []
  /-- The rounding register (R122). -/
  lfsr : W32 := 0
  /-- Audit: the count of starts, and the audit in flight: tile, row, reference (R127 to R131). -/
  auditCount : Nat := 0
  audit : Option (Nat × Nat × List W32) := none
  /-- The next start that qualifies is audited (R127). -/
  auditNext : Bool := false
  /-- CORE_ARITH_LIMIT and CORE_AUDIT_THRESH as they are in force (R134). -/
  limitNow : W32 := 0x00011000
  threshNow : W32 := 0x100F0105
  /-- LEG_COUNT at its last milestone boundary (R125). -/
  legSeen : W64 := 0
  /-- ARITH_LIMIT and AUDIT_EXCEED have been raised in this leg (R126, R131). -/
  limitRaised : Bool := false
  auditRaised : Bool := false
  /-- Increments of this leg: of CORE_ARITH_SAT, and of CORE_ARITH_OVF and CORE_ARITH_NAN together (R126). -/
  legSat : Nat := 0
  legOvf : Nat := 0
  /-- Images by slot. -/
  slots : Tab SlotImg := []
  /-- Input queues by network × 16 + channel, head first. -/
  queues : Tab (List QEntry) := []
  /-- Descriptors of both engines, in issue order, and the next sequence number of each. -/
  descs : List Desc := []
  readSeq : Nat := 0
  writeSeq : Nat := 0
  /-- Tickets of descriptors that never complete, until their number comes again (R190, R202, R204). -/
  dead : List Nat := []
  /-- The work item whose tile it runs. -/
  item : Option Nat := none
  /-- Items each slot was stopped in, with the instruction after the TBOUND (R342). -/
  resume : Tab (Nat × Nat) := []
  /-- A milestone stop is pending (Table 2.2, step 1). -/
  stop : Bool := false
  /-- A pre-emption is requested: the item that takes the core (R341). -/
  preempt : Option Nat := none
  /-- It reached a boundary; the sequencer's decision is due: the next instruction, and whether it was END (R67). -/
  boundary : Option (Nat × Bool) := none
  /-- The start of the tile in progress, in 10 ns. -/
  tileStart : Nat := 0
  /-- Instant of the last movement at this core, as the district stall monitor counts it, in 10 ns (R164). -/
  moved : Nat := 0
deriving DecidableEq, Repr, Inhabited

/-- A wring or a scan-in under way (R162, R163). -/
structure Wring where
  /-- 1 wring; 2 scan-in; 3 a wring that waits for an open press (R161). -/
  op : Nat := 0
  granule : Nat := 0
  granules : Nat := 0
  aborted : Bool := false
deriving DecidableEq, Repr, Inhabited

/-- The networks and districts. -/
structure NetSt where
  /-- Entries in transit buffers, oldest there first. -/
  flight : List Flight := []
  /-- Epoch advances that wait for a descriptor: district, slot, and whether an abort asked (R151). -/
  advances : List (Nat × Nat × Bool) := []
  wrings : Tab Wring := []
  /-- Work counters' completed and reissued indices, by counter × 16,384 + index (R90 to R93). -/
  done : List Nat := []
  reissued : List Nat := []
  /-- Far posts behind their data: core, pair, room, slot, epoch, value (R192). -/
  farPosts : List (Nat × Nat × Bool × Nat × Nat × Nat) := []
deriving DecidableEq, Repr, Inhabited

end Sys2Proof.Machine
end

