-- ==== Sys2Proof/Machine/HostState.lean ====
section
/-!
DEFINITION. State of the host interface, the events and the control processors that no register shows (15, 19).
The default of every field is its value at reset.
-/
namespace Sys2Proof.Machine

/-- An open session (R400) and the function it was opened through: 0 the physical function, p + 1 a virtual one. -/
structure Session where
  major : Nat := 0
  minor : Nat := 0
  fn : Nat := 0
deriving DecidableEq, Repr, Inhabited

/-- A mailbox set beside the bytes of its slots and ring (R390 to R400). -/
structure Mbox where
  session : Option Session := none
  /-- Messages for the set are discarded until a new HELLO (R389). -/
  closed : Bool := false
  /-- The function through which each slot was last handed over. -/
  slotFn : Tab Nat := []
  /-- Slots latched at the last step 1 (R393). -/
  latched : List Nat := []
  heldBack : Bool := false
  outProd : W32 := 0
  outCons : W32 := 0
  /-- Messages placed for the set in this session (Table 15.6). -/
  placed : W32 := 0
  /-- Messages of the backlog, oldest first. -/
  backlog : List (List Byte) := []
  lost : W32 := 0
  /-- LEG_COUNT of the last step 5 that read the set. -/
  legRead : W64 := 0
  /-- Event mask: sources passed and least severity (R416). -/
  maskSources : Nat := 0xFFFF
  maskSeverity : Nat := 2
deriving DecidableEq, Repr, Inhabited

/-- An MSI-X vector of a function (R398; masked at reset, log entry 6). -/
structure MsixVector where
  addr : W64 := 0
  data : W32 := 0
  masked : Bool := true
  pending : Bool := false
  /-- Instant of the last write sent, in 10 ns. -/
  lastSent : Option Nat := none
  /-- A placement waits for the end of the hold-off. -/
  held : Bool := false
deriving DecidableEq, Repr, Inhabited

/-- PCI Express configuration state of a function (R386 to R389; defaults of log entry 6). -/
structure PciFn where
  busMaster : Bool := false
  d3hot : Bool := false
  msixEnable : Bool := false
  functionMask : Bool := false
  /-- A Function Level Reset runs (R389). -/
  resetting : Bool := false
deriving DecidableEq, Repr, Inhabited

/-- An event record (Table 15.16). -/
structure EventRec where
  code : Nat := 0
  severity : Nat := 0
  source : Nat := 0
  part : Option Nat := none
  lost : Nat := 0
  leg : Nat := 0
  offset : Nat := 0
  /-- The values Table 15.17 lists for the code, in its order. -/
  detail : List Nat := []
deriving DecidableEq, Repr, Inhabited

/-- A log entry (R417). -/
structure LogRec where
  kind : Nat := 0
  cp : Nat := 0
  code : Nat := 0
  count : Nat := 0
  leg : Nat := 0
  body : List Byte := []
deriving DecidableEq, Repr, Inhabited

/-- A firmware update in progress (Table 15.18). -/
structure Update where
  handle : Nat := 0
  version : Nat := 0
  /-- Set and sequence of the FW_UPDATE; none for one started by PLDM. -/
  host : Option (Nat × Nat) := none
  /-- The image's bytes are those of the allocation, or those PLDM brought. -/
  image : Mem := []
  /-- Step of Table 15.18 reached. -/
  step : Nat := 0
  verified : Bool := false
  /-- Processors that have handed over, last first. -/
  handed : List Nat := []
deriving DecidableEq, Repr, Inhabited

/-- The host interface. -/
structure HostSt where
  mboxes : Tab Mbox := []
  /-- Bytes of request slots and outbox rings: set p, offset o at p × 65,536 + o. -/
  mem : Mem := []
  /-- MSI-X vectors by function × 64 + vector. -/
  vectors : Tab MsixVector := []
  fns : Tab PciFn := []
  numVfs : Nat := 0
  /-- MSI-X writes sent to the host, oldest first (R388). -/
  sent : List (W64 × W32) := []
  /-- The endpoint has trained and answers (R389, R452). -/
  linkUp : Bool := false
  /-- PERST_N has been deasserted once (R452). -/
  perstSeen : Bool := false
  /-- Answers to configuration requests, oldest first: function, register, value; none is Retry Status (R389). -/
  cfgAnswers : List (Nat × Nat × Option Nat) := []
  /-- Event ring by index mod 1,024, with the management-read mark (R408). -/
  ring : Tab (EventRec × Bool) := []
  /-- Records of each code entered in this leg; lost counts by code × 16 + source (R416). -/
  perLeg : Tab Nat := []
  lostCounts : Tab Nat := []
  /-- Log ring by index mod 16,384. -/
  log : Tab LogRec := []
  /-- Instants of the crashes of the last 60 s, by processor, in 10 ns (R411). -/
  crashes : Tab (List Nat) := []
  /-- Instant of the crash or restart being recovered from, by processor. -/
  downSince : Tab Nat := []
  /-- Commanded restarts waiting, in order, and the one running (R412). -/
  restarts : List Nat := []
  restarting : Option Nat := none
  update : Option Update := none
  /-- Allocation messages waiting for CP1: set, function, bytes (R409). -/
  deferred : List (Nat × Nat × List Byte) := []
deriving DecidableEq, Repr, Inhabited

end Sys2Proof.Machine
end

