-- ==== Sys2Proof/Machine/ServingState.lean ====
section
/-!
DEFINITION. State of the LEG block, the serving block, the seam block and the tier block that no register shows: the
pieces INVENTORY.md lists for 02, 08, 09, 10, 11 and 13. The default of every field is its value at reset.
-/
namespace Sys2Proof.Machine

/-- A 160-byte table entry; shorter entries use the low bytes (Table 9.4). -/
abbrev Entry := BitVec 1280

/-- The timebase (R30 to R40). Times are in units of 10 ns. -/
structure LegSt where
  /-- LEG_COUNT. -/
  count : W64 := 0
  /-- A milestone has happened since RESET_N: LEG_COUNT is 0 at the first one (R30). -/
  counted : Bool := false
  /-- The timebase runs (Table 17.3). -/
  running : Bool := false
  /-- Time of the last milestone instant. -/
  start : Nat := 0
  /-- Time since it. -/
  sub : Nat := 0
  /-- The armed change: milestone number and period (R33). -/
  armed : Option (Nat × Nat) := none
  /-- The phase correction of the leg under way, in 10 ns: what it is longer (R39). -/
  phase : Int := 0
  /-- References missed in a row (R40). -/
  missed : Nat := 0
  /-- A timing message has arrived since the mode was set (R35). -/
  messageSeen : Bool := false
  /-- Time of the last MILE_IN edge, and the interval before it (R35). -/
  lastEdge : Option Nat := none
  edgeGap : Option Nat := none
  /-- The length that the last edges give the leg under way, in 10 ns (R35). -/
  edgeLen : Option Nat := none
  /-- What a timing message carried for the instant to come: the milestone number, and the period if it is a legal one (R38). -/
  carried : Option (Nat × Option Nat) := none
  /-- The step from which on an earlier milestone's steps 2 to 4 are still to be done (R43). -/
  owed : Option Nat := none
deriving DecidableEq, Repr, Inhabited

/-- A request that is live (R267, R270): what its admission fixed and its slot does not hold. -/
structure Req where
  id : Nat := 0
  part : Nat := 0
  /-- 1 generate, 0 single pass. -/
  generate : Bool := false
  priority : Nat := 0
  hard : Bool := false
  patchValid : Bool := false
  /-- TOKENS messages are wanted (Table 15.9). -/
  stream : Bool := false
  widthMax : Nat := 0
  exitEnable : Nat := 0
  tenant : Nat := 0
  model : Nat := 0
  patch : Nat := 0
  promptLen : Nat := 0
  maxNew : Nat := 0
  deadlineLeg : Nat := 0xFFFFFFFF
  admittedLeg : Nat := 0
  inHandle : Nat := 0
  inOff : Nat := 0
  inputLen : Nat := 0
  outHandle : Nat := 0
  outOff : Nat := 0
  outputLen : Nat := 0
  predId : Nat := 0
  /-- The predecessor has ended DONE and its copy is made (R272). -/
  predDone : Bool := false
  /-- m, and the pages matched: index (0 tree, 1 table) and record, handle, page (R291). -/
  matched : List (Nat × Nat × Nat × Nat) := []
  /-- The patch entry's handle and version held since the match (R302). -/
  patchHandle : Nat := 0
  patchVersion : Nat := 0
  patchObject : Nat := 0
  /-- The admission queue still holds its entry (R270). -/
  queued : Bool := true
  /-- Its sequence slot, once assigned. -/
  slot : Option Nat := none
  /-- LEG_COUNT at its first placement (R279). -/
  firstPlaced : Option Nat := none
deriving DecidableEq, Repr, Inhabited

/-- A sequence slot (Table 10.2); one not listed is free. -/
structure Slot where
  reqId : Nat := 0
  /-- 0 free; 1 waiting for predecessor; 2 ready; 3 held; 4 placed. -/
  state : Nat := 0
  /-- Flags byte: kind, priority, hard deadline, patch_valid, prefill_done. -/
  flags : Nat := 0
  tenant : Nat := 0
  model : Nat := 0
  part : Nat := 0
  patch : Nat := 0
  position : Nat := 0
  promptLen : Nat := 0
  maxNew : Nat := 0
  generated : Nat := 0
  deadlineLeg : Nat := 0xFFFFFFFF
  admittedLeg : Nat := 0
  kvHead : W64 := 0
  spec : W64 := 0
  exit : W64 := 0
  predId : Nat := 0
  input : W64 := 0
  inputLen : Nat := 0
  outputLen : Nat := 0
  output : W64 := 0
  context : Nat := 0
  cursor : Nat := 0
  faultRun : Nat := 0
  lateLegs : Nat := 0
  estRows : Nat := 0
  /-- Its KV space's handle, 0 for none (R284). -/
  kvSpace : Nat := 0
  /-- The tree proposed in the report last read and not checked yet: its report buffer, or 2 for none (R293, R297). -/
  proposal : Option Nat := none
  /-- Bytes of the output range written. -/
  outBytes : Nat := 0
deriving DecidableEq, Repr, Inhabited

/-- An item of the work list (Table 10.6), with the sequences of its batch and the cores that have ended it. -/
structure Item where
  /-- The model's own name of the item, kept from leg to leg. -/
  uid : Nat := 0
  context : Nat := 0
  section_ : Nat := 0
  slip : Bool := false
  first : Bool := false
  last : Bool := false
  fallback : Bool := false
  slipAge : Nat := 0
  /-- Slots of the batch, in the order of its list. -/
  seqs : List Nat := []
  /-- rows(s) of each, by slot (R276). -/
  rows : Tab Nat := []
  list : Nat := 0
  entryPc : Nat := 0
  plan : Nat := 0
  index : Nat := 0
  len : Nat := 0
  blocks : Nat := 0
  est : Nat := 0
  leg : Nat := 0
  /-- Some core has taken it. -/
  started : Bool := false
  /-- Cores that have run its END. -/
  ended : List Nat := []
  /-- Every core of the rectangle has ended it. -/
  done : Bool := false
  /-- A resident expert context's own item, with no sequence (R309). -/
  standing : Bool := false
deriving DecidableEq, Repr, Inhabited

/-- A ledger entry (Table 9.2); one listed is valid. -/
structure Ledger where
  slot : Nat := 0
  reqId : Nat := 0
  retireDone : Bool := false
  firstPos : Nat := 0
  tokens : List W32 := []
  pages : Nat := 0
  charge : Nat := 0
deriving DecidableEq, Repr, Inhabited

/-- A request's end that its seam could not bring about yet: final status, class and cause, and the code its other seams are unpicked with
(R241, R245, log entry 44). -/
structure Ending where
  reqId : Nat := 0
  status : Nat := 0
  cls : Nat := 0
  cause : Nat := 0
  code : Nat := 0x11
deriving DecidableEq, Repr, Inhabited

/-- What an aborted task leaves to be changed in a slot at the next step 3 (R264): the section to go back to, and whether it counts as a
data-fault abort (R203). -/
structure Cut where
  slot : Nat := 0
  reqId : Nat := 0
  cursor : Nat := 0
  fault : Bool := false
deriving DecidableEq, Repr, Inhabited

/-- Something that can be disabled (R57). -/
inductive Fn where
  | partition (p : Nat)
  | model (m : Nat)
  /-- A model in one partition: a cleared bit of the catalog's partitions field, or a DISABLE from a virtual function. -/
  | modelIn (p m : Nat)
  | tenant (t : Nat)
  | patch (n : Nat)
  | expert (m l e : Nat)
  | port (n : Nat)
deriving DecidableEq, Repr, Inhabited

/-- A cancellation received (R280): its request, the set and the sequence of the message, and whether it is answered. -/
structure Cancel where
  reqId : Nat := 0
  set : Nat := 0
  seqNo : Nat := 0
deriving DecidableEq, Repr, Inhabited

/-- A prefix node record (Table 11.3). -/
structure PrefixNode where
  chain : BitVec 128 := 0
  pageHandle : Nat := 0
  pageIndex : Nat := 0
  parent : Nat := 0xFFFFFFFF
  children : Nat := 0
  block : Nat := 0
  lastUse : Nat := 0
  refs : Nat := 0
  valid : Bool := false
  part : Nat := 0
  object : Nat := 0
  model : Nat := 0
  patch : Nat := 0xFFFF
deriving DecidableEq, Repr, Inhabited

/-- Pages of a retired sequence whose publication is under way, to be inserted after it (R292). -/
structure PrefixPending where
  handle : Nat := 0
  object : Nat := 0
  part : Nat := 0
  model : Nat := 0
  patch : Nat := 0xFFFF
  /-- Blocks m, m + 1, …: chain hash and own page index. -/
  blocks : List (BitVec 128 × Nat) := []
  firstBlock : Nat := 0
  /-- The chain of block m − 1, if any. -/
  before : Option (BitVec 128) := none
deriving DecidableEq, Repr, Inhabited

/-- What a resident context holds beside SERVING_CTXc (R329). -/
structure Ctx where
  w : Nat := 1
  h : Nat := 1
  shareBase : Nat := 0
  shareSize : Nat := 0
  sections : Nat := 0
  /-- Plan table entries of its sections, in section order (R182). -/
  plans : List Nat := []
  /-- Section objects' handles, in section order. -/
  images : List Nat := []
  /-- The section whose image is pressed. -/
  pressed : Nat := 0
  seamPort : Nat := 0
  batchArea : Nat := 0
  /-- Step of Table 13.5 reached, and the start of the formation in 10 ns. -/
  formStep : Nat := 0
  formStart : Nat := 0
  /-- The schedule object's handle, 0 none (R231). -/
  schedule : Nat := 0
  /-- Why it is leaving: 0 not; 1 evicted; 2 demoted, with its save still to make. -/
  leaving : Nat := 0
  /-- The context number whose formation waits for this one's share (R345). -/
  formsFor : Option (Nat × Nat) := none
deriving DecidableEq, Repr, Inhabited

/-- A demoted context's share, saved (R346, R347): model, partition, save allocation. -/
structure Save where
  part : Nat := 0
  model : Nat := 0
  handle : Nat := 0
  expert : Bool := false
deriving DecidableEq, Repr, Inhabited

/-- A directory entry (Table 8.2). -/
structure DirEntry where
  /-- 0 free; 1 homed; 2 moving; 3 lost; 4 zero; 5 replica. -/
  state : Nat := 4
  /-- 0 scratchpad; 1 large tier; 2 store; 3 neighbour. -/
  tier : Nat := 0
  compressed : Bool := false
  node : Nat := 0
  use : Nat := 0
  location : Nat := 0
  allot : W64 := 0
  /-- Destination of a move under way: tier, node, location; its dirty 4 KiB blocks (R213). -/
  moveTo : Option (Nat × Nat × Nat) := none
  dirty : List Nat := []
deriving DecidableEq, Repr, Inhabited

/-- A replica of one granule of a published object (R222). -/
structure Replica where
  object : Nat := 0
  version : Nat := 0
  granule : Nat := 0
  part : Nat := 0
  /-- 0 scratchpad; 1 large tier; 2 store; 3 neighbour. -/
  tier : Nat := 0
  node : Nat := 0
  location : Nat := 0
  use : Nat := 0
  /-- Being made: reads skip it (R223). -/
  making : Bool := false
  /-- To be released once no far request resolved to it is outstanding: reads skip it (R222). -/
  going : Bool := false
deriving DecidableEq, Repr, Inhabited

/-- A place that a move or a free has left and that far requests which resolved to it still use: core and ticket of each descriptor
(R213, step 5). -/
structure HeldPlace where
  tier : Nat := 0
  node : Nat := 0
  location : Nat := 0
  sectors : Nat := 128
  users : List (Nat × Nat) := []
deriving DecidableEq, Repr, Inhabited

/-- A unit that is rebuilt from another node's copy: what is asked for, of whom, and since when in 10 ns (Table 8.10). -/
structure Rebuild where
  handle : Nat := 0
  off : Nat := 0
  len : Nat := 0
  txn : Nat := 0
  nodes : List Nat := []
  since : Nat := 0
deriving DecidableEq, Repr, Inhabited

/-- A block of a move that another module still has to acknowledge or to send: transaction, seam record, granule and 4 KiB block
(R213, Table 14.10). -/
structure MoveWait where
  txn : Nat := 0
  seam : Nat := 0
  handle : Nat := 0
  granule : Nat := 0
  block : Nat := 0
deriving DecidableEq, Repr, Inhabited

/-- A block of a replica that is being read from another module: transaction, node, object, version, granule and 4 KiB block (R222). -/
structure FetchWait where
  txn : Nat := 0
  node : Nat := 0
  handle : Nat := 0
  granule : Nat := 0
  block : Nat := 0
deriving DecidableEq, Repr, Inhabited

/-- A DATA_PUT or DATA_GET whose answer waits: its set, the message, and the far requests to lent granules it waits for; none outstanding
means that it waits for washed space (R236, R369). -/
structure HostWait where
  set : Nat := 0
  msg : List Byte := []
  /-- Node, transaction and byte offset of each request; what came back, by offset. -/
  asked : List (Nat × Nat × Nat) := []
  got : List (Nat × List Byte) := []
deriving DecidableEq, Repr, Inhabited

/-- A publication in progress (R221): object, version, expected digest, who asked. -/
structure Publication where
  object : Nat := 0
  version : Nat := 0
  digest : BitVec 256 := 0
  /-- Set and sequence of the host's PUBLISH; none for the serving block's own. -/
  host : Option (Nat × Nat) := none
deriving DecidableEq, Repr, Inhabited

/-- An allocation (R215). -/
structure Alloc where
  part : Nat := 0
  flags : Nat := 0
  granules : Nat := 0
  /-- The owning sequence slot and its request. -/
  owner : Option (Nat × Nat) := none
  placement : Bool := false
  core : Nat := 0
  /-- The bytes, by offset; a byte never written is 0 (state zero, R211). -/
  data : Mem := []
  /-- Directory entries by granule; one not listed is in state zero (R215). -/
  dir : Tab DirEntry := []
  /-- Unreadable 16-byte units, by index (R225, R234). -/
  bad : List Nat := []
  /-- Object ID and version once published (R221). -/
  published : Option (Nat × Nat) := none
  /-- The node of the authoritative home when it is not this module (R223). -/
  homeNode : Option Nat := none
  damaged : Bool := false
  /-- A DATA_PUT has written it (Table 15.12). -/
  hostWritten : Bool := false
  publishing : Option Publication := none
  /-- A free waits to commit: set and sequence of the FREE, if the host asked (R220). -/
  freeing : Option (Option (Nat × Nat)) := none
  /-- Held by the serving or tier block for itself (ports, areas, lists, spaces): not the host's to free. -/
  internal : Bool := false
  /-- Held for itself and not on a partition's behalf: in no partition's quota (log entry 115). -/
  uncharged : Bool := false
deriving DecidableEq, Repr, Inhabited

/-- The tier block. -/
structure TierSt where
  allocs : Tab Alloc := []
  /-- Freed handles and the LEG_COUNT of the free (R215). -/
  freed : List (Nat × Nat) := []
  replicas : List Replica := []
  /-- Last version published, by object ID (R221). -/
  lastVersion : Tab Nat := []
  /-- Regions of the large tier washed, in granules from 0 (R453). -/
  washed : Nat := 0
  /-- Large-tier granules lent, with the borrower's node (R232). -/
  lent : Tab Nat := []
  /-- Lent granules held from other nodes: node and first sector there (R232). -/
  borrowed : List (Nat × Nat) := []
  /-- Those of them that their lenders recall (R233). -/
  called : List (Nat × Nat) := []
  /-- Recalls under way: lender's side, node and granules (R233). -/
  recalls : Tab Nat := []
  /-- Prefetch entries queued: context, schedule handle, entry index (R231). -/
  prefetch : List (Nat × Nat × Nat) := []
  /-- Places of the block-hash table's granules, core × 64 + granule (R290). -/
  hashPlaces : List Nat := []
  /-- Bytes read and written by streams that do not fill 64 yet, by partition × 2 + direction (Table 7.7). -/
  streamRest : Tab Nat := []
  /-- Bytes of large-tier granules that no allocation homes, by byte address: wring buffers, and space lent (R162, R232). -/
  raw : Mem := []
  /-- The directory copy being rewritten (R210). -/
  dirRewrite : Bool := false
  /-- The next sector patrol scrub reads. -/
  scrubNext : Nat := 0
  /-- READs of a damaged home unit sent and not answered (Table 8.10). -/
  rebuilds : List Rebuild := []
  /-- MOVE_DATA messages not acknowledged, and READs of a granule that comes back from a lender not answered (R213, Table 14.10). -/
  moveAcks : List MoveWait := []
  /-- READs of replicas made of an object homed on another module, not answered (R222). -/
  fetches : List FetchWait := []
  /-- Places left that far requests still use (R213). -/
  leftPlaces : List HeldPlace := []
  /-- Granules written whose home waits for washed space or for a seam record: handle and granule (R230, R236). -/
  unhomed : List (Nat × Nat) := []
  /-- Replicas and moves into the large tier that wait for washed space: partition, handle, granule (R236). -/
  unwashed : List (Nat × Nat × Nat) := []
  /-- DATA_PUT and DATA_GET messages whose answer waits (R236, R369). -/
  hostWaits : List HostWait := []
  /-- Unreadable bursts of the large tier that no allocation homes: burst addresses (R225). -/
  poison : List Nat := []
deriving DecidableEq, Repr, Inhabited

/-- A participant's phase at the coordinator (Table 9.6). -/
structure Participant where
  node : Nat := 0
  /-- 0 SEAM_PREPARE sent; 1 ready; 2 decision sent; 3 done. -/
  phase : Nat := 0
deriving DecidableEq, Repr, Inhabited

/-- A general seam record (Table 9.1), beside its number. -/
structure Seam where
  gen : Nat := 0
  /-- 0 free; 1 gathering; 2 preparing; 3 ready; 4 applying; 5 final. -/
  state : Nat := 0
  status : Nat := 0
  timing : Nat := 0
  submitter : Nat := 0
  /-- Partition and pattern slot. -/
  scope : Option (Nat × Nat) := none
  owner : Option Nat := none
  coordNode : Nat := 0
  coordSeam : Nat := 0
  notify : Nat := 0
  reqId : Nat := 0
  openedAt : Nat := 0
  /-- The instant of the opening, in 10 ns. -/
  openedTime : Nat := 0
  actions : List (W64 × W64) := []
  results : List Nat := []
  /-- Copies of staged data, by action (R251). -/
  staged : List (List Byte) := []
  /-- Epoch read for each POST_SEM at its preparation (R251). -/
  epochs : List Nat := []
  /-- A seam port's context, record, issuing core and the epoch at the opening (R247). -/
  port : Option (Nat × Nat × Nat × Nat) := none
  /-- A host seam's set and message sequence. -/
  host : Option (Nat × Nat) := none
  /-- It came through a virtual function (R250). -/
  fromVf : Bool := false
  participants : List Participant := []
  /-- Ready at the last step 1 (R253). -/
  readyAtStep1 : Bool := false
  /-- The instant of the first milestone after the opening, in 10 ns (R253). -/
  firstMilestone : Option Nat := none
  /-- A participant's part whose key was in place (Table 9.6). -/
  inPlace : Bool := false
  /-- When a ready participant last sent SEAM_READY or SEAM_QUERY, in 10 ns (R258). -/
  askedAt : Nat := 0
  /-- A context whose formation, section change or retry opened the press. -/
  pressCtx : Option Nat := none
  /-- Kept-table pages whose records it waits for: kind and index (R438). -/
  waits : List (Nat × Nat) := []
  /-- Of a seam by which the serving block ends a request: class and cause of its final message (R256, Table 15.9). -/
  reason : Option (Nat × Nat) := none
  /-- SEAM_ABORTs that wait for the decision on a participant's part: set and message sequence (R255). -/
  aborts : List (Nat × Nat) := []
  /-- A participant's part whose SEAM_COMMIT has arrived and that waits for its turn to apply (R260). -/
  decided : Bool := false
deriving DecidableEq, Repr, Inhabited

/-- An open press between its quiet test and its load (R157 to R160). -/
structure Press where
  seam : Nat := 0
  part : Nat := 0
  slot : Nat := 0
  origin : Nat := 0
  image : Nat := 0
  /-- 0 waiting for quiet; 1 loading. -/
  phase : Nat := 0
  /-- Start of the wait, in 10 ns (R158). -/
  since : Nat := 0
deriving DecidableEq, Repr, Inhabited

/-- The serving block. -/
structure ServingSt where
  /-- Live requests in the order they were admitted. -/
  reqs : List Req := []
  /-- Sequence slots 0 to 8,191 that are not free. -/
  slots : Tab Slot := []
  /-- The work list, in list order. -/
  items : List Item := []
  ledger : Tab Ledger := []
  /-- Tokens used in the window, and deficits, by tenant (R275, R276). -/
  used : Tab Nat := []
  deficit : Tab Int := []
  rrStart : Nat := 0
  /-- Measured figures by model, 16 until measured (R279). -/
  tpl : Tab Nat := []
  passLegs : Tab Nat := []
  cancels : List Cancel := []
  /-- Functions disabled by message (R57, R59). -/
  disabled : List Fn := []
  ctxs : Tab Ctx := []
  saves : List Save := []
  tree : Tab PrefixNode := []
  hashTable : Tab PrefixNode := []
  /-- log2 of the records of the tree in force, and the resize waiting (R290). -/
  treeLog2 : Nat := 20
  resize : Bool := false
  prefixCount : Nat := 0
  prefixPending : List PrefixPending := []
  /-- List pool handles, by partition (R284). -/
  pools : Tab Nat := []
  /-- Name of the next item. -/
  nextItem : Nat := 0
  /-- Predecessor endings to copy or fail at the next step: predecessor's request ID, ended DONE (R272). -/
  depEnds : List (Nat × Bool) := []
  /-- Ends of requests to be brought about again, and changes of slots that wait for step 3 (R264). -/
  ending : List Ending := []
  cuts : List Cut := []
  /-- Entries of the tenant table and the catalog that a commit has replaced: what is in force until the next step 4 (R274, R328). -/
  replaced : Tab Entry := []
  /-- Partition entries committed before the milestone's instant, which come into force at its step 4 (R324). -/
  partDue : Tab Entry := []
deriving DecidableEq, Repr, Inhabited

/-- The seam block. -/
structure SeamSt where
  recs : Tab Seam := []
  /-- Generation of each record, kept while it is free (R245). -/
  gens : Tab Nat := []
  presses : List Press := []
deriving DecidableEq, Repr, Inhabited

end Sys2Proof.Machine
end

