-- ==== Sys2Proof/Machine/PowerState.lean ====
section
/-!
DEFINITION. State of the store, the power and start control, the enclave, the management endpoint, the test port and the
expert exchange that no register shows (12, 15 to 18, 20). The default of every field is its value at reset.
-/
namespace Sys2Proof.Machine

/-- A record of banks A and B as one bank holds it (Table 16.2); bodies of internal format are empty. -/
structure BankRec where
  seqNo : Nat := 0
  /-- Every codeword decodes and the check matches (R436). -/
  valid : Bool := true
  body : Mem := []
deriving DecidableEq, Repr, Inhabited

/-- A save image (Tables 16.5, 16.6). -/
structure SaveImg where
  saveSeq : Nat := 0
  valid : Bool := true
  leg : W64 := 0
  bankSeq : Nat := 0
  startCount : Nat := 0
  prefixCount : Nat := 0
  /-- Seams in state 4 that R260 saves, by record number. -/
  seams : List (Nat × Seam) := []
  mapChanges : Nat := 0
  dirChanges : Nat := 0
  log : List LogRec := []
deriving DecidableEq, Repr, Inhabited

/-- A NAND target: what R431 and R432 act on. -/
structure Target where
  blocks : Nat := 0
  freeBlocks : Nat := 0
  eraseMin : Nat := 0
  eraseMax : Nat := 0
  /-- Mean erase count, in hundredths. -/
  eraseMean : Nat := 0
  rating : Nat := 0
deriving DecidableEq, Repr, Inhabited

/-- A unit of the store's logical space that is written: its codewords, the key index and the write sequence that the metadata of each
carries (R424, R427); one not listed has 0 codewords. -/
structure StoreUnit where
  codewords : Nat := 0
  key : Nat := 0
  writeSeq : Nat := 0
deriving DecidableEq, Repr, Inhabited

/-- One codeword of the store: the metadata in the clear, the user bytes encrypted, and the parity over both (R424). -/
structure Codeword where
  unit : Nat := 0
  index : Nat := 0
  key : Nat := 0
  writeSeq : Nat := 0
  user : List Byte := []
  parity : List Byte := []
deriving DecidableEq, Repr, Inhabited

/-- Work that the store controller does of itself, with what the array's state makes of it: garbage collection of a target, static wear
levelling, map write-back, compaction of a bank, patrol scrub (R429, R431, R432, R434, R436). -/
inductive StoreWork where
  | collect (target free units erased bad lo hi mean : Nat)
  | level (target units lo hi mean : Nat)
  | writeback (pages : Nat)
  | compact (bank : Nat)
  | scrub (retried refreshed units bad : Nat) (ue : Option (Nat × Nat))
deriving DecidableEq, Repr, Inhabited

/-- A piece of that work waiting to be served, and the bank records that were waiting before it (R430). -/
structure StoreReq where
  work : StoreWork := .writeback 0
  ahead : List (Nat × Nat) := []
deriving DecidableEq, Repr, Inhabited

/-- The store and its controller. -/
structure StoreSt where
  /-- Bank records: bank b's copy of kind k, index i at (k × 2^20 + i) × 2 + b. -/
  records : Tab BankRec := []
  /-- The boot banks' images (R474): 0 A, 1 B. -/
  boot : Tab Mem := []
  /-- Save slots A and B; one not listed is erased. -/
  saves : Tab SaveImg := []
  /-- The configuration record in force, as P1 read it and SET_LEG and SET_POWER have changed it. -/
  config : Mem := []
  /-- REPLYs that wait for the configuration record: set, type, sequence (R438). -/
  replies : List (Nat × Nat × Nat) := []
  /-- Bank records waiting to be written: kind and index. -/
  unwritten : List (Nat × Nat) := []
  /-- Map and directory changes in the staging memory (R429). -/
  mapChanges : Nat := 0
  dirChanges : Nat := 0
  /-- Map pages being rebuilt (R437). -/
  rebuilding : List Nat := []
  targets : Tab Target := []
  /-- The written units, by unit number, and the last write sequence used (R424, R427). -/
  units : Tab StoreUnit := []
  writeSeq : Nat := 0
  /-- The controller's own work that waits for requests of a higher precedence, oldest first (R430). -/
  queue : List StoreReq := []
  /-- FLc_WP_N is asserted (R422). -/
  writeProtect : Bool := true
  /-- FL_VCC or FL_VCCQ has been switched off (R510). -/
  supplyOff : Bool := false
  /-- Starts counted, the one under way included (R440). -/
  startCount : Nat := 0
  /-- The image of the save area P1 took: its slot (R443). -/
  taken : Option Nat := none
  /-- The image sealed in the staging memory, while a save programs it (Table 17.7). -/
  sealed : Option SaveImg := none
deriving DecidableEq, Repr, Inhabited

/-- Power, heat and start (17). Times are in units of 10 ns. -/
structure PowerSt where
  /-- VAUX is good (R447): the safe domain runs. -/
  vauxGood : Bool := false
  /-- P1 has ended and nothing has stopped the start. -/
  p1Done : Bool := false
  /-- The START_GRANT pin. -/
  startGrant : Bool := false
  /-- VMAIN loads are enabled; the core-die rails are in regulation. -/
  loadsOn : Bool := false
  vmainGood : Bool := false
  /-- The input pins, true while asserted. -/
  pwrfail : Bool := false
  resetPin : Bool := false
  perst : Bool := true
  /-- A save runs; its cause (Table 17.10). -/
  saving : Option Nat := none
  /-- Seams that a power loss has cut off and the save does not hold: seam ID and scope (R260). -/
  cutSeams : List (Nat × Option (Nat × Nat)) := []
  /-- The module is held after a save (R468). -/
  held : Bool := false
  /-- A module reset is under way: a start follows it (R456). -/
  resetDue : Bool := false
  /-- Instants of P0's reference, START_GRANT, VMAIN good and the setting of the synchronisation mode (R447, R454). -/
  startAt : Nat := 0
  grantAt : Nat := 0
  vmainAt : Nat := 0
  modeAt : Nat := 0
  /-- Sum and number of the samples of the leg, and its highest Tj (R461, R463). -/
  legSum : Nat := 0
  legSamples : Nat := 0
  legTj : Nat := 0
  /-- The samples of the last 100 µs, newest first. -/
  window : List Nat := []
  /-- hot and cool (R464). -/
  hot : Nat := 0
  cool : Nat := 0
  /-- Instant of the last heartbeat, or of P4; a heartbeat has ended a loss and no step 6 has followed (R463, R469). -/
  beatAt : Option Nat := none
  restored : Bool := false
  /-- Since when each clamp's condition has been clear (Table 17.6). -/
  thermClear : Option Nat := none
  powerClear : Option Nat := none
  /-- The keep-warm load is stopped until a step 6 finds it may run (R55). -/
  kwStopped : Bool := false
  /-- CP0's fallback context and I/O area (R457, R459). -/
  fallbackCtx : Option Nat := none
  fallbackArea : Nat := 0
deriving DecidableEq, Repr, Inhabited

/-- A provisioning bundle's payload (R482): owner public key, configuration record body, kept-table pages by kind and index. -/
structure Bundle where
  ownerKey : List Byte := []
  config : List Byte := []
  pages : List (Nat × Nat × List Byte) := []
deriving DecidableEq, Repr, Inhabited

/-- The security enclave (18). What it holds per module stands at values of log entry 7. -/
structure EnclaveSt where
  uds : BitVec 256 := 0
  /-- SHA-256 of the image-signing keys, by slot, and the ROM's public keys (R472, R475). -/
  keyHashes : Tab (BitVec 256) := []
  romKeys : Tab (List Byte) := []
  revoked : BitVec 4 := 0
  drumasHash : BitVec 256 := 0
  minSvn : Nat := 0
  storeEpoch : Nat := 0
  systemEpoch : Nat := 0
  /-- Table 18.4. -/
  state : Nat := 0
  /-- The pending transition: target state, and the bundle of a provisioning (R484). -/
  pending : Option (Nat × Option Bundle) := none
  ownerHash : BitVec 256 := 0
  partGen : Tab Nat := []
  /-- The DeviceID public key (R478). -/
  deviceKey : List Byte := []
  /-- The nonce that is good, and the instant it was made (R482). -/
  nonce : Option (List Byte × Nat) := none
  /-- The bank the start booted, and the bank that holds the image running (R419). -/
  bootBank : Nat := 0
  runBank : Nat := 0
  imageSvn : Nat := 0
  /-- Digests of the booted image and of the Krovka running (Table 18.3). -/
  encDigest : BitVec 256 := 0
  krovkaDigest : BitVec 256 := 0
  /-- Measurements 6 and 7, as read in P1. -/
  measure6 : BitVec 256 := 0
  measure7 : BitVec 256 := 0
  /-- The Alias key could not be made: the stage (Table 18.8). -/
  aliasFailed : Option Nat := none
  /-- A crypto-erase whose allocations P3 has still to free (R485). -/
  erased : Bool := false
deriving DecidableEq, Repr, Inhabited

/-- An answer of the management endpoint: protocol, code and body (R405, R406). -/
structure MgmtAnswer where
  /-- 0 MCTP control; 1 PLDM; 2 SPDM; 3 vendor message. -/
  proto : Nat := 0
  code : Nat := 0
  body : List Byte := []
deriving DecidableEq, Repr, Inhabited

/-- The management endpoint (R405 to R408). -/
structure MgmtSt where
  /-- MCTP endpoint ID; 0 until Set Endpoint ID. -/
  eid : Nat := 0
  /-- Answers sent, oldest first. -/
  answers : List MgmtAnswer := []
deriving DecidableEq, Repr, Inhabited

/-- The IEEE 1149.1 port (R481, Table 20.6). -/
structure TestSt where
  /-- The instruction in force: 0 BYPASS, 1 IDCODE, 2 SAMPLE/PRELOAD, 3 EXTEST, 4 a Drumas debug instruction (log entry 9). -/
  instr : Nat := 1
  /-- Instructions refused. -/
  refused : Nat := 0
deriving DecidableEq, Repr, Inhabited

/-- A choice of a held dispatch block (Table 12.4). -/
structure Choice where
  tag : W64 := 0
  gate : W32 := 0
  token : Nat := 0
  /-- Its host. -/
  host : Nat := 0
  /-- The transaction of the CLAIM that carries it. -/
  txn : Nat := 0
  /-- 0 not claimed; 1 claimed; 2 granted; 3 accepted; 4 bypassed. -/
  state : Nat := 0
  claimedAt : Nat := 0
  result : List Byte := []
deriving DecidableEq, Repr, Inhabited

/-- A dispatch block (R309): its place in the port, its issuer, and its choices once it is held. -/
structure DispBlock where
  ctx : Nat := 0
  off : Nat := 0
  core : Nat := 0
  /-- The slot's epoch when the exchange took it (R316). -/
  epoch : Nat := 0
  /-- The work item whose tile wrote it. -/
  item : Nat := 0
  /-- Held by the exchange, not waiting. -/
  held : Bool := false
  /-- Its header as it was taken: layer, post, tokens, offsets of its rows and combined rows, and size (Table 12.3). -/
  layer : Nat := 0
  post : Nat := 0
  tokens : Nat := 0
  rowsOff : Nat := 0
  combineOff : Nat := 0
  size : Nat := 0
  choices : List Choice := []
deriving DecidableEq, Repr, Inhabited

/-- A CLAIM at its host: source node, transaction, partition, model, the patch of private experts, and its tags with what has been
decided: 0 waiting for a window; 1 granted; 2 full; 3 not resident. -/
structure Claim where
  node : Nat := 0
  txn : Nat := 0
  part : Nat := 0
  model : Nat := 0
  patch : Option Nat := none
  tags : List (W64 × Nat) := []
deriving DecidableEq, Repr, Inhabited

/-- A granted choice the host has not returned: source, partition, model, tag, and its row once it stands in the inbox (R307). -/
structure Hosted where
  node : Nat := 0
  part : Nat := 0
  model : Nat := 0
  tag : W64 := 0
  row : Option (List Byte) := none
deriving DecidableEq, Repr, Inhabited

/-- A private expert in, or on its way to, a bay (R319). -/
structure BayExpert where
  part : Nat := 0
  patch : Nat := 0
  object : Nat := 0
  version : Nat := 0
  expert : Nat := 0
  /-- The granules of its ranges. -/
  granules : List Nat := []
  resident : Bool := false
deriving DecidableEq, Repr, Inhabited

/-- The expert exchange (12). -/
structure ExpertSt where
  blocks : List DispBlock := []
  /-- Claims received and not answered. -/
  claims : List Claim := []
  /-- Windows open: expert key, and instant of the opening in 10 ns (R311). -/
  windows : Tab Nat := []
  hosted : List Hosted := []
  /-- Used counts of the leg, by expert key (R313). -/
  used : Tab Nat := []
  bays : List BayExpert := []
  /-- Sequences held for a bay, not placed since (R319). -/
  heldOnce : List Nat := []
  /-- Granted choices of abandoned blocks, whose results are dropped without a count (Table 12.7). -/
  abandoned : List W64 := []
  /-- Placement words a lost node has made invalid, until rewritten: entry × 64 + expert (Table 12.7). -/
  void : List Nat := []
deriving DecidableEq, Repr, Inhabited

end Sys2Proof.Machine
end

