-- ==== Sys2Proof/Machine/State.lean ====
section
/-!
DEFINITION. The state of the module as plain data, its reasons to stop, and reset.
-/
namespace Sys2Proof.Machine

/-- A consequence of a command for another block, settled in order before the command ends (Machine/Settle.lean). -/
inductive Due where
  /-- A fault in the task of a pattern slot, met at a core: core, slot, fault code (R89, R96). -/
  | fault (core slot code : Nat)
  /-- A press of a context ended unpicked: context, the status of its seam (R337). -/
  | pressFailed (ctx status : Nat)
  /-- A function is disabled by a table write (R57). -/
  | disable (f : Fn)
  /-- A port goes down: port, case of R379 (R378, R379). -/
  | portDown (port cause : Nat)
  /-- A port is enabled by message (R59): port. -/
  | portUp (port : Nat)
  /-- The expert context hosts nothing more: its model and partition (R307, Table 12.7). -/
  | hostStop (model part : Nat)
  /-- A shared expert is disabled at once: model, layer, expert (R58). -/
  | expertOff (model layer expert : Nat)
  /-- An entry of the partition table was written: what its washed districts need (R325). -/
  | washDistrict (d : Nat)
deriving DecidableEq, Repr, Inhabited

/-- Everything the manual gives the module (INVENTORY.md, State). -/
structure State where
  part : Part := .F
  /-- Free values drawn so far (log entry 3). -/
  free : Nat := 0
  /-- BAR0 registers by byte offset; one not listed holds its reset value. -/
  regs : Tab W32 := []
  /-- Held values of the snapshot registers (R497). -/
  snap : Option (Tab W32) := none
  /-- Posted writes on their way: domain, offset, value (R494). -/
  posted : Tab (Nat × W32) := []
  leg : LegSt := {}
  host : HostSt := {}
  serving : ServingSt := {}
  /-- Tables 0x01 to 0x08 reached by WRITE_ENTRY: entry i of table t at t × 2^20 + i (Table 9.4). -/
  tables : Tab Entry := []
  seams : SeamSt := {}
  tier : TierSt := {}
  cause : CauseSt := {}
  cores : Tab Core := []
  net : NetSt := {}
  expert : ExpertSt := {}
  store : StoreSt := {}
  power : PowerSt := {}
  enclave : EnclaveSt := {}
  mgmt : MgmtSt := {}
  test : TestSt := {}
  /-- Consequences not settled yet: empty between commands. -/
  due : List Due := []
  /-- The commands that wait, first in, first out. -/
  pending : List Instr := []
deriving DecidableEq, Repr, Inhabited

/-- Reasons for which the block stops: none. Every command has an effect that the manual gives. -/
inductive Fault
deriving DecidableEq, Repr

/-- Reasons for which a command is refused. -/
inductive Refusal where
  /-- The command has no meaning yet: raised by an arm of Dispatch.lean that is not written (safe). -/
  | notModelled (mnemonic : String)
deriving DecidableEq, Repr

/-- The module before VAUX is first good: every register at its reset value, nothing powered, nothing waiting (R16, R17, R447). -/
def State.reset : State := {}

end Sys2Proof.Machine
end

