-- ==== Sys2Proof/Machine/Regs.lean ====
section
/-!
DEFINITION. Reading and writing registers and table entries from inside the module. Every read and write of a register
by any rule goes through these; what the host sees and may change is in Machine/HostRegs.lean.
-/
namespace Sys2Proof.Machine

/-- Values of the reset column put together, with those that depend on the part or the core (Tables 19.4b, 8.12, 3.11). -/
def resetWord (part : Part) (off : Nat) : W32 :=
  match findReg off with
  | none => 0
  | some r =>
    if r.name == "GLOBAL_PART" then
      (match part with
       | .F => BitVec.ofNat 32 (1 <<< 28 ||| 16 <<< 23 ||| 128 <<< 15 ||| 1536)
       | .H => BitVec.ofNat 32 (2 <<< 28 ||| 8 <<< 23 ||| 64 <<< 15 ||| 768))
    else if r.name == "TIER_LARGE_GRANULES" then
      (match part with | .F => 0x1800000 | .H => 0xC00000)
    else if r.name == "CORE_ID" then
      let i := (off - 0x800000) / 0x1000
      BitVec.ofNat 32 (((i / 32) / 4 * 8 + (i % 32) / 4) <<< 10 ||| (i / 32) <<< 5 ||| i % 32)
    else BitVec.ofNat 32 (r.fields.foldl (fun a f => a + f.reset * 2 ^ f.lo) 0)

namespace State

/-- A register's word. -/
def reg (s : State) (off : Nat) : W32 :=
  match Tab.find? s.regs off with
  | some v => v
  | none => resetWord s.part off

/-- Writes a register's word. -/
def setReg (s : State) (off : Nat) (v : W32) : State := { s with regs := Tab.set s.regs off v }

/-- A register as a number. -/
def rd (s : State) (off : Nat) : Nat := (s.reg off).toNat

/-- Writes a register from a number, modulo 2^32. -/
def wr (s : State) (off v : Nat) : State := s.setReg off (BitVec.ofNat 32 v)

/-- Field `hi:lo` of a register. -/
def fld (s : State) (off hi lo : Nat) : Nat := bits (s.rd off) hi lo

/-- Writes field `hi:lo` of a register, cut to its width. -/
def setFld (s : State) (off hi lo v : Nat) : State := s.wr off (withBits (s.rd off) hi lo v)

/-- A counter register goes up by `n`, wrapping at 2^32. -/
def bump (s : State) (off : Nat) (n : Nat := 1) : State := s.wr off (s.rd off + n)

/-- A counter register goes up by `n`, saturating at 2^32 − 1. -/
def bumpSat (s : State) (off : Nat) (n : Nat := 1) : State := s.wr off (min (2 ^ 32 - 1) (s.rd off + n))

/-- A register that keeps the largest value seen. -/
def keepMax (s : State) (off v : Nat) : State := if s.rd off < v then s.wr off (min v (2 ^ 32 - 1)) else s

/-- LEG_COUNT as a number. -/
def legCount (s : State) : Nat := s.leg.count.toNat

/-- Now, in units of 10 ns since the timebase began. -/
def now (s : State) : Nat := s.leg.start + s.leg.sub

/-- The period in force, in µs (LEG_PERIOD). -/
def period (s : State) : Nat := s.fld Reg.LEG_PERIOD 13 0

/-- The next free value; it is drawn by `drawn`. -/
def draw (s : State) : W64 := Config.freeValue s.free

/-- One more free value has been drawn. -/
def drawn (s : State) (n : Nat := 1) : State := { s with free := s.free + n }

/-- Entry `i` of table `t` (Table 9.4), as a number; an entry never written is 0. -/
def entry (s : State) (t i : Nat) : Nat := (Tab.get (0 : Entry) s.tables (t * 2 ^ 20 + i)).toNat

/-- Writes an entry. -/
def setEntry (s : State) (t i v : Nat) : State :=
  { s with tables := Tab.put (0 : Entry) s.tables (t * 2 ^ 20 + i) (BitVec.ofNat 1280 v) }

/-- `n` bytes at offset `o` of entry `i` of table `t`, little-endian. -/
def ent (s : State) (t i o n : Nat) : Nat := (s.entry t i) / 2 ^ (8 * o) % 2 ^ (8 * n)

/-- Entry `i` of the tenant table or the catalog as it is in force: a change applies from the next step 4 (R274, R328). -/
def entryNow (s : State) (t i : Nat) : Nat :=
  match Tab.find? s.serving.replaced (t * 2 ^ 20 + i) with
  | some v => v.toNat
  | none => s.entry t i

/-- `n` bytes at offset `o` of an entry as it is in force. -/
def entNow (s : State) (t i o n : Nat) : Nat := s.entryNow t i / 2 ^ (8 * o) % 2 ^ (8 * n)

/-- Keeps the entry in force before a commit replaces it. -/
def keepEntry (s : State) (t i : Nat) : State :=
  match Tab.find? s.serving.replaced (t * 2 ^ 20 + i) with
  | some _ => s
  | none => { s with serving := { s.serving with
      replaced := Tab.set s.serving.replaced (t * 2 ^ 20 + i) (BitVec.ofNat 1280 (s.entry t i)) } }

/-- The module's own node ID. -/
def node (s : State) : Nat := s.fld Reg.CAUSEWAY_NODE 11 0

/-- The start phase, 0 to 4. -/
def phase (s : State) : Nat := s.fld Reg.POWER_STATUS 2 0

/-- Large-tier granules of the part, the directory's included (Table 8.1). -/
def largeGranules (s : State) : Nat := match s.part with | .F => 0x1800000 | .H => 0xC00000

end State

end Sys2Proof.Machine
end

