-- ==== Sys2Proof/Machine/Outbox.lean ====
section
/-!
DEFINITION. What the module sends to the host: MSI-X writes, the outbox and its backlog, events and the log
(R388, R395 to R398, R414 to R417).
-/
namespace Sys2Proof.Machine

namespace State

/-- Mailbox set `p`. -/
def mbox (s : State) (p : Nat) : Mbox := (Tab.find? s.host.mboxes p).getD {}

/-- Changes mailbox set `p`. -/
def updMbox (s : State) (p : Nat) (f : Mbox → Mbox) : State :=
  { s with host := { s.host with mboxes := Tab.set s.host.mboxes p (f (s.mbox p)) } }

/-- An MSI-X vector of a function. -/
def vector (s : State) (fn v : Nat) : MsixVector := (Tab.find? s.host.vectors (fn * 64 + v)).getD {}

/-- Changes an MSI-X vector. -/
def updVector (s : State) (fn v : Nat) (f : MsixVector → MsixVector) : State :=
  { s with host := { s.host with vectors := Tab.set s.host.vectors (fn * 64 + v) (f (s.vector fn v)) } }

/-- A function's configuration state. -/
def fnState (s : State) (fn : Nat) : PciFn := (Tab.find? s.host.fns fn).getD {}

/-- Changes a function's configuration state. -/
def updFn (s : State) (fn : Nat) (f : PciFn → PciFn) : State :=
  { s with host := { s.host with fns := Tab.set s.host.fns fn (f (s.fnState fn)) } }

/-- Sends the MSI-X write of a vector (R388). -/
def sendVector (s : State) (fn v : Nat) : State :=
  let x := s.vector fn v
  let s := { s with host := { s.host with sent := s.host.sent ++ [(x.addr, x.data)] } }
  s.updVector fn v (fun x => { x with pending := false, held := false, lastSent := some s.now })

/-- A vector may send now: MSI-X and Bus Master Enable set, and the vector unmasked (R388, R398). -/
def vectorOpen (s : State) (fn v : Nat) : Bool :=
  let f := s.fnState fn
  f.msixEnable && f.busMaster && !f.functionMask && !(s.vector fn v).masked

/-- The hold-off of the mailbox vectors, in 10 ns. -/
def holdoff (s : State) : Nat := s.fld Reg.MAILBOX_CTRL 9 0 * 100

/-- Raises a vector that is never held off (R398). -/
def raiseVector (s : State) (fn v : Nat) : State :=
  if s.vectorOpen fn v then s.sendVector fn v else s.updVector fn v (fun x => { x with pending := true })

/-- Raises a mailbox vector, under the hold-off (R398). -/
def raiseMailVector (s : State) (fn v : Nat) : State :=
  let due : Bool := match (s.vector fn v).lastSent with
    | none => true
    | some t => decide (t + s.holdoff ≤ s.now)
  if due then s.raiseVector fn v else s.updVector fn v (fun x => { x with held := true })

/-- The vector of set `p`: that of the function whose session is open, vector `p` on the physical function and 0 on a
virtual one (R398, log entry 14). -/
def raiseSetVector (s : State) (p : Nat) : State :=
  match (s.mbox p).session with
  | some ss => if ss.fn = 0 then s.raiseMailVector 0 p else s.raiseMailVector ss.fn 0
  | none => s.raiseMailVector 0 p

end State

/-- Bytes of a set's outbox ring (R395). -/
def ringBytes : Nat := 32768

/-- A message to the host: header of Table 15.6 with sequence 0, then the body, padded with 0 to a multiple of 16. -/
def mkMessage (major minor type p status : Nat) (body : List Byte) : List Byte :=
  let n := (16 + body.length + 15) / 16 * 16
  leBytes 1 major ++ leBytes 1 minor ++ leBytes 2 type ++ leBytes 2 n ++ leBytes 1 p ++ leBytes 1 status ++
    leBytes 4 0 ++ leBytes 4 0 ++ body ++ List.replicate (n - 16 - body.length) 0

namespace State

/-- A message with the version of the set's session; 1.0 where none is open (log entry 14). -/
def message (s : State) (type p status : Nat) (body : List Byte) : List Byte :=
  match (s.mbox p).session with
  | some ss => mkMessage ss.major ss.minor type p status body
  | none => mkMessage 1 0 type p status body

/-- Free space of a set's ring (R395). -/
def ringFree (s : State) (p : Nat) : Nat :=
  let m := s.mbox p
  ringBytes - (m.outProd - m.outCons).toNat

/-- The PAD that a message of `n` bytes needs before it, 0 for none (R395). -/
def padFor (s : State) (p n : Nat) : Nat :=
  let left := ringBytes - (s.mbox p).outProd.toNat % ringBytes
  if left < n then left else 0

/-- Writes one message at out_prod, with its sequence, and moves out_prod past it (R395). -/
def putRing (s : State) (p : Nat) (msg : List Byte) : State :=
  let m := s.mbox p
  let msg := pokeBytes msg 8 (leBytes 4 m.placed.toNat)
  let a := p * 65536 + ringBytes + m.outProd.toNat % ringBytes
  let s := { s with host := { s.host with mem := s.host.mem.write a msg } }
  s.updMbox p (fun m => { m with outProd := m.outProd + BitVec.ofNat 32 msg.length, placed := m.placed + 1 })

/-- Places a message that fits, its PAD first, and raises the set's vector in the same cycle (R395, R398). -/
def placeRing (s : State) (p : Nat) (msg : List Byte) : State :=
  let pad := s.padFor p msg.length
  let s := if pad = 0 then s
    else s.putRing p ((s.message 0x8000 p 0 (List.replicate (pad - 16) 0)))
  (s.putRing p msg).raiseSetVector p

/-- A message and its PAD fit the ring now. -/
def ringFits (s : State) (p : Nat) (msg : List Byte) : Bool :=
  decide (s.padFor p msg.length + msg.length ≤ s.ringFree p)

/-- MAILBOX_BACKLOGp follows the backlog (Table 15.19). -/
def showBacklog (s : State) (p : Nat) : State := s.wr (Reg.MAILBOX_BACKLOG p) (s.mbox p).backlog.length

/-- Moves messages of the backlog to the ring, in order, as space allows (R396); `fuel` bounds their number. -/
def drainBacklog (s : State) (p : Nat) : Nat → State
  | 0 => s.showBacklog p
  | fuel + 1 =>
    match (s.mbox p).backlog with
    | [] => s.showBacklog p
    | msg :: rest =>
      if s.ringFits p msg then
        drainBacklog ((s.placeRing p msg).updMbox p (fun m => { m with backlog := rest })) p fuel
      else s.showBacklog p

/-- Places a message for set `p`, or adds it to the backlog; a discardable one is discarded past 16,384 messages, and
every one while the set is closed (R395 to R397). -/
def place (s : State) (p : Nat) (msg : List Byte) (discardable : Bool := false) : State :=
  let m := s.mbox p
  if m.closed then s
  else if m.backlog = [] ∧ s.ringFits p msg then s.placeRing p msg
  else if discardable ∧ 16384 ≤ m.backlog.length then
    (s.updMbox p (fun m => { m with lost := m.lost + 1 })).bump (Reg.MAILBOX_LOST p)
  else (s.updMbox p (fun m => { m with backlog := m.backlog ++ [msg] })).showBacklog p

/-- Sends a message of a type with a body and header status OK. -/
def sendHost (s : State) (p type : Nat) (body : List Byte) (discardable : Bool := false) : State :=
  s.place p (s.message type p 0 body) discardable

/-- A REPLY (Table 15.11): the message answered, the result, the value and the data. -/
def reply (s : State) (p refType refSeq result value : Nat) (data : List Byte := []) : State :=
  s.sendHost p 0x8002 (leBytes 2 refType ++ leBytes 1 result ++ leBytes 1 0 ++ leBytes 4 refSeq ++ leBytes 8 value ++ data)

/-- One more log entry (R417). -/
def logEntry (s : State) (kind cp code : Nat) (body : List Byte) : State :=
  let n := s.rd Reg.FW_LOG_PROD
  let e : LogRec := { kind, cp, code, count := n, leg := s.legCount, body }
  ({ s with host := { s.host with log := Tab.set s.host.log (n % 16384) e } }).bump Reg.FW_LOG_PROD

end State

/-- The 32 bytes of an event record (Table 15.16). -/
def EventRec.bytes (e : EventRec) : List Byte :=
  leBytes 2 e.code ++ leBytes 1 e.severity ++ leBytes 1 e.source ++
    leBytes 1 (match e.part with | some p => 0x80 + p % 32 | none => 0) ++ leBytes 1 (min 255 e.lost) ++ leBytes 2 0 ++
    leBytes 8 e.leg ++ leBytes 4 e.offset ++ leBytes 12 (Config.eventDetail e.code e.detail).toNat

namespace State

/-- The lost count of a code and source (R416). -/
def lostCount (s : State) (code source : Nat) : Nat := Tab.get 0 s.host.lostCounts (code * 16 + source)

/-- A record was not entered in the ring (R416). -/
def eventLost (s : State) (code source : Nat) : State :=
  ({ s with host := { s.host with lostCounts := Tab.set s.host.lostCounts (code * 16 + source) (s.lostCount code source + 1) } }).bump
    Reg.EVENT_LOST

/-- The event ring is full (R416). -/
def eventRingFull (s : State) : Bool := (s.reg Reg.EVENT_PROD - s.reg Reg.EVENT_CONS).toNat == 1024

/-- Enters a record in the ring and raises its vector, or counts it lost where the ring is full (R414, R416). -/
def enterRing (s : State) (e : EventRec) : State :=
  if s.eventRingFull then s.eventLost e.code e.source
  else
    let n := s.rd Reg.EVENT_PROD
    let s := ({ s with host := { s.host with
      ring := Tab.set s.host.ring (n % 1024) (e, false)
      perLeg := Tab.set s.host.perLeg e.code (Tab.get 0 s.host.perLeg e.code + 1) } }).bump Reg.EVENT_PROD
    if s.fld Reg.EVENT_IRQ 1 0 ≤ e.severity then s.raiseVector 0 32 else s

/-- Sends a record to the set of its partition, under the set's mask (R415). -/
def tellSet (s : State) (e : EventRec) : State :=
  match e.part with
  | none => s
  | some p => if bit (s.mbox p).maskSources e.source ∧ (s.mbox p).maskSeverity ≤ e.severity then s.sendHost p 0x8040 e.bytes true else s

/-- Raises an event: ring, log and set, under the limit of 64 of one code in a leg (R414 to R416). The processor byte of
the log entry is not given for an event and is a free value. -/
def event (s : State) (code severity source : Nat) (part : Option Nat) (detail : List Nat) : State :=
  if 64 ≤ Tab.get 0 s.host.perLeg code then s.eventLost code source
  else
    let e : EventRec :=
      { code, severity, source, part, lost := min 255 (s.lostCount code source), leg := s.legCount, offset := s.leg.sub, detail }
    let s := ({ s with host := { s.host with lostCounts := Tab.set s.host.lostCounts (code * 16 + source) 0 } }).enterRing e
    ((s.logEntry 0 (s.draw.toNat % 256) code e.bytes).drawn).tellSet e

/-- ALERT_N is asserted while the ring holds an error or fatal record management has not read (R408). -/
def alertAsserted (s : State) : Bool := s.host.ring.any (fun x => decide (2 ≤ x.2.1.severity) && !x.2.2)

end State

end Sys2Proof.Machine
end

