-- ==== Sys2Proof/Machine/Digest.lean ====
section
/-!
DEFINITION. SHA-256 (R221, R289) and CRC-32C (R228, R366), as the standards the manual names define them.
-/
namespace Sys2Proof.Machine

/-- The `e`-th root of `n`, rounded down, found bit by bit from bit `k` downwards above `x`. -/
def rootFrom (e n : Nat) : Nat → Nat → Nat
  | 0, x => x
  | k + 1, x => rootFrom e n k (if (x + 2 ^ k) ^ e ≤ n then x + 2 ^ k else x)

/-- The first 32 bits of the fractional part of the `e`-th root of a number below 512. -/
def rootFraction (e n : Nat) : W32 := BitVec.ofNat 32 (rootFrom e (n * 2 ^ (32 * e)) 37 0)

/-- The primes up to 311, of which there are 64. -/
def shaPrimes : List Nat := (List.range 312).filter (fun n => decide (1 < n) && (List.range n).all (fun d => decide (d < 2) || n % d != 0))

/-- The round constants: SHA-256 takes them from the cube roots of the first 64 primes. -/
def shaK : List W32 := shaPrimes.map (rootFraction 3)

/-- The initial chaining value: from the square roots of the first eight primes. -/
def shaInit : List W32 := (shaPrimes.take 8).map (rootFraction 2)

/-- A big-endian word of four bytes. -/
def beWord (a b c d : Byte) : W32 := a ++ b ++ c ++ d

/-- The words of a block. -/
def beWords : List Byte → List W32
  | a :: b :: c :: d :: t => beWord a b c d :: beWords t
  | _ => []

/-- One more word of the message schedule; the list holds the words so far, newest first. -/
def shaNext (w : List W32) : W32 :=
  let w2 := w.getD 1 0
  let w15 := w.getD 14 0
  let s0 := w15.rotateRight 7 ^^^ w15.rotateRight 18 ^^^ (w15 >>> 3)
  let s1 := w2.rotateRight 17 ^^^ w2.rotateRight 19 ^^^ (w2 >>> 10)
  w.getD 15 0 + s0 + w.getD 6 0 + s1

/-- `n` more words of the schedule. -/
def shaExtend : Nat → List W32 → List W32
  | 0, w => w
  | n + 1, w => shaExtend n (shaNext w :: w)

/-- One round. -/
def shaRound (v : List W32) (kw : W32) : List W32 :=
  match v with
  | [a, b, c, d, e, f, g, h] =>
    let s1 := e.rotateRight 6 ^^^ e.rotateRight 11 ^^^ e.rotateRight 25
    let t1 := h + s1 + ((e &&& f) ^^^ (~~~e &&& g)) + kw
    let s0 := a.rotateRight 2 ^^^ a.rotateRight 13 ^^^ a.rotateRight 22
    let t2 := s0 + ((a &&& b) ^^^ (a &&& c) ^^^ (b &&& c))
    [t1 + t2, a, b, c, d + t1, e, f, g]
  | _ => v

/-- One block of 64 bytes. -/
def shaBlock (h : List W32) (block : List Byte) : List W32 :=
  let w := (shaExtend 48 (beWords block).reverse).reverse
  List.zipWith (· + ·) h ((List.zipWith (· + ·) shaK w).foldl shaRound h)

/-- The blocks of a padded message; `n` bounds their number. -/
def shaBlocks : Nat → List W32 → List Byte → List W32
  | 0, h, _ => h
  | n + 1, h, m => if m.isEmpty then h else shaBlocks n (shaBlock h (m.take 64)) (m.drop 64)

/-- SHA-256, as the 32 bytes of the digest. -/
def sha256 (m : List Byte) : List Byte :=
  let n := m.length
  let pad := (119 - n % 64) % 64
  let p := m ++ 0x80 :: List.replicate pad 0 ++ (leBytes 8 (n * 8)).reverse
  (shaBlocks (p.length / 64) shaInit p).flatMap (fun w => (leBytes 4 w.toNat).reverse)

/-- One bit step of CRC-32C, reflected polynomial 0x82F6_3B78. -/
def crcStep (c : W32) : W32 := if c.getLsbD 0 then (c >>> 1) ^^^ 0x82F63B78 else c >>> 1

/-- CRC-32C of a byte string: initial value and final exclusive or all ones. -/
def crc32c (m : List Byte) : W32 :=
  ~~~(m.foldl (fun c b => crcStep (crcStep (crcStep (crcStep (crcStep (crcStep (crcStep (crcStep
    (c ^^^ b.setWidth 32))))))))) 0xFFFFFFFF)

end Sys2Proof.Machine
end

