-- ==== Sys2Proof/Machine/TierLayout.lean ====
section
/-!
DEFINITION. Layouts of the tiers: the directory entry (Table 8.2), the coded block (Table 8.6), the burst and its metadata (Table 8.5),
and which sub-channel holds a sector (R224).
-/
namespace Sys2Proof.Machine

/-! The tier codec (R228, R229). -/

/-- Sectors that a 4 KiB block needs: none for zeros, its coding where that fits in 7, otherwise 8, raw. -/
def blockNeed (block : List Byte) : Nat :=
  if block.all (· == 0) then 0
  else
    let n := (Config.codedBlock block).1.length
    if 1 ≤ n ∧ n ≤ 3576 then ceilDiv (8 + n) 512 else 8

/-- The header of a coded block: coded_len, model, a reserved byte and the CRC-32C of the decoded bytes (Table 8.6). -/
def codedHeader (block : List Byte) : List Byte :=
  let c := Config.codedBlock block
  leBytes 2 c.1.length ++ leBytes 1 (c.2 % 4) ++ [0] ++ leBytes 4 (crc32c block).toNat

/-- What stands in the allotment of a block: nothing, header and payload with unused bytes to its end, or the raw bytes (R228). -/
def storedBlock (allot : Nat) (block : List Byte) : List Byte :=
  if allot = 0 then []
  else if allot = 8 then block
  else
    let b := codedHeader block ++ (Config.codedBlock block).1
    b ++ List.replicate (allot * 512 - b.length) 0

namespace DirEntry

/-- Allotment of block `i` of a compressed granule, in sectors (R228). -/
def allotOf (e : DirEntry) (i : Nat) : Nat := bits e.allot.toNat (4 * i + 3) (4 * i)
/-- Sectors before block `i` of a compressed granule. -/
def blockStart (e : DirEntry) (i : Nat) : Nat := ((List.range i).map e.allotOf).sum
/-- Sectors that a home takes: a sector is 512 B, and a granule that is not coded takes 128 (R209, R228). -/
def sectors (e : DirEntry) : Nat := if e.compressed then e.blockStart 16 else 128
/-- The granule has a home: it is homed, or moving and homed at its source (R212). -/
def housed (e : DirEntry) : Bool := e.state == 1 || e.state == 2

/-- Sectors of the large tier that hold `n` bytes of a granule from byte `o` on: of a coded block its whole allotment (R230). -/
def sectorsOf (e : DirEntry) (o n : Nat) : List Nat :=
  if e.tier ≠ 1 ∨ e.housed = false ∨ n = 0 then []
  else if e.compressed then
    (List.range' (o / 4096) ((o + n - 1) / 4096 - o / 4096 + 1)).flatMap (fun i =>
      (List.range (e.allotOf i)).map (fun k => e.location + e.blockStart i + k))
  else (List.range' (o / 512) ((o + n - 1) / 512 - o / 512 + 1)).map (e.location + ·)

/-- Word 0 of a directory entry as Table 8.2 lays it out. -/
def word0 (e : DirEntry) (published persistent : Bool) : W64 :=
  BitVec.ofNat 64 (e.state * 2 ^ 61 + e.tier * 2 ^ 59 + b2n e.compressed * 2 ^ 58 + b2n published * 2 ^ 57 + b2n persistent * 2 ^ 56 +
    (if e.tier = 3 then e.node else 0) * 2 ^ 44 + e.use * 2 ^ 36 + e.location % 2 ^ 36)
/-- Word 1: the allotments of a compressed granule, otherwise 0. -/
def word1 (e : DirEntry) : W64 := if e.compressed then e.allot else 0

end DirEntry

/-- Word 0 of the directory entry of a granule of an allocation: published for an object's, persistent for one kept in the store (R236). -/
def Alloc.word0 (a : Alloc) (g : Nat) : W64 :=
  let e : DirEntry := Tab.get {} a.dir g
  e.word0 a.published.isSome (bit a.flags 7 || (a.published.isSome && e.tier == 2))
/-- Word 0 of the directory entry of a replica's granule, in state replica. -/
def Replica.word0 (r : Replica) : W64 :=
  ({ state := 5, tier := r.tier, node := r.node, use := r.use, location := r.location } : DirEntry).word0 true false

/-- The bytes that stand at a granule's home: its coded blocks one after another, or the granule itself (R228). -/
def Alloc.storedBytes (a : Alloc) (g : Nat) : List Byte :=
  let e : DirEntry := Tab.get {} a.dir g
  if e.compressed then (List.range 16).flatMap (fun i => storedBlock (e.allotOf i) (a.data.bytes (g * 65536 + i * 4096) 4096))
  else a.data.bytes (g * 65536) 65536

/-! Bursts (R225). -/

/-- The address tag of a burst: its 40-bit address folded. -/
def burstTag (a : Nat) : Nat := bits a 15 0 ^^^ bits a 31 16 ^^^ bits a 39 32
/-- The 32 metadata bits of the burst at an address, with its 32 data bytes (Table 8.5). -/
def burstMeta (a : Nat) (poison : Bool) (data : List Byte) : W32 :=
  let m := b2n poison * 2 ^ 26 + burstTag a * 2 ^ 10
  BitVec.ofNat 32 (m + (Config.burstCheck data (m / 2 ^ 10)).toNat)
/-- What makes a burst unreadable when it is read back: poison, or a tag that is not its address's. -/
def burstBad (a : Nat) (m : W32) : Bool := bit m.toNat 26 || bits m.toNat 25 10 != burstTag a

end Sys2Proof.Machine
end

