-- ==== Sys2Proof/Machine/Tier.lean ====
section
/-!
DEFINITION. The tier block's books: allocations, places and room, quotas, reads of bytes, objects and replicas (08). What writes is in
Machine/TierWrite.lean.
-/
namespace Sys2Proof.Machine

/-- Base tier of an allocation by its flags: 0 scratchpad, 1 large tier, 2 store (R217). -/
def baseTier (flags : Nat) : Nat := if bit flags 0 then 0 else if bit flags 3 then 2 else 1

/-- The flags break a rule of Table 8.4 (R216). -/
def flagsBad (f : Nat) : Bool :=
  (bit f 0 && (bits f 5 1 != 0 || bit f 7)) ||
  (bit f 1 && !(bit f 2 || bit f 3)) ||
  (bit f 4 && !bit f 3) ||
  (bit f 5 && !(bit f 2 || bit f 3)) ||
  (bit f 7 && (!bit f 3 || bit f 0 || bit f 1 || bit f 2 || bit f 4)) ||
  bits f 3 0 == 0 || decide (256 ≤ f)

/-- A tier is one the flags allow a home in (R213, R216): 0 scratchpad, 1 large tier, 2 store, 3 neighbour. -/
def tierAllowed (f tier : Nat) : Bool :=
  if tier = 0 then bit f 0 || bit f 1
  else if tier = 1 then bit f 2
  else if tier = 2 then bit f 3
  else bit f 4

namespace Alloc

/-- Bytes of the allocation. -/
def size (a : Alloc) : Nat := a.granules * 65536

/-- Directory entry of a granule (R215). -/
def entry (a : Alloc) (g : Nat) : DirEntry := Tab.get {} a.dir g

/-- Writes the directory entry of a granule. -/
def setEntry (a : Alloc) (g : Nat) (e : DirEntry) : Alloc := { a with dir := Tab.put {} a.dir g e }

/-- Bytes per unit that fails as one where granule `g` is homed (R234): scratchpad 16, large tier 32 or the 4 KiB block
of a coded granule, store 4,096. -/
def unitBytes (a : Alloc) (g : Nat) : Nat :=
  let e := a.entry g
  if e.tier = 0 then 16 else if e.compressed ∨ e.tier = 2 then 4096 else 32

/-- The range meets an unreadable unit. -/
def meetsBad (a : Alloc) (off n : Nat) : Bool := a.bad.any (fun u => decide (u * 16 < off + n) && decide (off < u * 16 + 16))

/-- The range meets a granule in state lost. -/
def meetsLost (a : Alloc) (off n : Nat) : Bool :=
  a.dir.any (fun x => decide (x.2.state = 3) && decide (x.1 * 65536 < off + n) && decide (off < x.1 * 65536 + 65536))

/-- Some unreadable unit the range meets is not wholly covered by it (Table 15.12). -/
def mergesBad (a : Alloc) (off n : Nat) : Bool :=
  a.bad.any (fun u =>
    let b := a.unitBytes (u / 4096)
    let lo := u * 16 / b * b
    decide (lo < off + n) && decide (off < lo + b) && !(decide (off ≤ lo) && decide (lo + b ≤ off + n)))

/-- Unreadable units wholly rewritten by a write of the range become readable (R225, R234). -/
def mend (a : Alloc) (off n : Nat) : Alloc :=
  { a with bad := a.bad.filter (fun u =>
      let b := a.unitBytes (u / 4096)
      let lo := u * 16 / b * b
      !(decide (off ≤ lo) && decide (lo + b ≤ off + n))) }

/-- An allocation that no reset ends: a persistent one, and a published object whose authoritative home is in the store, every granule that
has a home being homed there (R208, R236). -/
def kept (a : Alloc) : Bool :=
  bit a.flags 7 || (a.published.isSome && bit a.flags 3 && a.homeNode.isNone && a.dir.all (fun x => x.2.state == 4 || x.2.tier == 2))

/-- The authoritative home of a granule is on this module, in a state in which it can be read (R223). -/
def homeHere (a : Alloc) (g : Nat) : Bool :=
  let e := a.entry g
  e.tier != 3 && e.state != 3 && (a.homeNode.isNone || e.housed)

end Alloc

namespace State

/-- The allocation a handle names. -/
def alloc? (s : State) (h : Nat) : Option Alloc := Tab.find? s.tier.allocs h

/-- Changes an allocation, if the handle names one. -/
def updAlloc (s : State) (h : Nat) (f : Alloc → Alloc) : State :=
  match s.alloc? h with
  | none => s
  | some a => { s with tier := { s.tier with allocs := Tab.set s.tier.allocs h (f a) } }

/-! The partition table (Table 13.2). -/

/-- Partition `p` is valid. -/
def partValid (s : State) (p : Nat) : Bool := bit (s.ent 7 p 0 1) 0
/-- Partition `p`'s enabled bit: clearing it acts at the commit, setting it from the next step 4 (R57, R324); the committed
entry lies at index 64 + p. -/
def partEnabled (s : State) (p : Nat) : Bool := bit (s.ent 7 p 0 1) 1 && bit (s.ent 7 (64 + p) 0 1) 1
/-- Districts of partition `p`, as a mask; 0 while it is not valid. -/
def partDistricts (s : State) (p : Nat) : Nat := if s.partValid p then s.ent 7 p 8 8 else 0
/-- The valid partition that holds district `d`. -/
def districtOwner (s : State) (d : Nat) : Option Nat := firstFrom (fun p => bit (s.partDistricts p) d) 0 32

/-- District of a core (Table 3.11). -/
def districtOf (core : Nat) : Nat := (core / 32) / 4 * 8 + (core % 32) / 4

/-- Cores of a mask of districts, in row-major order. -/
def coresOf (mask : Nat) : List Nat := (List.range 1024).filter (fun c => bit mask (districtOf c))

/-- Granules of a core's valid shares (R86). -/
def shareGranules (s : State) (c : Nat) : List Nat :=
  (List.range 4).flatMap (fun i =>
    if bit (s.fld (Reg.CORE_STATUS c) 11 8) i then
      let r := Reg.CORE_SHARE0 c + 4 * i
      List.range' (s.fld r 5 0) (s.fld r 13 8)
    else [])

/-- A descriptor of a core is still held under a ticket. -/
def ticketHeld (s : State) (u : Nat × Nat) : Bool :=
  ((Tab.find? s.cores u.1).getD {}).descs.any (fun x => x.seqNo * 16 + b2n x.write * 8 + x.place == u.2)

/-- Places left whose space is not released yet: a far request that resolved to them has not returned (R213, step 5). -/
def heldPlaces (s : State) : List HeldPlace := s.tier.leftPlaces.filter (fun k => k.users.any s.ticketHeld)

/-- Granules of a core that the tier block holds, with the handle and granule of each (R85). -/
def tierHeld (s : State) (c : Nat) : List (Nat × Nat × Nat) :=
  s.tier.allocs.flatMap (fun (h, a) => (a.dir.filter (fun x =>
      decide (x.2.tier = 0) && (decide (x.2.state = 1) || decide (x.2.state = 2)) && decide (x.2.location / 64 = c))).map
    (fun x => (x.2.location % 64, h, x.1))) ++
  (s.tier.replicas.filter (fun r => decide (r.tier = 0) && decide (r.location / 64 = c))).map
    (fun r => (r.location % 64, 0, r.granule)) ++
  s.tier.allocs.flatMap (fun (h, a) => a.dir.filterMap (fun x => match x.2.moveTo with
    | some (0, _, l) => if l / 64 = c then some (l % 64, h, x.1) else none
    | _ => none)) ++
  (s.tier.hashPlaces.filter (fun l => decide (l / 64 = c))).map (fun l => (l % 64, 0, 0)) ++
  (s.heldPlaces.filter (fun k => decide (k.tier = 0) && decide (k.location / 64 = c))).map (fun k => (k.location % 64, 0, 0))

/-- Free granules of a core: granule 47 holds the journal and is never the tier block's (R85). -/
def freeGranules (s : State) (c : Nat) : List Nat :=
  let held := (s.tierHeld c).map (·.1)
  let share := s.shareGranules c
  (List.range 47).filter (fun g => !held.contains g && !share.contains g)

/-- Granules of pinned allocations of partition `p` not homed yet: reserved in the scratchpad (R217). -/
def scratchReserved (s : State) (p : Nat) : Nat :=
  s.tier.allocs.foldl (fun n (_, a) => if a.part = p ∧ baseTier a.flags = 0 then
    n + (a.granules - (a.dir.filter (fun x => decide (x.2.tier = 0) && decide (x.2.state = 1))).length) else n) 0

/-- Scratchpad granules of partition `p` that no share, home or reservation takes. -/
def scratchRoom (s : State) (p : Nat) : Nat :=
  ((coresOf (s.partDistricts p)).map (fun c => (s.freeGranules c).length)).sum - s.scratchReserved p

/-- Granules of one core that pinned allocations placed on it have reserved and not homed yet (R217, Table 8.3). -/
def coreReserved (s : State) (c : Nat) : Nat :=
  s.tier.allocs.foldl (fun n (_, a) => if a.placement = true ∧ a.core = c ∧ baseTier a.flags = 0 then
    n + (a.granules - (a.dir.filter (fun x => decide (x.2.tier = 0) && decide (x.2.state = 1))).length) else n) 0

/-- Granules of a core that no share, home or reservation on that core takes. -/
def coreRoom (s : State) (c : Nat) : Nat := (s.freeGranules c).length - s.coreReserved c

/-- A free granule of the first of some cores that has room; which of its granules is not fixed. -/
def coreGranule (s : State) (cs : List Nat) : Option Nat :=
  match cs.find? (fun c => decide (0 < s.coreRoom c)) with
  | none => none
  | some c => let f := s.freeGranules c; some (c * 64 + f.getD (s.draw.toNat % f.length) 0)

/-- Large-tier granules partition `p` uses: its reservations, homes above the base tier and places reserved for moves to one, replicas and
backlog (TIER_USEDp, Table 8.11). -/
def tierUsed (s : State) (p : Nat) : Nat :=
  (if s.partValid p then 1536 else 0) +
  s.tier.allocs.foldl (fun n (_, a) =>
    if a.part ≠ p ∨ a.uncharged = true then n
    else if baseTier a.flags = 1 then n + a.granules
    else n + (a.dir.filter (fun x => (x.2.tier == 1 && x.2.housed) || (match x.2.moveTo with | some d => d.1 == 1 | none => false))).length) 0 +
  (s.tier.replicas.filter (fun r => decide (r.part = p) && decide (r.tier = 1))).length

/-- Granules lent to other nodes. -/
def lentTotal (s : State) : Nat := s.tier.lent.length
/-- Granules borrowed from other nodes. -/
def borrowedTotal (s : State) : Nat := s.tier.borrowed.length

/-- TIER_LARGE_FREE: washed granules neither allocated, reserved, lent nor held by the directory (Table 8.12). -/
def largeFree (s : State) : Nat :=
  min s.tier.washed (s.largeGranules - 65536) - ((List.range 32).map s.tierUsed).sum -
    s.tier.allocs.foldl (fun n (_, a) => if a.uncharged ∧ baseTier a.flags = 1 then n + a.granules else n) 0 - s.lentTotal -
    2 ^ (s.serving.treeLog2 - 10)

/-- Directory entries in use (R210): one for every granule of every allocation and replica, the prefix indexes' own among them. -/
def dirUsed (s : State) : Nat :=
  s.tier.allocs.foldl (fun n (_, a) => n + a.granules) 0 + s.tier.replicas.length + s.tier.hashPlaces.length + 2 ^ (s.serving.treeLog2 - 10)

/-- Store space reserved, in granules (R217), with the replicas that stand there. -/
def storeReserved (s : State) : Nat :=
  s.tier.allocs.foldl (fun n (_, a) => if bit a.flags 3 then n + a.granules else n) 0 +
    (s.tier.replicas.filter (fun r => r.tier == 2)).length

/-- Store granules usable: STORE_USABLE counts them (Table 16.8). -/
def storeUsable (s : State) : Nat := s.rd Reg.STORE_USABLE

/-- A handle that may be given: not in use, and not freed less than 1,024 milestones before (R215). -/
def handleFree (s : State) (h : Nat) : Bool :=
  (s.alloc? h).isNone && !s.tier.freed.any (fun x => decide (x.1 = h) && decide (s.legCount < x.2 + 1024))

/-- The first handle from `h` on, cyclically over 1 to 1,048,575, that may be given; `fuel` bounds the search. -/
def handleFrom (s : State) : Nat → Nat → Option Nat
  | _, 0 => none
  | h, fuel + 1 => if s.handleFree h then some h else handleFrom s (if h ≥ 1048575 then 1 else h + 1) fuel

/-- A handle for a grant: which of the permitted ones is not fixed (R215), so the search starts at a free value. -/
def pickHandle (s : State) : Option Nat :=
  s.handleFrom (s.draw.toNat % 1048575 + 1) (min 1048575 (s.tier.allocs.length + s.tier.freed.length + 1))

/-- The status of an allocation request that does not fit, 0 if it does (R216, R217); codes of Table 15.12. `core` is the core a
placed one names (Table 8.3). -/
def grantStatus (s : State) (p flags granules : Nat) (core : Option Nat := none) : Nat :=
  if flagsBad flags then 0x10
  else if baseTier flags = 0 ∧ s.scratchRoom p < granules then 0x11
  else if baseTier flags = 0 ∧ (match core with | some c => decide (s.coreRoom c < granules) | none => false) = true then 0x11
  else if baseTier flags = 1 ∧ s.fld (Reg.TIER_QUOTA p) 24 0 < s.tierUsed p + granules then 0x11
  else if bit flags 3 ∧ s.storeUsable < s.storeReserved + granules then 0x12
  else if 134217728 < s.dirUsed + granules ∨ s.pickHandle = none then 0x13
  else 0

/-- Grants an allocation whose status is 0: a handle, with every granule in state zero (R211, R215). -/
def grant (s : State) (a : Alloc) : State × Nat :=
  match s.pickHandle with
  | none => (s, 0)
  | some h => ({ s with tier := { s.tier with allocs := Tab.set s.tier.allocs h a } }.drawn, h)

/-! Free places. -/

/-- Runs of the large tier (1) or the store (2) that something holds: first sector and length. -/
def runs (s : State) (t : Nat) : List (Nat × Nat) :=
  s.tier.allocs.flatMap (fun (_, a) => a.dir.flatMap (fun (_, e) =>
    (if e.tier = t ∧ e.housed = true then [(e.location, e.sectors)] else []) ++
    (match e.moveTo with | some d => if d.1 = t then [(d.2.2, 128)] else [] | none => []))) ++
  (s.tier.replicas.filter (fun r => r.tier == t)).map (fun r => (r.location, 128)) ++
  (s.heldPlaces.filter (fun k => k.tier == t)).map (fun k => (k.location, k.sectors)) ++
  (if t = 1 then (Tab.keys s.tier.lent).map (fun g => (g * 128, 128)) else [])

/-- No run that is held meets the granule's worth of sectors at a location. -/
def runFree (s : State) (t loc : Nat) : Bool := (s.runs t).all (fun r => decide (r.1 + r.2 ≤ loc) || decide (loc + 128 ≤ r.1))

/-- A free granule of the first `limit` of the large tier or the store; which one is not fixed. A run meets at most two granules, which
bounds the search. -/
def granulePlace (s : State) (t limit : Nat) : Option Nat :=
  let rs := s.runs t
  let at_ (i : Nat) : Nat := (s.draw.toNat + i) % limit * 128
  (firstFrom (fun i => rs.all (fun r => decide (r.1 + r.2 ≤ at_ i) || decide (at_ i + 128 ≤ r.1))) 0 (min limit (2 * rs.length + 1))).map at_

/-- Large-tier granules that homes may take: the directory's own are never among them (R210). -/
def largeUsable (s : State) : Nat := s.largeGranules - 65536
/-- Large-tier space that is not washed yet remains (R453). -/
def washing (s : State) : Bool := decide (s.tier.washed < s.largeUsable)
/-- A free washed granule of the large tier (R236). -/
def largePlace (s : State) : Option Nat := s.granulePlace 1 (min s.tier.washed s.largeUsable)
/-- A free granule of the store. -/
def storePlace (s : State) : Option Nat := s.granulePlace 2 s.storeUsable

/-- Lent granules held that nothing uses and no lender recalls: node and first sector (R219, R233). -/
def lentFree (s : State) : List (Nat × Nat) :=
  s.tier.borrowed.filter (fun b => !s.tier.called.contains b &&
    !s.tier.allocs.any (fun (_, a) => a.published.isNone && a.dir.any (fun (_, e) =>
      (e.tier == 3 && e.housed && e.node == b.1 && e.location == b.2) || e.moveTo == some (3, b.1, b.2))) &&
    !s.heldPlaces.any (fun k => k.tier == 3 && k.node == b.1 && k.location == b.2))

/-- The partition may hold one more granule of an allocation in the large tier: it has reserved it, or its quota has room (R217, R218). -/
def largeAllowed (s : State) (a : Alloc) : Bool :=
  tierAllowed a.flags 1 && (baseTier a.flags == 1 || decide (s.tierUsed a.part < s.fld (Reg.TIER_QUOTA a.part) 24 0))

/-- The cores a scratchpad granule of the allocation may go to, in the order tried (Table 8.3). -/
def scratchOrder (s : State) (a : Alloc) (g : Nat) : List Nat :=
  if a.placement then [a.core]
  else
    let cs := coresOf (s.partDistricts a.part)
    let k := g % (max 1 cs.length)
    cs.drop k ++ cs.take k

/-- A place in the scratchpad for a granule: on the core of a placed allocation; for a pinned one what its reservation holds; and for any
other one only in room that no reservation takes (R217, R218). -/
def scratchPlace (s : State) (a : Alloc) (g : Nat) : Option Nat :=
  if baseTier a.flags = 0 ∧ a.placement = true then
    let f := s.freeGranules a.core
    f[s.draw.toNat % max 1 f.length]?.map (fun x => a.core * 64 + x)
  else if baseTier a.flags = 0 ∨ 0 < s.scratchRoom a.part then s.coreGranule (s.scratchOrder a g)
  else none

/-- The 4 KiB pieces of a byte range: granule, first byte and the byte after. -/
def blockPieces (off n : Nat) : List (Nat × Nat × Nat) :=
  if n = 0 then [] else (List.range' (off / 4096) ((off + n - 1) / 4096 - off / 4096 + 1)).map (fun b =>
    (b / 16, max off (b * 4096), min (off + n) (b * 4096 + 4096)))

/-! Readability (R224, R225, R507). -/

/-- Sub-channels of the part (R3). -/
def subChannels (s : State) : Nat := match s.part with | .F => 128 | .H => 64
/-- The sub-channel that holds a sector (R224). -/
def subChannel (s : State) (sec : Nat) : Nat := sec % s.subChannels
/-- The sub-channel of a sector has failed: every burst on it is unreadable (R507). -/
def subFailed (s : State) (sec : Nat) : Bool := s.fld (Reg.LPDDR_SUB (s.subChannel sec)) 31 28 == 3
/-- The first byte of a range of one granule that lies on a failed sub-channel, by the units that fail as one. -/
def deadUnit (s : State) (a : Alloc) (off n : Nat) : Option Nat :=
  if s.fld Reg.LPDDR_STATUS 31 28 ≠ 3 then none
  else
    let g := off / 65536
    let u := a.unitBytes g
    (firstFrom (fun i => ((a.entry g).sectorsOf (i * u % 65536) 1).any s.subFailed) (off / u) ((off + n - 1) / u - off / u + 1)).map (· * u)
/-- The same over every granule a range meets. -/
def deadIn (s : State) (a : Alloc) (off n : Nat) : Option Nat :=
  if n = 0 ∨ s.fld Reg.LPDDR_STATUS 31 28 ≠ 3 then none
  else (List.range' (off / 65536) ((off + n - 1) / 65536 - off / 65536 + 1)).findSome? (fun g =>
    let lo := max off (g * 65536)
    s.deadUnit a lo (min (off + n) (g * 65536 + 65536) - lo))
/-- A read of the range meets an unreadable unit. -/
def readBad (s : State) (a : Alloc) (off n : Nat) : Bool := a.meetsBad off n || (s.deadIn a off n).isSome
/-- A write of the range would merge with an unreadable unit. -/
def writeBad (s : State) (a : Alloc) (off n : Nat) : Bool :=
  let u (k : Nat) : Nat := a.unitBytes (k / 65536)
  a.mergesBad off n || (off % u off != 0 && (s.deadUnit a off 1).isSome) ||
    ((off + n) % u (off + n - 1) != 0 && decide (0 < n) && (s.deadUnit a (off + n - 1) 1).isSome)

/-- Bytes of an allocation whatever their state, 0 where the handle names none: what the serving block keeps in its own
allocations. -/
def peek (s : State) (h off n : Nat) : List Byte :=
  match s.alloc? h with
  | none => List.replicate n 0
  | some a => a.data.bytes off n

/-- One little-endian number of an allocation. -/
def peekNat (s : State) (h off n : Nat) : Nat := leNat (s.peek h off n)

/-- The bytes of an object: every byte of the allocation (R221). -/
def objectBytes (a : Alloc) : List Byte := a.data.bytes 0 a.size

/-- The digest test of R221: the object's own, and for a pattern image the image's too. -/
def digestOk (a : Alloc) (digest : BitVec 256) : Bool :=
  let b := objectBytes a
  let imageBytes := fieldAt b 0x10 4
  decide (sha256 b = leBytes 32 digest.toNat) &&
    (decide (fieldAt b 0 4 ≠ 0x54415047) ||
      (decide (imageBytes ≤ b.length) && decide (0x50 ≤ imageBytes) &&
        decide (sha256 (pokeBytes (b.take imageBytes) 0x30 (List.replicate 32 0)) = sliceBytes b 0x30 32)))

/-- The first allocation that holds a published object of this ID and version on the module. -/
def objectHandle (s : State) (obj ver : Nat) : Option Nat :=
  (List.find? (fun x => decide (x.2.published = some (obj, ver))) s.tier.allocs).map (·.1)

/-- Readable replicas of a granule of an object: not being made, and not going (R222, R223). -/
def replicasOf (s : State) (obj ver g : Nat) : List Replica :=
  s.tier.replicas.filter (fun r => r.object == obj && r.version == ver && r.granule == g && !r.making && !r.going)

/-- A readable replica of a granule on this module. -/
def replicaOf (s : State) (obj ver g : Nat) : Option Replica := (s.replicasOf obj ver g).find? (fun r => r.tier != 3)

/-- Where a read of a granule of a published object resolves to, in the order of R223: a replica, or none for the authoritative home. `core` is
the requesting core, if one asks, and `home` says that the home is on this module; a replica in the store, which the order does not name, comes
after such a home (log entry 136). -/
def sourceOf (s : State) (core : Option Nat) (part obj ver g : Nat) (home : Bool) : Option Replica :=
  let rs := s.replicasOf obj ver g
  let mine (r : Replica) : Bool := r.tier == 0 && bit (s.partDistricts part) (districtOf (r.location / 64))
  ((rs.find? (fun r => r.tier == 0 && core == some (r.location / 64))).or (rs.find? mine)).or
    ((rs.find? (fun r => r.tier == 1)).or
      (if home then none else (rs.find? (fun r => r.tier == 2)).or (rs.find? (fun r => r.tier == 3))))

/-- The replica a read of an allocation's granule resolves to, if it is one (R223). -/
def readSource (s : State) (core : Option Nat) (part : Nat) (a : Alloc) (g : Nat) : Option Replica :=
  match a.published with
  | none => none
  | some (o, v) => s.sourceOf core part o v g (a.homeHere g)

/-- A range can be read: every piece of it from a replica or from a home with no unreadable unit and not lost (R223, R234). -/
def readable (s : State) (core : Option Nat) (part : Nat) (a : Alloc) (off n : Nat) : Bool :=
  (blockPieces off n).all (fun p => (s.readSource core part a p.1).isSome ||
    !(s.readBad a p.2.1 (p.2.2 - p.2.1) || a.meetsLost p.2.1 (p.2.2 - p.2.1)))

/-- Bytes of an allocation, if the range lies in it and is readable. -/
def readAlloc (s : State) (h off n : Nat) : Option (List Byte) :=
  match s.alloc? h with
  | none => none
  | some a => if a.size < off + n ∨ s.readable none a.part a off n = false then none else some (a.data.bytes off n)

/-- One more error met: TIER_UE_COUNT and TIER_ERR.ue (Table 8.12). -/
def countUe (s : State) : State := (s.bumpSat Reg.TIER_UE_COUNT).setFld Reg.TIER_ERR 1 1 1

/-- A corrected error: TIER_CE_COUNT and TIER_ERR.ce (R225). -/
def countCe (s : State) : State := (s.bumpSat Reg.TIER_CE_COUNT).setFld Reg.TIER_ERR 0 0 1

/-- A corrected error of a sector of the large tier, which its sub-channel counts too (R224, R506). -/
def countCeAt (s : State) (sec : Nat) : State :=
  let r := Reg.LPDDR_SUB (s.subChannel sec)
  s.countCe.setFld r 15 0 (min 65535 (s.fld r 15 0 + 1))

end State

end Sys2Proof.Machine
end

