-- ==== Sys2Proof/Machine/Net.lean ====
section
/-!
DEFINITION. Handing transactions to the Causeway transport (R363, R365): flows, VCs and paths. The links themselves are
in Machine/Causeway.lean.
-/
namespace Sys2Proof.Machine

namespace State

/-- Port `p`. -/
def port (s : State) (p : Nat) : PortSt := (Tab.find? s.cause.ports p).getD {}
/-- Changes port `p`. -/
def updPort (s : State) (p : Nat) (f : PortSt → PortSt) : State :=
  { s with cause := { s.cause with ports := Tab.set s.cause.ports p (f (s.port p)) } }
/-- State of port `p` (Table 14.16): 0 down, 1 training, 2 not ready, 3 ready, 4 closing, 5 refused. -/
def portState (s : State) (p : Nat) : Nat := s.fld (Reg.CAUSEWAY_PORT_STATUS p) 31 28
/-- The port is ready for traffic; one in loopback carries idle and link-state flits only (Table 14.12). -/
def portReady (s : State) (p : Nat) : Bool := s.portState p == 3 && s.fld (Reg.CAUSEWAY_PORT_CTRL p) 1 0 != 3
/-- Ready ports. -/
def readyPorts (s : State) : List Nat := (List.range 16).filter s.portReady

/-- Node `n` is held as lost. -/
def nodeLost (s : State) (n : Nat) : Bool := (Tab.find? s.cause.lost n).isSome

/-- The routing entry of node `n` is valid (Table 14.7). -/
def routeValid (s : State) (n : Nat) : Bool := bit (s.ent 6 n 0 1) 0
/-- A path's port of the entry of node `n`, if the entry names one: false is path a. -/
def routePort (s : State) (n : Nat) (b : Bool) : Option Nat :=
  let v := s.ent 6 n (if b then 2 else 1) 1
  if bit v 7 then some (bits v 3 0) else none
/-- That port, if it is ready. -/
def readyRoute (s : State) (n : Nat) (b : Bool) : Option Nat :=
  match s.routePort n b with
  | none => none
  | some p => if s.portReady p then some p else none
/-- The port a packet for node `n` leaves by: the path's, or the entry's other (R363). -/
def routeTo (s : State) (n : Nat) (b : Bool) : Option Nat :=
  if !s.routeValid n || s.nodeLost n then none else (s.readyRoute n b).or (s.readyRoute n (!b))

/-- The path bit the source sets for a flow (R363). -/
def pathFor (s : State) (n flow : Nat) : Bool :=
  if s.ent 6 n 3 1 = 0 then (s.readyRoute n false).isNone
  else
    let b := flow % 2 == 1
    if (s.readyRoute n b).isSome then b else !b

/-- VCs of partition `p` (vc_mask, Table 13.2). -/
def partVcs (s : State) (p : Nat) : List Nat := (List.range 8).filter (bit (s.ent 7 p 7 1))

/-- Class of an operation's traffic: responses 1, requests and system 0 (Table 14.10). -/
def opClass (op : Nat) : Nat := if [0x02, 0x04, 0x05, 0x07, 0x31, 0x33, 0x34].contains op then 1 else 0

/-- The flow a transaction travels on (R365); none where its partition has no VC. -/
def flowOf (s : State) (t : Txn) : Option FlowId :=
  match t.part with
  | none => some { node := t.node, part := none, vc := 0, cls := 0, flow := t.flow % 256 }
  | some p =>
    match s.partVcs p with
    | [] => none
    | v :: vs => some { node := t.node, part := some p, vc := (v :: vs).getD (t.flow % (vs.length + 1)) v, cls := opClass t.op, flow := t.flow % 256 }

/-! Packets and flits (Tables 14.2, 14.3, 14.6, 14.8, 14.9). -/

/-- The 256 bytes of a flit. -/
def flitBytes (f : Flit) : List Byte :=
  let low : Nat := if f.kind ≤ 2 then f.cvc * 2 ^ 50 + f.ccount * 2 ^ 42 + f.scount * 2 ^ 34 else f.aux
  let h : Nat := f.kind * 2 ^ 92 + f.vc * 2 ^ 89 + f.cls * 2 ^ 88 + f.seq * 2 ^ 76 + f.ack * 2 ^ 64 + b2n f.sop * 2 ^ 63 +
    b2n f.eop * 2 ^ 62 + f.payload.length * 2 ^ 54 + low
  let b := leBytes 12 h ++ sliceBytes f.payload 0 240
  b ++ leBytes 4 (crc32c b).toNat

/-- A flit's bytes as 257-bit blocks: each carries 32 of them, byte 0 in bits 7:0, and bit 256 is 1 in the first alone (R351, log
entry 141). Five flits, so 40 blocks, fill a pair of codewords. -/
def flitBlocks (b : List Byte) : List (BitVec 257) :=
  (List.range 8).map (fun i => BitVec.ofNat 257 (fieldAt b (32 * i) 32 + b2n (i == 0) * 2 ^ 256))

/-- Puts a flit's bytes on a port's link. -/
def putBlocks (s : State) (p : Nat) (b : List Byte) : State :=
  { s with cause := { s.cause with wire := s.cause.wire ++ (flitBlocks b).map (fun x => (p, x)) } }

/-- The transport header, transaction header, data and trailer of a message. -/
def messageBytes (flow flags inc seq ack : Nat) (t : Txn) : List Byte :=
  let l := Config.txnLayout t.op t.args
  let data := l.drop 24 ++ t.data
  let b := leBytes 1 flow ++ leBytes 1 flags ++ leBytes 2 inc ++ leBytes 4 seq ++ leBytes 4 ack ++ leBytes 4 0 ++
    leBytes 1 t.op ++ leBytes 1 t.status ++ leBytes 2 data.length ++ leBytes 4 t.txn ++ sliceBytes l 0 24 ++ data
  b ++ leBytes 4 (crc32c b).toNat

/-- A packet: the network header of a destination, source, path and partition, and a message. -/
def packetBytes (dest src : Nat) (pathB : Bool) (part : Option Nat) (msg : List Byte) : List Byte :=
  leBytes 2 dest ++ leBytes 2 src ++ leBytes 1 (b2n pathB * 16) ++ leBytes 1 (match part with | some p => p | none => 128) ++
    leBytes 2 msg.length ++ leBytes 8 0 ++ msg

/-- Cuts a packet into the payloads of its flits. -/
def cutFlits : Nat → List Byte → List (List Byte)
  | 0, _ => []
  | fuel + 1, b => if b.length ≤ 240 then [b] else b.take 240 :: cutFlits fuel (b.drop 240)

/-- The flits of a packet on a VC and class; a system packet goes in system flits (R365). -/
def packetFlits (sys : Bool) (vc cls : Nat) (b : List Byte) : List Flit :=
  let l := cutFlits (b.length / 240 + 1) b
  (l.zip (List.range l.length)).map (fun (x, i) =>
    { kind := if sys then 2 else 1, vc := if sys then 0 else vc, cls := if sys then 0 else cls, sop := i == 0, eop := i + 1 == l.length, payload := x })

/-- Buffer of a flit: its VC and class, or 16 for a system flit (R356). -/
def flitKey (f : Flit) : Nat := if f.kind = 2 then 16 else f.vc * 2 + f.cls

/-- Puts a flit on a port's link, with the ack and the credits it carries (Table 14.3). -/
def putFlit (s : State) (p : Nat) (f : Flit) : State × Flit :=
  let x := s.port p
  let give := if f.kind ≤ 2 then (List.find? (fun (r : Nat × Nat) => decide (r.1 < 16) && decide (0 < r.2)) x.toReturn).getD (0, 0) else (0, 0)
  let n := min give.2 128
  let m := if f.kind ≤ 2 then min (Tab.get 0 x.toReturn 16) 64 else 0
  let f : Flit := { f with
    ack := (x.rxNext + 4095) % 4096, cvc := give.1, ccount := n, scount := m }
  let s := s.updPort p (fun x => { x with toReturn := Tab.put 0 (Tab.put 0 x.toReturn give.1 (give.2 - n)) 16 (Tab.get 0 x.toReturn 16 - m) })
  (s.putBlocks p (flitBytes f), f)

/-- The next waiting flit a port may send: a system flit with system credit, else a data flit with credit for its VC and class, taken
round-robin, response before request within one VC (R354, R356). -/
def nextWaiting (x : PortSt) : Option (Flit × Option (Nat × Nat × Nat)) :=
  match (if 0 < x.sysCredits then x.waiting.find? (fun f => f.1.kind == 2) else none) with
  | some f => some f
  | none =>
    ((List.range 16).map (fun i => (x.turn + i) % 16)).findSome? (fun o =>
      let key := o / 2 * 2 + (1 - o % 2)
      if Tab.get 0 x.credits key = 0 then none else x.waiting.find? (fun f => f.1.kind == 1 && flitKey f.1 == key))

/-- A flit has left an input buffer if nothing waits to send it: its credit goes back (R356, R371). -/
def freeBuffer (s : State) (b : Nat × Nat × Nat) : State :=
  if s.cause.ports.any (fun p => p.2.waiting.any (fun f => f.2 == some b)) then s
  else s.updPort b.1 (fun x => { x with toReturn := Tab.put 0 x.toReturn b.2.1 (Tab.get 0 x.toReturn b.2.1 + 1) })

/-- Sends what a ready port may send now: a flit waits for its credit, and for room in the retry buffer (R354 to R356). -/
def pump (s : State) (p : Nat) : Nat → State
  | 0 => s
  | fuel + 1 =>
    let x := s.port p
    if !(s.portReady p || s.portState p == 4) || decide (512 ≤ x.retry.length) then s
    else match nextWaiting x with
      | none => s
      | some (f, src) =>
        let key := flitKey f
        let (s, g) := s.putFlit p { f with seq := x.txSeq }
        let s := s.updPort p (fun x => { x with
          txSeq := (x.txSeq + 1) % 4096, retry := x.retry ++ [(g, 0)], waiting := x.waiting.erase (f, src)
          sysCredits := if key = 16 then x.sysCredits - 1 else x.sysCredits
          credits := if key = 16 then x.credits else Tab.put 0 x.credits key (Tab.get 0 x.credits key - 1)
          turn := if key = 16 then x.turn else (key / 2 * 2 + (1 - key % 2) + 1) % 16 })
        let s := s.bump (Reg.CAUSEWAY_PORT_TX_FLITS p)
        let s := match src with | some b => s.freeBuffer b | none => s
        pump s p fuel

/-- Queues the flits of a packet at a port and sends what may go. -/
def queueFlits (s : State) (p : Nat) (l : List Flit) : State :=
  let s := s.updPort p (fun x => { x with waiting := x.waiting ++ l.map (fun f => (f, none)) })
  s.pump p (s.port p).waiting.length

/-- The module's incarnation (R360). -/
def incarnation (s : State) : Nat := s.fld Reg.CAUSEWAY_NODE 31 16

/-- The next message number expected on the reverse of a flow: the flow with source and destination exchanged (Table 14.8). -/
def rxNext (s : State) (id : FlowId) : Nat := ((s.cause.rx.find? (fun f => decide (f.id = id))).getD {}).next

/-- Sends a message of a flow by a path, or by a port given: the packet leaves by the routing table, or is dropped and counted (R363). -/
def sendPacket (s : State) (id : FlowId) (pathB : Bool) (flags seq : Nat) (via : Option Nat) (t : Txn) : State :=
  let pkt := packetBytes id.node s.node pathB id.part (messageBytes id.flow flags s.incarnation seq (s.rxNext id) t)
  let acked (f : FlowRx) : FlowRx := if f.id = id then { f with ackDue := false } else f
  let s : State := { s with cause := { s.cause with rx := s.cause.rx.map acked } }
  match via.or (s.routeTo id.node pathB) with
  | none => s.bump Reg.CAUSEWAY_NOROUTE
  | some p => s.queueFlits p (packetFlits id.part.isNone id.vc id.cls pkt)

/-- Most flows with unacknowledged messages (R365). -/
def flowLimit : Nat := 8192

/-- Hands a transaction to the transport: the next seq of its flow, kept until it is acknowledged (R365, R367). A packet to a node held
as lost is dropped and counted, and its flow keeps nothing (R363, R382); a message past the limit of flows waits. -/
def sendVia (s : State) (via : Option Nat) (t : Txn) : State :=
  if s.nodeLost t.node then s.bump Reg.CAUSEWAY_NOROUTE
  else
    match s.flowOf t with
    | none => s
    | some id =>
      let f := (s.cause.tx.find? (fun f => decide (f.id = id))).getD { id, pathB := s.pathFor t.node id.flow }
      if f.unacked = [] ∧ flowLimit ≤ (s.cause.tx.filter (fun f => !f.unacked.isEmpty)).length then
        { s with cause := { s.cause with parked := s.cause.parked ++ [t] } }
      else
        let f' : FlowTx := { f with next := (f.next + 1) % 2 ^ 32, unacked := f.unacked ++ [(f.next, t)] }
        ({ s with cause := { s.cause with
            tx := s.cause.tx.filter (fun f => decide (f.id ≠ id)) ++ [f']
            sent := s.cause.sent ++ [t] } } : State).sendPacket id f.pathB 0 f.next via t

/-- Hands a transaction to the transport. -/
def send (s : State) (t : Txn) : State := s.sendVia none t

/-- A system transaction to a node. -/
def sendSystem (s : State) (node op : Nat) (args : List Nat) (data : List Byte := []) (status : Nat := 0) : State :=
  s.send { node, part := none, op, status, args, data }

/-- A message on a broadcast tree: its next seq, on every port given, in the VCs of its partition, with no ack (R371, R372). -/
def sendTree (s : State) (tree seq : Nat) (ports : List Nat) (t : Txn) : State :=
  match s.flowOf { t with flow := tree } with
  | none => s
  | some id =>
    let pkt := packetBytes (4096 + tree) s.node false t.part (messageBytes tree 4 s.incarnation seq 0 t)
    let s := { s with cause := { s.cause with sent := s.cause.sent ++ [t] } }
    ports.foldl (fun s p => s.queueFlits p (packetFlits t.part.isNone id.vc id.cls pkt)) s

/-- The next transaction number. -/
def nextTxn (s : State) : State × Nat :=
  ({ s with cause := { s.cause with txnNext := (s.cause.txnNext + 1) % 2 ^ 32 } }, s.cause.txnNext)

end State

end Sys2Proof.Machine
end

