-- ==== Sys2Proof/Machine/TierWrite.lean ====
section
/-!
DEFINITION. What the tier block writes and moves: first homes, coded blocks and their growth, writes at whatever place a granule is homed,
room made and allocations granted, frees (R211 to R220, R228 to R230, R236).
-/
namespace Sys2Proof.Machine

namespace State

/-! Homes. -/

/-- A place of a home: tier, node and location (Table 8.2). -/
abbrev Place := Nat × Nat × Nat

/-- Where a granule is homed at its first write: the highest allowed tier with room, in the order scratchpad, large tier, neighbour, store
(R218); none where that is the large tier and no washed region has room, and the write waits (R236). -/
def firstHome (s : State) (a : Alloc) (g : Nat) : Option Place :=
  match (if tierAllowed a.flags 0 then s.scratchPlace a g else none) with
  | some loc => some (0, 0, loc)
  | none =>
    let large := s.largeAllowed a
    match (if large then s.largePlace else none) with
    | some loc => some (1, 0, loc)
    | none =>
      if large ∧ s.washing then none
      else
        let lent := if tierAllowed a.flags 3 then s.lentFree else []
        match lent[s.draw.toNat % max 1 lent.length]? with
        | some (n, loc) => some (3, n, loc)
        | none => if tierAllowed a.flags 2 then s.storePlace.map (fun loc => (2, 0, loc)) else none

/-- Allotments that the blocks of a granule need, none below what it has (R228 to R230). -/
def allotments (a : Alloc) (g : Nat) (old : W64) : W64 :=
  (List.range 16).foldl (fun (w : W64) i =>
    let need := blockNeed (a.data.bytes (g * 65536 + i * 4096) 4096)
    w ||| BitVec.ofNat 64 (max (bits old.toNat (4 * i + 3) (4 * i)) need <<< (4 * i))) 0

/-- The entry of a granule homed at a place: coded where its allocation is compressible and the place the large tier or the store, expanded
anywhere else (R228). -/
def homedAt (a : Alloc) (g : Nat) (e : DirEntry) (p : Place) : DirEntry :=
  let coded : Bool := bit a.flags 5 && (p.1 == 1 || p.1 == 2)
  { e with
    state := 1, tier := p.1, node := if p.1 = 3 then p.2.1 else 0, location := p.2.2, compressed := coded
    allot := if coded then allotments a g 0 else 0, moveTo := none, dirty := [] }

/-- The store takes a write: the next save is armed, and neither region of the staging memory is full (R429, R443). -/
def storeTakes (s : State) : Bool :=
  s.fld Reg.STORE_STATUS 27 27 == 1 && decide (s.store.mapChanges < 8192) && decide (s.store.dirChanges < 2048)

/-- The unit of a granule homed in the store is written for the tier block, under the next write sequence and its partition's key: its map
change stands in the staging memory, and where its home is new so does the change of its directory entry, if the store keeps that (R424,
R425, R428, Table 16.8). -/
def storeUnit (s : State) (h g : Nat) (moved : Bool) : State :=
  match s.alloc? h with
  | none => s
  | some a =>
    let e := a.entry g
    let n := (s.store.writeSeq + 1) % 2 ^ 64
    let s := (s.bump Reg.STORE_HOST_UNITS).bump Reg.STORE_NAND_UNITS
    { s with store := { s.store with
        writeSeq := n
        units := Tab.set s.store.units (e.location / 128) { codewords := ceilDiv e.sectors 8, key := a.part, writeSeq := n }
        mapChanges := min 8192 (s.store.mapChanges + 1)
        dirChanges := min 2048 (s.store.dirChanges + b2n (moved && (bit a.flags 7 || a.published.isSome))) } }

/-- A granule of an allocation has its home at a place: in the store its unit is written. -/
def setHome (s : State) (h g : Nat) (p : Place) : State :=
  let s := s.updAlloc h (fun a => a.setEntry g (homedAt a g (a.entry g) p))
  if p.1 = 2 then s.storeUnit h g true else s

/-- Generation the next seam in record `k` takes: 0 at its first use, and one more than the last at each reuse (R245). -/
def nextGen (s : State) (k : Nat) : Nat :=
  match Tab.find? s.seams.gens k with
  | none => 0
  | some g => (g + 1) % 256

/-- A seam the module runs for itself, opened and closed in one step: it takes the lowest free record, or ends
SEAM_FULL where 256 are in use (R245, Table 9.9). The flag says whether it closed. -/
def ownSeam (s : State) : State × Bool :=
  match firstFrom (fun k => (Tab.find? s.seams.recs k).isNone) 0 256 with
  | none => (((s.bump Reg.SEAM_FULL_COUNT).bump Reg.SEAM_UNPICKED).wr Reg.SEAM_LAST (0x15 * 2 ^ 24), false)
  | some k =>
    ({ s with seams := { s.seams with gens := Tab.set s.seams.gens k (s.nextGen k) } }.bump
      Reg.SEAM_CLOSED, true)

/-- A granule written that cannot have its home yet, not grow, or not be written to the store yet: it waits (R230, R236, R429, R443). -/
def waitHome (s : State) (h g : Nat) : State :=
  { s with tier := { s.tier with unhomed := if s.tier.unhomed.contains (h, g) then s.tier.unhomed else s.tier.unhomed ++ [(h, g)] } }

/-- Descriptors in progress whose far requests resolved to the home of a granule: core and ticket. -/
def homeUsers (s : State) (h g : Nat) : List (Nat × Nat) :=
  s.cores.flatMap (fun (c, k) => (k.descs.filter (fun x => x.state != 0 && bits (x.words.getD 0 0).toNat 63 60 == 1 &&
    bits (x.words.getD 2 0).toNat 63 44 == h && !x.copies.any (fun y => y.1 == g))).map
      (fun x => (c, x.seqNo * 16 + b2n x.write * 8 + x.place)))

/-- A granule leaves its place: the space is released after the last far request that resolved to it has returned (R213, step 5); a lent
granule that its lender has recalled goes back to it (R233), and a unit of the store is unmapped (R427). -/
def leavePlace (s : State) (h g : Nat) (e : DirEntry) : State :=
  let users := s.homeUsers h g
  let keep : List HeldPlace := if e.housed = false ∨ users = [] then [] else
    [{ tier := e.tier, node := e.node, location := e.location, sectors := e.sectors, users := users }]
  let back : Bool := e.tier == 3 && s.tier.called.contains (e.node, e.location)
  let units := if e.housed && e.tier == 2 then Tab.erase s.store.units (e.location / 128) else s.store.units
  { s with
    store := { s.store with units := units }
    tier := { s.tier with
      leftPlaces := s.heldPlaces ++ keep
      borrowed := if back then s.tier.borrowed.erase (e.node, e.location) else s.tier.borrowed
      called := if back then s.tier.called.erase (e.node, e.location) else s.tier.called } }

/-- Gives a granule another place in one step: the tier block's own seam of one MOVE_GRANULE (R213). False where no record is free, or the
store takes no write. -/
def moveGranule (s : State) (h g : Nat) (p : Place) : State × Bool :=
  match s.alloc? h with
  | none => (s, false)
  | some a =>
    if p.1 = 2 ∧ s.storeTakes = false then (s, false)
    else
      let (t, ok) := s.ownSeam
      if ok then ((t.leavePlace h g (a.entry g)).setHome h g p, true) else (t, false)

/-- Another run in the tier of a granule whose coding has outgrown its allotments (R230). -/
def growPlace (s : State) (tier : Nat) : Option Place :=
  (if tier = 1 then s.largePlace else s.storePlace).map (fun loc => (tier, 0, loc))

/-- Gives a granule in state zero a home, marks dirty the 4 KiB blocks of a granule being moved, and moves a coded granule whose blocks have
outgrown their allotments to a new run (R211, R213, R230); a unit of the store is written when the store takes it (R428). -/
def touchGranule (s : State) (h g : Nat) (blocks : List Nat) : State :=
  match s.alloc? h with
  | none => s
  | some a =>
    let e := a.entry g
    if e.state = 4 ∨ e.state = 0 then
      match s.firstHome a g with
      | none => s.waitHome h g
      | some p => if p.1 = 2 ∧ s.storeTakes = false then s.waitHome h g else (s.setHome h g p).drawn
    else
      let s := if e.tier ≠ 2 then s else if s.storeTakes then s.storeUnit h g false else s.waitHome h g
      if e.state = 2 then
        s.updAlloc h (fun a => a.setEntry g { e with dirty := e.dirty ++ blocks.filter (fun b => !e.dirty.contains b) })
      else if e.compressed = false ∨ allotments a g e.allot = e.allot then s
      else match s.growPlace e.tier with
        | none => s.waitHome h g
        | some p => let (s, ok) := s.drawn.moveGranule h g p; if ok then s else s.waitHome h g

/-- Takes up the granules that wait for a home or for room to grow. -/
def homeWaiting (s : State) : State :=
  let l := s.tier.unhomed
  l.foldl (fun s x => s.touchGranule x.1 x.2 []) ({ s with tier := { s.tier with unhomed := [] } } : State)

/-! Bytes. -/

/-- A far request of the tier block itself to a lent granule: the 16-byte units that hold bytes [lo, hi) of a granule, in one 4 KiB block
(R212, R369). The answer is its node, transaction and byte offset. -/
def lentRequest (s : State) (h g lo hi : Nat) (write : Bool) : State × List (Nat × Nat × Nat) :=
  match s.alloc? h with
  | none => (s, [])
  | some a =>
    let e := a.entry g
    let lo := lo / 16 * 16
    let n := ceilDiv (hi - lo) 16 * 16
    let (s, t) := s.nextTxn
    (s.send { node := e.node, part := some a.part, flow := g % 256, op := if write then 0x03 else 0x01, txn := t
              args := [1, e.location, 0, lo % 65536 / 16, n], data := if write then a.data.bytes lo n else [] }, [(e.node, t, lo)])

/-- A granule is homed in another module's large tier (R212, R232). -/
def lentHome (s : State) (h g : Nat) : Bool :=
  match s.alloc? h with
  | none => false
  | some a => let e := a.entry g; a.published.isNone && e.tier == 3 && e.housed

/-- The far requests that a range of an allocation asks of lenders. -/
def lentRequests (s : State) (h off n : Nat) (write : Bool) : State × List (Nat × Nat × Nat) :=
  (blockPieces off n).foldl (fun (s, l) p =>
    if s.lentHome h p.1 then let (s, t) := s.lentRequest h p.1 p.2.1 p.2.2 write; (s, l ++ t) else (s, l)) (s, [])

/-- Bytes land in an allocation: what they cover is mended, and the granules they touch have their homes (R211, R225). -/
def landBytes (s : State) (h off : Nat) (v : List Byte) : State :=
  if v.isEmpty then s
  else
    let s := s.updAlloc h (fun a => { (a.mend off v.length) with data := a.data.write off v })
    (List.range' (off / 65536) ((off + v.length - 1) / 65536 - off / 65536 + 1)).foldl (fun s g =>
      let lo := max off (g * 65536)
      let hi := min (off + v.length) (g * 65536 + 65536)
      s.touchGranule h g (List.range' (lo % 65536 / 4096) ((hi - 1) % 65536 / 4096 - lo % 65536 / 4096 + 1))) s

/-- Writes bytes into an allocation, at its home wherever that is: a lent granule takes them by WRITEs (R212). -/
def writeAlloc (s : State) (h off : Nat) (v : List Byte) : State := ((s.landBytes h off v).lentRequests h off v.length true).1

/-! Making room (R219). -/

/-- Rank of a tier, the highest first (R218): scratchpad, large tier, neighbour, store. -/
def tierRank (t : Nat) : Nat := if t = 3 then 2 else if t = 2 then 3 else t

/-- The order in which room is made: lowest use count, then lowest handle, then granule number. -/
def roomBefore (a b : Nat × Nat × Nat) : Bool :=
  if a.1 ≠ b.1 then decide (a.1 < b.1) else if a.2.1 ≠ b.2.1 then decide (a.2.1 < b.2.1) else decide (a.2.2 ≤ b.2.2)

/-- A far request that resolved to a replica is outstanding (R222). -/
def replicaBusy (s : State) (r : Replica) : Bool :=
  s.cores.any (fun (_, k) => k.descs.any (fun x => x.state != 0 && x.copies.contains (r.granule, r.tier, r.node, r.location)))

/-- Releases a replica, at once or after the last far request that resolved to it (R222). -/
def releaseReplica (s : State) (r : Replica) : State :=
  { s with tier := { s.tier with replicas :=
      (if s.replicaBusy r then s.tier.replicas.map (fun x => if x = r then { x with going := true } else x) else s.tier.replicas.erase r) } }

/-- Replicas that were to be released and that nothing uses any more. -/
def sweepReplicas (s : State) : State :=
  { s with tier := { s.tier with replicas := s.tier.replicas.filter (fun r => !(r.going && !s.replicaBusy r)) } }

/-- Releases the first replica of a partition in a tier, if it has one that is not being made and that no far request uses. -/
def dropReplica (s : State) (p t : Nat) : Option State :=
  let key (r : Replica) : Nat × Nat × Nat := (r.use, (s.objectHandle r.object r.version).getD 0, r.granule)
  let l := (s.tier.replicas.filter (fun r => r.part == p && r.tier == t && !r.making && !s.replicaBusy r)).mergeSort
    (fun a b => roomBefore (key a) (key b))
  l.head?.map s.releaseReplica

/-- The next lower tier a granule of a tier may go to, with a place there. -/
def lowerPlace (s : State) (a : Alloc) (t : Nat) : Option Place :=
  match (if t = 0 ∧ s.largeAllowed a = true then s.largePlace else none) with
  | some loc => some (1, 0, loc)
  | none =>
    let lent := if tierAllowed a.flags 3 then s.lentFree else []
    match lent[s.draw.toNat % max 1 lent.length]? with
    | some (n, loc) => some (3, n, loc)
    | none => if tierAllowed a.flags 2 then s.storePlace.map (fun loc => (2, 0, loc)) else none

/-- Moves a granule down to the next lower allowed tier by a seam of the tier block's own, its bytes to a lender by WRITEs (R213, R219). -/
def moveLower (s : State) (h g : Nat) : Option State :=
  match s.alloc? h with
  | none => none
  | some a =>
    match s.lowerPlace a (a.entry g).tier with
    | none => none
    | some p =>
      let (s, ok) := s.drawn.moveGranule h g p
      if ok then some (s.lentRequests h (g * 65536) 65536 true).1 else none

/-- An open seam holds a granule (Table 9.3): a move or a flip of it that has been prepared. -/
def granuleHeld (s : State) (h g : Nat) : Bool :=
  s.seams.recs.any (fun x => decide (3 ≤ x.2.state) && decide (x.2.state ≤ 4) && x.2.submitter != 8 && x.2.actions.any (fun a =>
    (bits a.1.toNat 63 60 == 1 || bits a.1.toNat 63 60 == 3) && bits a.1.toNat 55 36 == h && bits a.1.toNat 35 12 == g))

/-- Moves down the first granule of a partition that lies in a tier above its base tier. -/
def moveDown (s : State) (p t : Nat) : Option State :=
  let l := (s.tier.allocs.flatMap (fun (h, a) =>
      if a.part = p ∧ tierRank t < tierRank (baseTier a.flags) then
        (a.dir.filter (fun x => x.2.state == 1 && x.2.tier == t && !s.granuleHeld h x.1)).map (fun x => (x.2.use, h, x.1)) else [])).mergeSort
    roomBefore
  match l.head? with
  | none => none
  | some (_, h, g) => s.moveLower h g

/-- Room a partition has in the scratchpad, in its large-tier quota or in the store. -/
def roomIn (s : State) (p t : Nat) : Nat :=
  if t = 0 then s.scratchRoom p else if t = 1 then s.fld (Reg.TIER_QUOTA p) 24 0 - s.tierUsed p else s.storeUsable - s.storeReserved

/-- Makes room for `n` granules of a partition in a tier, replicas first, then granules above their base tier, from which those of
neighbour_ok allocations go to lent granules while some are held (R219); `fuel` bounds the number released. -/
def makeRoom (s : State) (p t n : Nat) : Nat → State
  | 0 => s
  | fuel + 1 =>
    if n ≤ s.roomIn p t then s
    else match (s.dropReplica p t).or (s.moveDown p t) with
      | none => s
      | some s => makeRoom s p t n fuel

/-- Granules a partition could be asked to release from a tier. -/
def releasable (s : State) (p t : Nat) : Nat :=
  (s.tier.replicas.filter (fun r => r.part == p && r.tier == t)).length +
  (s.tier.allocs.map (fun (_, a) => if a.part = p then (a.dir.filter (fun x => x.2.tier == t)).length else 0)).sum

/-- Allocates if the request fits, room made for its reservation, by a seam that commits at once (R27, log entry 45): the handle and the
status. -/
def allocate (s : State) (a : Alloc) : State × Nat × Nat :=
  let s := s.sweepReplicas
  let t := baseTier a.flags
  let core := if a.placement then some a.core else none
  let st := s.grantStatus a.part a.flags a.granules core
  let s := if st = 0x11 ∨ st = 0x12 then s.makeRoom a.part (if st = 0x12 then 2 else t) a.granules (s.releasable a.part t) else s
  let st := s.grantStatus a.part a.flags a.granules core
  if st ≠ 0 then (s, 0, st)
  else
    let (s, ok) := s.ownSeam
    if ok then let (s, h) := s.grant a; (s, h, 0) else (s, 0, 0x13)

/-! Replicas. -/

/-- The partition's quota has room for one more granule in the large tier. -/
def quotaRoom (s : State) (p : Nat) : Bool := decide (s.tierUsed p < s.fld (Reg.TIER_QUOTA p) 24 0)

/-- Where the bytes of a granule of an object come from as a replica of it is made: this module (none), another node, or nowhere. -/
inductive Source where
  | here
  | node (n loc : Nat)
  | nowhere
deriving DecidableEq, Repr

/-- The source of a granule of an object for a replica (R223). -/
def copySource (s : State) (p : Nat) (a : Alloc) (g : Nat) : Source :=
  match s.readSource none p a g with
  | some r => if r.tier = 3 then .node r.node r.location else .here
  | none =>
    let e := a.entry g
    if a.homeHere g then (if s.readBad a (g * 65536) 65536 || a.meetsLost (g * 65536) 65536 then .nowhere else .here)
    else if e.state = 3 then .nowhere
    else match (if e.tier = 3 then some e.node else a.homeNode) with
      | some n => if s.nodeLost n then .nowhere else .node n e.location
      | none => .nowhere

/-- Registers a replica that is being made; bytes that another module holds are read from it (R222, R369). -/
def makeReplica (s : State) (p h g t l : Nat) (src : Source) : State :=
  match s.alloc? h with
  | none => s
  | some a =>
    let (o, v) := a.published.getD (0, 0)
    let s : State := { s with tier := { s.tier with replicas := s.tier.replicas ++
      [{ object := o, version := v, granule := g, part := p, tier := t, location := l, making := true }] } }
    match src with
    | .node n loc => (List.range 16).foldl (fun s b =>
        let (s, x) := s.nextTxn
        let s : State := { s with tier := { s.tier with fetches := s.tier.fetches ++ [{ txn := x, node := n, handle := h, granule := g, block := b }] } }
        s.send { node := n, part := some p, flow := x % 256, op := 0x01, txn := x, args := [1, loc, o, b * 256, 4096] }) s
    | _ => s

/-- Granules of an image that a press could not load yet: homed in the store, or on another module, with no replica in the large tier or a
scratchpad (R159). One whose bytes cannot be had is not waited for. -/
def imageBelow (s : State) (p h : Nat) : List Nat :=
  match s.alloc? h with
  | none => []
  | some a => match a.published with
    | none => []
    | some (o, v) => (List.range a.granules).filter (fun g =>
        let e := a.entry g
        e.state != 4 && !(a.homeHere g && e.tier != 2) && !(s.replicasOf o v g).any (fun r => r.tier == 0 || r.tier == 1) &&
          s.copySource p a g != .nowhere)

/-- Brings an image up into the large tier for a press, as replicas of its granules (R159, log entry 140). -/
def bringUp (s : State) (p h : Nat) : State :=
  (s.imageBelow p h).foldl (fun s g => match s.alloc? h with
    | none => s
    | some a =>
      if s.tier.replicas.any (fun r => r.making && r.tier == 1 && a.published == some (r.object, r.version) && r.granule == g) then s
      else
        let s := s.makeRoom p 1 1 (s.releasable p 1)
        match (if s.quotaRoom p then s.largePlace else none) with
        | some l => s.drawn.makeReplica p h g 1 l (s.copySource p a g)
        | none => s) s

/-! Frees (R220). -/

/-- Asks for the free of an allocation; it commits by ALLOCATION_FREE_COMMIT (R220). -/
def requestFree (s : State) (h : Nat) (host : Option (Nat × Nat) := none) : State :=
  s.updAlloc h (fun a => if a.freeing.isSome then a else { a with freeing := some host })

/-- The free's commit: space and entries are released, and the handle rests 1,024 milestones (R220). The replicas of an
object whose authoritative home goes are released with it. -/
def commitFree (s : State) (h : Nat) : State :=
  match s.alloc? h with
  | none => s
  | some a =>
    let s := a.dir.foldl (fun s x => s.leavePlace h x.1 x.2) s
    let s := { s with tier := { s.tier with
      allocs := Tab.erase s.tier.allocs h
      freed := (s.tier.freed.filter (fun x => decide (s.legCount < x.2 + 1024))) ++ [(h, s.legCount)]
      unhomed := s.tier.unhomed.filter (fun x => x.1 != h)
      replicas := match a.published with
        | none => s.tier.replicas
        | some (o, v) => s.tier.replicas.filter (fun r => !(r.object == o && r.version == v)) } }
    match a.freeing with
    | some (some (p, q)) => s.reply p 0x0021 q 0 0
    | _ => s

end State

end Sys2Proof.Machine
end

