-- ==== Sys2Proof/Machine/Chooser.lean ====
section
/-!
DEFINITION. The tiling record, the tile chooser and the plan table (06: R167 to R169, R172, R182 to R185).
-/
namespace Sys2Proof.Machine

/-- An entry of a tiling record (Table 6.2). -/
structure MenuEntry where
  entryPc : Nat
  order : Nat
  mcode : Nat
  ncode : Nat
  fixedMultiple : Bool
  accStatic : Nat
  accPerBlock : Nat
  partsMax : Nat
  fallback : Nat
  gran : Nat
  blocksPerGran : Nat
  spill : Nat
  c0 : Nat
  c1 : Nat
  cs : Nat
  /-- A reserved bit or byte of the entry is not 0. -/
  reservedBad : Bool
deriving DecidableEq, Repr

/-- Entry `i` of the record whose bytes are `b`. -/
def menuEntry (b : List Byte) (i : Nat) : MenuEntry :=
  let o := 16 + 32 * i
  let pc := fieldAt b o 2
  let sh := fieldAt b (o + 3) 1
  { entryPc := bits pc 11 0, order := fieldAt b (o + 2) 1, mcode := bits sh 2 0, ncode := bits sh 5 3
    fixedMultiple := bit sh 6, accStatic := fieldAt b (o + 4) 1, accPerBlock := fieldAt b (o + 5) 1
    partsMax := fieldAt b (o + 6) 1, fallback := fieldAt b (o + 7) 1, gran := fieldAt b (o + 8) 2
    blocksPerGran := fieldAt b (o + 10) 2, spill := fieldAt b (o + 12) 1
    c0 := fieldAt b (o + 0x10) 4, c1 := fieldAt b (o + 0x14) 4, cs := fieldAt b (o + 0x18) 4
    reservedBad := bits pc 15 12 != 0 || bit sh 7 || !zerosAt b (o + 13) 3 || !zerosAt b (o + 0x1C) 4 }

namespace MenuEntry

/-- m_t, rows of an output block. -/
def mt (e : MenuEntry) : Nat := 16 * 2 ^ e.mcode
/-- n_t, columns of an output block. -/
def nt (e : MenuEntry) : Nat := 64 * 2 ^ e.ncode
/-- Accumulator tiles needed at governing length `l` (Table 6.3). -/
def need (e : MenuEntry) (l : Nat) : Nat :=
  if e.order = 1 then e.accStatic + e.accPerBlock * ceilDiv (min l e.mt) 128 else e.accStatic

/-- The fields lie in the ranges of Table 6.2. -/
def rangesOk (e : MenuEntry) : Bool :=
  !e.reservedBad && decide (e.order ≤ 2) && decide (e.mcode ≤ 6) && decide (e.ncode ≤ 3) &&
    decide (1 ≤ e.partsMax ∧ e.partsMax ≤ 16) && decide (1 ≤ e.gran ∧ e.gran ≤ 32768) &&
    decide (1 ≤ e.blocksPerGran ∧ e.blocksPerGran ≤ 16384) && decide (e.spill ≤ 47)

/-- acc_static is n_t ÷ 64 or twice that. -/
def accPlain (e : MenuEntry) : Bool := e.accStatic == e.nt / 64 || e.accStatic == 2 * (e.nt / 64)

/-- The entry meets its row of the shape menu (R168, Table 6.3); `all` are the entries of the record. -/
def menuOk (e : MenuEntry) (all : List MenuEntry) (accTiles : Nat) : Bool :=
  e.rangesOk && decide (e.need 1 ≤ accTiles) &&
  (if e.order = 0 then
    decide (e.mt ≤ 128) && e.accPlain && e.accPerBlock == 0 && e.partsMax == 1 && decide (e.accStatic ≤ 8) && e.fallback == 0xFF
  else if e.order = 1 then
    decide (256 ≤ e.mt ∧ e.mt ≤ 1024) && decide (e.nt ≤ 256) && decide (e.accStatic ≤ e.nt / 64) && e.accPerBlock == e.nt / 64 &&
      e.partsMax == 1 && (e.fallback == 0xFF || (match all[e.fallback]? with | some f => f.order == 2 | none => false))
  else
    decide (e.mt ≤ 128) && decide (e.nt ≤ 256) && e.accPlain && e.accPerBlock == 0 && decide (e.accStatic ≤ 8) &&
      decide (ceilDiv (e.mt * e.nt * 4) 65536 ≤ e.spill) && e.fallback == 0xFF)

/-- Entry 0 of a context whose partition has more than eight districts (R169). -/
def fixedOk (e : MenuEntry) : Bool :=
  let a := e.mt / 128
  let b := e.nt / 64
  e.rangesOk && e.fixedMultiple && e.order != 1 && [1, 2, 4, 8].contains a && [1, 2, 4, 8].contains b && decide (a * b ≤ 8) &&
    (e.accStatic == a * b || (e.accStatic == 2 * a * b && decide (2 * a * b ≤ 8)))

end MenuEntry

/-- Entries of a record, by its header. -/
def menuOf (b : List Byte) : List MenuEntry := (List.range (fieldAt b 5 1)).map (menuEntry b)

/-- The record passes the checks CP0 makes when a context is formed (R167 to R169): its section, the image's
acc_tiles, and whether the partition has more than eight districts. -/
def recordOk (b : List Byte) (sec accTiles : Nat) (many : Bool) : Bool :=
  let es := menuOf b
  fieldAt b 0 4 == 0x4C495447 && fieldAt b 4 1 == sec && decide (1 ≤ fieldAt b 5 1 ∧ fieldAt b 5 1 ≤ 8) &&
    decide (fieldAt b 6 1 ≤ 2) && fieldAt b 7 1 == 0 && decide (1 ≤ fieldAt b 8 4 ∧ fieldAt b 8 4 ≤ 65536) && fieldAt b 12 4 == 0 &&
    (if many then (match es.head? with | some e => e.fixedOk | none => false) else es.all (fun e => e.menuOk es accTiles))

/-- Inputs of the chooser (R182). -/
structure ChooserIn where
  entries : List MenuEntry
  lenMax : Nat
  /-- C = 16 × w × h. -/
  cores : Nat
  many : Bool
  spare : Nat
  target : Nat

namespace ChooserIn

/-- Estimated cycles per tile (R183). -/
def cyc (e : MenuEntry) (l p : Nat) : Nat :=
  let r := min l e.gran
  let c := e.c0 + ceilDiv (e.c1 * r) (16 * p)
  if 1 < p then c + ceilDiv (e.cs * r) 16 else c

/-- Parts an entry is run in at a length (R183). -/
def parts (x : ChooserIn) (e : MenuEntry) (l : Nat) : Nat :=
  if e.order ≠ 2 then 1
  else ((List.range' 1 e.partsMax).find? (fun q => decide (cyc e l q ≤ x.target))).getD e.partsMax

/-- Parts, estimate and whether the tile is over the target; none if the entry cannot be used (R183). -/
def rate (x : ChooserIn) (e : MenuEntry) (l : Nat) : Option (Nat × Nat × Bool) :=
  if x.spare < e.spill then none
  else
    let p := x.parts e l
    let c := cyc e l p
    if 80000 < c then none
    else some (p, ceilDiv (ceilDiv l e.gran * e.blocksPerGran) x.cores * p * c, decide (x.target < c))

/-- Key of a candidate compares below another's: over target, estimate, index (R183). -/
def keyLt (a b : Bool × Nat × Nat) : Bool :=
  if a.1 != b.1 then b.1
  else if a.2.1 ≠ b.2.1 then decide (a.2.1 < b.2.1) else decide (a.2.2 < b.2.2)

/-- The usable entry with the least key among those `ok` allows: its index, parts and estimate. -/
def best (x : ChooserIn) (l : Nat) (ok : MenuEntry → Bool) : Option (Nat × Nat × Nat) :=
  let cands := if x.many then [0] else List.range x.entries.length
  let scored := cands.filterMap (fun i =>
    match x.entries[i]? with
    | none => none
    | some e => if ok e then (x.rate e l).map (fun r => ((r.2.2, r.2.1, i), r.1)) else none)
  match scored with
  | [] => none
  | h :: t =>
    let m := t.foldl (fun m c => if keyLt c.1 m.1 then c else m) h
    some (m.1.2.2, m.2, m.1.2.1)

/-- The plan of bucket `b`: entry, parts, estimate, fallback; none if the bucket is invalid (R183, R184). -/
def planBucket (x : ChooserIn) (b : Nat) : Option (Nat × Nat × Nat × Bool) :=
  if 0 < b ∧ x.lenMax < 2 ^ (b - 1) + 1 then none
  else
    let l := min (2 ^ b) x.lenMax
    match x.best l (fun _ => true) with
    | none => none
    | some (i, p, est) =>
      match x.entries[i]? with
      | none => none
      | some e =>
        if e.need l ≤ 8 then some (i, p, est, false)
        else
          let alt : Option (Nat × Nat × Nat) :=
            match (if e.fallback = 0xFF then none else x.entries[e.fallback]?) with
            | none => none
            | some f => (x.rate f l).map (fun r => (e.fallback, r.1, r.2.1))
          match alt with
          | some (j, q, es) => some (j, q, es, true)
          | none => (x.best l (fun f => decide (f.need l ≤ 8))).map (fun r => (r.1, r.2.1, r.2.2, true))

/-- The plan table entry of a section (Table 6.7), as a number. -/
def planEntry (x : ChooserIn) (sec : Nat) : Nat :=
  (List.range 17).foldl (fun n b =>
    match x.planBucket b with
    | none => n
    | some (i, p, est, fb) =>
      n + (i % 8 + 8 + (p - 1) * 16) * 2 ^ (8 * b) + (if fb then 2 ^ (0x14 * 8 + b) else 0) +
        min 0xFFFF (ceilDiv est 16) * 2 ^ (8 * (0x18 + 2 * b))) (sec * 2 ^ (8 * 0x3A))

end ChooserIn

/-- Bucket of a governing length (R172): ceil(log₂ L), 0 to 16. -/
def bucketOf (l : Nat) : Nat := (firstFrom (fun b => decide (l ≤ 2 ^ b)) 0 17).getD 16

namespace State

/-- Districts in a mask. -/
def districtCount (mask : Nat) : Nat := ((List.range 64).filter (fun d => bit mask d)).length

/-- The chooser's inputs for a section object of a context (R182): its handle, and the context's shape and share. -/
def chooserIn (s : State) (part image w h shareSize : Nat) : ChooserIn :=
  let ib := s.peekNat image 0x10 4
  let b := s.peek image ib (16 + 32 * 8)
  { entries := menuOf b, lenMax := fieldAt b 8 4, cores := 16 * w * h
    many := decide (8 < districtCount (s.partDistricts part))
    spare := shareSize - s.peekNat image 0x1D 1, target := s.fld Reg.SERVING_PLAN_CTRL 16 0 }

/-- The section object's record passes CP0's checks (R167). -/
def tilingOk (s : State) (part image sec : Nat) : Bool :=
  let ib := s.peekNat image 0x10 4
  recordOk (s.peek image ib (16 + 32 * 8)) sec (s.peekNat image 0x1C 1) (decide (8 < districtCount (s.partDistricts part)))

/-- gov field of a section object's record (R172). -/
def govOf (s : State) (image : Nat) : Nat := s.peekNat image (s.peekNat image 0x10 4 + 6) 1

/-- Writes the plan entry of a section of a context, by a seam of one write-table-entry action that commits at once (R182). Without a free
record the entry keeps its old plan. -/
def writePlan (s : State) (part : Nat) (c : Ctx) (i : Nat) : State × Bool :=
  let (t, ok) := s.ownSeam
  if ok then (t.setEntry 1 (c.plans.getD i 0) ((s.chooserIn part (c.images.getD i 0) c.w c.h c.shareSize).planEntry i), true) else (t, false)

/-- Writes the plan entries of every section of a context (R182); the flag says that every one was written. -/
def writePlans (s : State) (part : Nat) (c : Ctx) : State × Bool :=
  (List.range c.sections).foldl (fun (s, all) i => let (s, ok) := s.writePlan part c i; (s, all && ok)) (s, true)

/-- What the builder takes from a plan entry for a length (R185): entry, parts, fallback and estimate in units of 16
cycles; none where the bucket is not valid. -/
def planFor (s : State) (plan l : Nat) : Option (Nat × Nat × Bool × Nat) :=
  let b := bucketOf l
  let ch := s.ent 1 plan b 1
  if bit ch 3 then some (bits ch 2 0, bits ch 7 4 + 1, bit (s.ent 1 plan 0x14 4) b, s.ent 1 plan (0x18 + 2 * b) 2) else none

/-- Plan table entries a context holds are in use (SERVING_PLAN_STATUS). -/
def plansUsed (s : State) : Nat := s.serving.ctxs.foldl (fun n (_, c) => n + c.plans.length) 0

/-- A run of `n` consecutive plan entries no context uses (R182). Which run is the model's choice, the lowest (DESIGN CHOICE, log entry 43). -/
def planRun (s : State) (n : Nat) : Option (List Nat) :=
  let used := s.serving.ctxs.flatMap (fun x => x.2.plans)
  let starts := 0 :: (used.map (· + 1))
  let ok := starts.filter (fun b => decide (b + n ≤ 8192) && !used.any (fun u => decide (b ≤ u) && decide (u < b + n)))
  match ok with
  | [] => none
  | h :: t => some (List.range' (t.foldl min h) n)

end State

/-- A governing length is served by a section: not above len_max, its bucket valid (R185). -/
def State.planServes (s : State) (image plan l : Nat) : Bool :=
  decide (l ≤ s.peekNat image (s.peekNat image 0x10 4 + 8) 4) && (s.planFor plan l).isSome

/-- The plan word of s1 (Table 6.4). -/
def planWord (l entry parts : Nat) (fallback : Bool) : Nat :=
  bucketOf l * 2048 + (if fallback then 1024 else 0) + (parts - 1) * 64 + entry

end Sys2Proof.Machine
end

