-- ==== Sys2Proof/Machine/CoreBase.lean ====
section
/-!
DEFINITION. What the CORE window and the district registers hold of a core: slots, shares, epochs and semaphore pairs
(03: R64, R89; 05: R149 to R151).
-/
namespace Sys2Proof.Machine

namespace State

/-- Adds a consequence for another block. -/
def owe (s : State) (d : Due) : State := { s with due := s.due ++ [d] }

/-- State of a core (Table 3.11): 0 idle, 1 running a tile, 2 keep-warm, 3 awaiting the work list, 4 stopped by fault,
5 switching slot. -/
def coreState (s : State) (c : Nat) : Nat := s.fld (Reg.CORE_STATUS c) 3 0
/-- Sets the state of a core. -/
def setCoreState (s : State) (c v : Nat) : State := s.setFld (Reg.CORE_STATUS c) 3 0 v
/-- Active slot of a core. -/
def activeSlot (s : State) (c : Nat) : Nat := s.fld (Reg.CORE_STATUS c) 5 4
/-- Slot `i` of a core holds a pressed image. -/
def slotValid (s : State) (c i : Nat) : Bool := bit (s.fld (Reg.CORE_STATUS c) 11 8) i
/-- Sets or clears slot_valid of a slot. -/
def setSlotValid (s : State) (c i : Nat) (v : Bool) : State := s.setFld (Reg.CORE_STATUS c) (8 + i) (8 + i) (b2n v)

/-- Epoch of slot `i` in district `d` (Table 5.13). -/
def epoch (s : State) (d i : Nat) : Nat := s.fld (Reg.SERVING_DIST_STATUS d) (19 + 4 * i) (16 + 4 * i)
/-- State of a district. -/
def distState (s : State) (d : Nat) : Nat := s.fld (Reg.SERVING_DIST_STATUS d) 2 0

/-- Owner slot of a semaphore pair, if it has one (Table 3.11). -/
def semOwner (s : State) (c n : Nat) : Option Nat :=
  let v := s.fld (Reg.CORE_SEM_OWNER c (n / 8)) (4 * (n % 8) + 3) (4 * (n % 8))
  if bit v 3 then some (bits v 1 0) else none
/-- Sets the owner of a pair. -/
def setSemOwner (s : State) (c n : Nat) (o : Option Nat) : State :=
  s.setFld (Reg.CORE_SEM_OWNER c (n / 8)) (4 * (n % 8) + 3) (4 * (n % 8)) (match o with | some i => 8 + i | none => 0)
/-- A count of a pair: the room count or the fill count. -/
def semCount (s : State) (c n : Nat) (room : Bool) : Nat :=
  if room then s.fld (Reg.CORE_SEM c n) 31 16 else s.fld (Reg.CORE_SEM c n) 15 0
/-- Sets a count of a pair. -/
def setSemCount (s : State) (c n : Nat) (room : Bool) (v : Nat) : State :=
  if room then s.setFld (Reg.CORE_SEM c n) 31 16 v else s.setFld (Reg.CORE_SEM c n) 15 0 v

/-- A stray: dropped and counted in the receiving district (R149). -/
def stray (s : State) (c : Nat) : State := s.bump (Reg.SERVING_DIST_STRAY (districtOf c))

/-- Adds to a count of a pair the slot owns; a sum above 65,535 faults the owning task and leaves the count (Table 3.6). -/
def semAdd (s : State) (c n slot : Nat) (room : Bool) (v : Nat) : State :=
  let x := s.semCount c n room + v
  if 65535 < x then s.owe (.fault c slot 0x07) else s.setSemCount c n room x

/-- A post that arrives at a pair with an epoch of its slot: applied, or dropped as a stray (R149, Table 3.6). A pair
the named slot does not own takes no post: it is dropped the same way (log entry 16). -/
def semPost (s : State) (c n slot ep : Nat) (room : Bool) (v : Nat) : State :=
  if s.semOwner c n = some slot ∧ s.epoch (districtOf c) slot = ep then s.semAdd c n slot room v else s.stray c

/-- Dispatch blocks abandoned: their granted choices' results are dropped when they come (Table 12.7). -/
def dropBlocks (s : State) (test : DispBlock → Bool) : State :=
  let gone := s.expert.blocks.filter test
  if gone = [] then s
  else { s with expert := { s.expert with
    blocks := s.expert.blocks.filter (fun b => !test b)
    abandoned := s.expert.abandoned ++ gone.flatMap (fun b => (b.choices.filter (fun x => x.state == 2)).map (·.tag)) } }

end State

end Sys2Proof.Machine
end

