-- ==== Sys2Proof/Machine/SeamBase.lean ====
section
/-!
DEFINITION. Seam records: opening, final status and unpick requests (R238 to R247, R255, R256, R261). What an action
does is in Machine/Seams.lean.
-/
namespace Sys2Proof.Machine

/-! Transaction operations of seams (Table 14.10). -/
/-- SEAM_PREPARE. -/ abbrev opPrepare : Nat := 0x20
/-- SEAM_READY. -/ abbrev opReady : Nat := 0x21
/-- SEAM_REFUSE. -/ abbrev opRefuse : Nat := 0x22
/-- SEAM_COMMIT. -/ abbrev opCommit : Nat := 0x23
/-- SEAM_UNPICK. -/ abbrev opUnpick : Nat := 0x24
/-- SEAM_DONE. -/ abbrev opDone : Nat := 0x25
/-- SEAM_QUERY. -/ abbrev opQuery : Nat := 0x26

namespace Seam

/-- The seam ID of record `k` (R245). -/
def id (x : Seam) (k : Nat) : Nat := x.gen * 256 + k
/-- Type of an action (Table 9.3). -/
def kind (a : W64 × W64) : Nat := bits a.1.toNat 63 60
/-- A field of an action's word 0. -/
def w0 (a : W64 × W64) (hi lo : Nat) : Nat := bits a.1.toNat hi lo
/-- A field of an action's word 1. -/
def w1 (a : W64 × W64) (hi lo : Nat) : Nat := bits a.2.toNat hi lo
/-- The seam is not final: it may still be unpicked or applied. -/
def live (x : Seam) : Bool := decide (1 ≤ x.state) && decide (x.state ≤ 4)

end Seam

/-- An action: word 0 and word 1 (R248). -/
abbrev Action := W64 × W64

/-- Fields of an action's words (Table 9.3). -/
structure Act where
  kind : Nat := 0
  handle : Nat := 0
  granule : Nat := 0
  tier : Nat := 0
  node : Nat := 0
  location : Nat := 0
  table : Nat := 0
  remote : Bool := false
  index : Nat := 0
  stagedOff : Nat := 0
  stagedLen : Nat := 0
  core : Nat := 0
  slot : Nat := 0
  pair : Nat := 0
  room : Bool := false
  value : Nat := 0
  toNode : Bool := false
  part : Nat := 0
  origin : Nat := 0
  status : Nat := 0
  reqId : Nat := 0
  position : Nat := 0
  page : Nat := 0
deriving DecidableEq, Repr

/-- The fields of an action. -/
def Act.of (a : Action) : Act :=
  let f := Seam.w0 a
  let g := Seam.w1 a
  let k := Seam.kind a
  if k = 1 ∨ k = 3 then
    { kind := k, handle := f 55 36, granule := f 35 12, tier := f 11 10, node := g 63 52, location := g 35 0 }
  else if k = 2 then
    { kind := k, table := f 55 48, remote := f 47 47 == 1, node := f 46 35, index := f 31 0, handle := g 63 44
      stagedOff := g 43 8 * 16, stagedLen := g 7 0 * 16 }
  else if k = 4 then
    { kind := k, node := f 55 44, core := f 38 34 * 32 + f 43 39, slot := f 33 32, pair := f 31 26, room := f 25 25 == 1, value := f 24 9 }
  else if k = 5 then
    { kind := k, toNode := f 55 55 == 1, part := f 54 50, node := f 49 38, handle := g 63 44, stagedOff := g 43 8 * 16, stagedLen := g 7 0 * 16 }
  else if k = 6 then { kind := k, part := f 55 51, slot := f 50 49, origin := f 48 43, handle := f 42 23 }
  else if k = 7 then { kind := k, slot := f 55 43, status := f 42 35, reqId := g 63 0 }
  else if k = 8 then { kind := k, slot := f 55 43, handle := f 42 23, stagedOff := f 22 0 * 16, reqId := g 63 0 }
  else if k = 9 then { kind := k, slot := f 55 43, position := f 42 27, handle := g 63 44, page := g 43 12 }
  else if k = 10 then { kind := k, slot := f 55 43, position := f 42 27, value := g 31 0 }
  else if k = 11 then { kind := k, index := f 55 44, value := g 31 0 }
  else { kind := 0 }

/-! The journal (R244): where the records and the ledger lie, and their bytes. -/

/-- Bytes of general record `k` (Table 9.1). -/
def Seam.bytes (x : Seam) (k : Nat) : List Byte :=
  let acts := (List.range 64).flatMap (fun i => let a := x.actions.getD i (0, 0); leBytes 8 a.1.toNat ++ leBytes 8 a.2.toNat)
  leBytes 2 (x.id k) ++ leBytes 1 x.state ++ leBytes 1 x.status ++ leBytes 1 x.actions.length ++ leBytes 1 x.timing ++
    leBytes 1 x.submitter ++ leBytes 1 (match x.scope with | some (p, i) => 128 + i * 32 + p | none => 0) ++
    leBytes 2 (match x.owner with | some n => 2 ^ 15 + n | none => 0) ++ leBytes 2 x.coordNode ++ leBytes 2 x.coordSeam ++
    leBytes 2 x.notify ++ leBytes 8 x.reqId ++ leBytes 8 x.openedAt ++ List.replicate 32 0 ++ acts ++
    (List.range 64).flatMap (fun i => leBytes 8 (x.results.getD i 0)) ++ List.replicate 448 0

/-- Bytes of a ledger entry (Table 9.2). -/
def Ledger.bytes (e : Ledger) : List Byte :=
  leBytes 2 (e.slot + b2n e.retireDone * 2 ^ 13 + 2 ^ 15) ++ leBytes 2 e.firstPos ++ leBytes 1 e.tokens.length ++ [0] ++ leBytes 2 e.pages ++
    leBytes 8 e.reqId ++ leBytes 4 e.charge ++ leBytes 4 0 ++ (List.range 9).flatMap (fun i => leBytes 4 (e.tokens.getD i 0).toNat) ++ leBytes 4 0

/-- Core and offset within its journal area of ledger entry `n`. -/
def ledgerPlace (n : Nat) : Nat × Nat := (512 + n / 16, n % 16 * 64)

namespace State

/-- The journal area of a core, the top 1 KiB of its scratchpad (R244): half of a general record below core 512, sixteen ledger entries from
there on; a free record or entry reads as zeros. -/
def journal (s : State) (core : Nat) : List Byte :=
  if core < 512 then
    match Tab.find? s.seams.recs (core / 2) with
    | none => List.replicate 1024 0
    | some x => ((x.bytes (core / 2)).drop (core % 2 * 1024)).take 1024
  else (List.range 16).flatMap (fun i => match Tab.find? s.serving.ledger ((core - 512) * 16 + i) with
    | none => List.replicate 64 0
    | some e => e.bytes)

/-- The presses among a seam's actions. -/
def seamPresses (x : Seam) : List Act := (x.actions.map Act.of).filter (fun w => w.kind == 6)

/-- The record of seam number `k`, if it is not free. -/
def seam? (s : State) (k : Nat) : Option Seam := Tab.find? s.seams.recs k
/-- Changes a record. -/
def updSeam (s : State) (k : Nat) (f : Seam → Seam) : State :=
  match s.seam? k with
  | none => s
  | some x => { s with seams := { s.seams with recs := Tab.set s.seams.recs k (f x) } }

/-- The lowest-numbered free record (R245). -/
def freeRecord (s : State) : Option Nat := firstFrom (fun k => (s.seam? k).isNone) 0 256

/-- Opens a record: its generation is the next one, and the opening's LEG_COUNT and instant are kept (R245, Table 9.1). -/
def openRecord (s : State) (k : Nat) (x : Seam) : State :=
  let g := s.nextGen k
  { s with seams := { s.seams with
      recs := Tab.set s.seams.recs k { x with gen := g, state := 2, openedAt := s.legCount, openedTime := s.now }
      gens := Tab.set s.seams.gens k g } }

/-- SEAM_LAST shows an unpicked general seam (Table 9.10). -/
def showLast (s : State) (status : Nat) (scope : Option (Nat × Nat)) (seamId : Nat) : State :=
  s.wr Reg.SEAM_LAST (status * 2 ^ 24 + (match scope with | some (p, _) => p * 2 ^ 19 | none => 0) + seamId)

/-- The status a host seam's SEAM_STATUS carries (Table 15.8). -/
def seamStatusMsg (s : State) (x : Seam) (k : Nat) : State :=
  match x.host with
  | none => s
  | some (p, q) =>
    s.sendHost p 0x8030 (leBytes 2 (x.id k) ++ leBytes 1 x.status ++ leBytes 1 x.actions.length ++ leBytes 4 q ++ leBytes 8 0 ++
      (List.range 64).map (fun i => BitVec.ofNat 8 (x.results.getD i 0)))

/-- What a seam port learns of its final seam: state and status in the port record, and the notify post (R247). -/
def seamPortDone (s : State) (x : Seam) : State :=
  match x.port, x.scope with
  | some (ctx, rec_, core, ep), some (_, slot) =>
    let h := ((Tab.find? s.serving.ctxs ctx).getD {}).seamPort
    let s := s.writeAlloc h (rec_ * 2048 + 2) [5, BitVec.ofNat 8 x.status]
    if bit x.notify 15 then s.semPost core (bits x.notify 5 0) slot ep false 1 else s
  | _, _ => s

/-- An end of a request is to be brought about again at the next step 3. -/
def keepEnding (s : State) (e : Ending) : State := { s with serving := { s.serving with ending := s.serving.ending ++ [e] } }

/-- A record becomes final and free: the submitter learns the status, and the counters of Table 9.9 rise
(R241, R247). A seam that spans modules comes here when the last SEAM_DONE has arrived. A prefetch's own move marks its notify, and counts
as dropped if it ends unpicked (R201); an end of a request that does is brought about again. -/
def freeSeam (s : State) (k : Nat) : State :=
  match s.seam? k with
  | none => s
  | some x =>
    let s := { s with seams := { s.seams with recs := Tab.erase s.seams.recs k } }
    let s :=
      if x.status = 1 then s.bump Reg.SEAM_CLOSED
      else if x.status = 2 then s.bump Reg.SEAM_ALREADY
      else (s.bump Reg.SEAM_UNPICKED).showLast x.status x.scope (x.id k)
    let s := if x.submitter = 1 ∧ x.notify = 1 ∧ 3 ≤ x.status then
        s.bump (Reg.TIER_STREAM_PREFDROP ((x.scope.getD (0, 0)).1)) else s
    let s := match x.reason with
      | some (cls, cause) =>
        if x.status < 3 then s
        else s.keepEnding { reqId := x.reqId, status := (Act.of (x.actions.headD (0, 0))).status, cls := cls, cause := cause }
      | none => s
    (s.seamStatusMsg x k).seamPortDone x

/-- What an action of an unpicked seam in state 3 gives back: a granule that was to move keeps its home (R214). -/
def release (s : State) (a : Action) : State :=
  let x := Act.of a
  if x.kind = 1 then
    let s : State := { s with tier := { s.tier with
      moveAcks := s.tier.moveAcks.filter (fun m => !(m.handle == x.handle && m.granule == x.granule)) } }
    s.updAlloc x.handle (fun l =>
      let e := l.entry x.granule
      l.setEntry x.granule { e with state := if e.state = 2 then 1 else e.state, moveTo := none, dirty := [] })
  else s

/-- Drops the holds and reservations of a seam in state 3 that is unpicked (R255). -/
def releaseAll (s : State) (x : Seam) : State :=
  if x.state = 3 ∧ x.submitter ≠ 8 then x.actions.foldl (fun s a => s.release a) s else s

/-- Takes a seam to its status: every pending result word becomes it, and every participant still awaited is told
(R257); the record is freed at once where none is. -/
def endSeam (s : State) (k status : Nat) : State :=
  match s.seam? k with
  | none => s
  | some x =>
    let s := if status = 1 then s else s.releaseAll x
    let s := s.updSeam k (fun x => { x with
      status := status, state := 5, results := x.results.map (fun r => if r = 0 then status else r) })
    let waiting := x.participants.filter (fun p => decide (p.phase < 3))
    let s := { s with seams := { s.seams with presses := s.seams.presses.filter (fun p => decide (p.seam ≠ k ∨ p.phase = 1)) } }
    let s := if status ≠ 1 ∧ x.pressCtx.isSome then s.owe (.pressFailed (x.pressCtx.getD 0) status) else s
    if waiting.isEmpty then s.freeSeam k
    else
      let op := if status = 1 then opCommit else opUnpick
      waiting.foldl (fun s p => s.sendSystem p.node op [s.node, x.id k, status])
        (s.updSeam k (fun x => { x with participants := x.participants.map (fun p => if p.phase < 3 then { p with phase := 2 } else p) }))

/-- A participant's part ends: the coordinator is answered, the SEAM_ABORTs that waited for the decision are, and the record is free
(Table 9.6, R255). -/
def endPart (s : State) (k status op : Nat) : State :=
  match s.seam? k with
  | none => s
  | some x =>
    let s := { s with seams := { s.seams with recs := Tab.erase s.seams.recs k } }
    let s :=
      if status = 1 then s.bump Reg.SEAM_CLOSED
      else if status = 2 then s.bump Reg.SEAM_ALREADY
      else (s.bump Reg.SEAM_UNPICKED).showLast status x.scope (x.id k)
    let s := x.aborts.foldl (fun s (p, q) => s.reply p 0x0031 q 0 (if status = 1 then 2 else 1)) s
    if op = 0 then s else s.sendSystem x.coordNode op [x.coordNode, x.coordSeam, status]

/-- An unpick request for a record (R255, Table 9.5): true if it unpicked. A participant's part in state 3 is not ended;
one before it ends and answers SEAM_REFUSE. -/
def unpick (s : State) (k code : Nat) : State × Bool :=
  match s.seam? k with
  | none => (s, false)
  | some x =>
    if x.submitter = 8 then
      if x.state ≤ 2 then (s.endPart k code opRefuse, true) else (s, false)
    else if x.state ≤ 3 then (s.endSeam k code, true)
    else (s, false)

/-- Unpick requests for every record that meets a test. -/
def unpickAll (s : State) (code : Nat) (test : Nat → Seam → Bool) : State :=
  (s.seams.recs.filter (fun x => test x.1 x.2)).foldl (fun s x => (s.unpick x.1 code).1) s

/-- The open seams a request owns (R256). -/
def unpickOwned (s : State) (slot reqId code : Nat) : State :=
  s.unpickAll code (fun _ x => x.owner == some slot && x.reqId == reqId)

end State

end Sys2Proof.Machine
end

