-- ==== Sys2Proof/Machine/Serving.lean ====
section
/-!
DEFINITION. The serving block's records: tables it reads, projection (R269), what disables a request (R57), and how a
request ends (R263, R288, R403).
-/
namespace Sys2Proof.Machine

/-! Request statuses (Table 10.1). -/
/-- DONE. -/ abbrev stDone : Nat := 0x01
/-- CANCELLED. -/ abbrev stCancelled : Nat := 0x02
/-- DISABLED. -/ abbrev stDisabled : Nat := 0x03
/-- ABORTED. -/ abbrev stAborted : Nat := 0x04
/-- DEADLINE_MISSED. -/ abbrev stMissed : Nat := 0x05
/-- DEP_FAILED. -/ abbrev stDepFailed : Nat := 0x06
/-- OVERLOAD. -/ abbrev stOverload : Nat := 0x10
/-- BUDGET_EXHAUSTED. -/ abbrev stBudget : Nat := 0x11
/-- NO_TILE_PLAN. -/ abbrev stNoPlan : Nat := 0x12
/-- TILE_RECORD_BAD. -/ abbrev stRecordBad : Nat := 0x13
/-- REQ_BAD. -/ abbrev stReqBad : Nat := 0x14
/-- DUPLICATE_ID. -/ abbrev stDuplicate : Nat := 0x15
/-- MODEL_UNKNOWN. -/ abbrev stModelUnknown : Nat := 0x16

/-- No deadline (R268). -/
abbrev noDeadline : Nat := 0xFFFFFFFF

namespace State

/-! The model catalog (Table 13.3), the tenant table (Table 10.5) and the patch table (Table 11.7). -/

/-- The model is in the catalog. -/
def modelValid (s : State) (m : Nat) : Bool := bit (s.entNow 4 m 0 1) 0
/-- The model's enabled bit is set in force and committed: clearing it disables the model at the commit (R328, log entry 113). -/
def modelEnabled (s : State) (m : Nat) : Bool := bit (s.entNow 4 m 0 1) 1 && bit (s.ent 4 m 0 1) 1
/-- The model is pinned. -/
def modelPinned (s : State) (m : Nat) : Bool := bit (s.entNow 4 m 0 1) 2
/-- The model may be served by the partition, in force and committed. -/
def modelServed (s : State) (m p : Nat) : Bool := bit (s.entNow 4 m 4 4) p && bit (s.ent 4 m 4 4) p
/-- prefill_chunk. -/
def prefillChunk (s : State) (m : Nat) : Nat := s.entNow 4 m 0x24 2
/-- page_bytes. -/
def pageBytes (s : State) (m : Nat) : Nat := s.entNow 4 m 0x26 2 * 4096
/-- tpl_x16 of a model (R279). -/
def tplX16 (s : State) (m : Nat) : Nat := Tab.get 16 s.serving.tpl m
/-- pass_legs_x16 of a model (R279). -/
def passLegsX16 (s : State) (m : Nat) : Nat := Tab.get 16 s.serving.passLegs m

/-- A tenant's entry: bytes 0 to 5. An entry never written acts as the configuration record's defaults, which the
store keeps in SERVING's own copy at index 4,096 (R274, R439). -/
def tenantEntry (s : State) (t : Nat) : Nat := if s.entryNow 2 t = 0 then s.entry 2 4096 else s.entryNow 2 t
/-- budget of a tenant. -/
def tenantBudget (s : State) (t : Nat) : Nat := bits (s.tenantEntry t) 31 0
/-- enabled of a tenant, in force and committed: clearing it disables the tenant at the commit (R274, log entry 113). -/
def tenantEnabled (s : State) (t : Nat) : Bool :=
  bit (s.tenantEntry t) 32 && bit (if s.entry 2 t = 0 then s.entry 2 4096 else s.entry 2 t) 32
/-- spill of a tenant. -/
def tenantSpill (s : State) (t : Nat) : Bool := bit (s.tenantEntry t) 33
/-- used of a tenant. -/
def tenantUsed (s : State) (t : Nat) : Nat := Tab.get 0 s.serving.used t
/-- A tenant is over budget (R275). -/
def overBudget (s : State) (t : Nat) : Bool :=
  s.tenantBudget t != 0xFFFFFFFF && decide (s.tenantBudget t ≤ s.tenantUsed t)
/-- Quantum of a tenant (R276). -/
def quantum (s : State) (t : Nat) : Nat :=
  if s.tenantBudget t = 0xFFFFFFFF then s.fld Reg.SERVING_SCHED 23 8 else max 16 (ceilDiv (s.tenantBudget t) 1000)

/-- The patch is registered (R301). -/
def patchValid (s : State) (n : Nat) : Bool := bit (s.ent 3 n 0 1) 0
/-- The patch is enabled. -/
def patchEnabled (s : State) (n : Nat) : Bool := bit (s.ent 3 n 0 1) 1
/-- The patch is registered for the model and the tenant (Table 10.3, test 3). -/
def patchFor (s : State) (n model tenant : Nat) : Bool :=
  s.patchValid n && s.ent 3 n 2 2 % 1024 == model && (bit (s.ent 3 n 0 1) 2 || s.ent 3 n 4 2 % 4096 == tenant)

/-! Requests and slots. -/

/-- The live request with an ID. -/
def req? (s : State) (id : Nat) : Option Req := s.serving.reqs.find? (fun r => decide (r.id = id))
/-- Changes a live request. -/
def updReq (s : State) (id : Nat) (f : Req → Req) : State :=
  { s with serving := { s.serving with reqs := s.serving.reqs.map (fun r => if r.id = id then f r else r) } }
/-- A sequence slot that is not free. -/
def slot? (s : State) (n : Nat) : Option Slot := Tab.find? s.serving.slots n
/-- Changes a slot that is not free. -/
def updSlot (s : State) (n : Nat) (f : Slot → Slot) : State :=
  match s.slot? n with
  | none => s
  | some x => { s with serving := { s.serving with slots := Tab.set s.serving.slots n (f x) } }
/-- Slots held by a partition. -/
def slotsHeld (s : State) (p : Nat) : Nat := (s.serving.slots.filter (fun x => decide (x.2.part = p))).length
/-- Entries of the admission queue, oldest first. -/
def queue (s : State) : List Req := s.serving.reqs.filter (·.queued)
/-- Entries of the queue of one partition. -/
def queuedOf (s : State) (p : Nat) : List Req := s.queue.filter (fun r => decide (r.part = p))

/-- A request's position: its slot's, or the end of its matched blocks before it has one (R267, R291). -/
def position (s : State) (r : Req) : Nat :=
  match r.slot with
  | some n => ((s.slot? n).getD {}).position
  | none => 16 * r.matched.length
/-- Tokens delivered so far. -/
def generatedOf (s : State) (r : Req) : Nat :=
  match r.slot with
  | some n => ((s.slot? n).getD {}).generated
  | none => 0
/-- est_rows (R269). -/
def estRows (s : State) (r : Req) : Nat := r.promptLen - s.position r + (if r.generate then r.maxNew else 0)
/-- SERVING_PART_QROWSp: est_rows of the partition's entries not yet started. -/
def qrows (s : State) (p : Nat) : Nat := ((s.queuedOf p).map s.estRows).sum

/-- run(r) of R269, from the request's present figures. -/
def runLegs (s : State) (r : Req) : Nat :=
  if !r.generate then max 1 (ceilDiv (s.passLegsX16 r.model) 16)
  else
    let pre := ceilDiv (r.promptLen - s.position r) (max 1 (s.prefillChunk r.model))
    max 1 pre + ceilDiv ((r.maxNew - s.generatedOf r - 1) * 16) (max 1 (s.tplX16 r.model))

/-- Legs that `q` rows wait in a partition (R269): the division is exact before the rounding. -/
def waitFor (s : State) (p q : Nat) : Nat :=
  ceilDiv (q * 16) (max 1 (max (16 * s.fld (Reg.SERVING_PART_QCFG p) 31 16) (s.rd (Reg.SERVING_PART_RATE p))))
/-- wait(p) (R269). -/
def waitLegs (s : State) (p : Nat) : Nat := s.waitFor p (s.qrows p)
/-- est_rows of the partition's entries that stand before a request: what a request already in the queue waits for
(R273; the worked example of Table 10.4 counts the entries ahead). -/
def rowsAhead (s : State) (r : Req) : Nat :=
  (((s.queuedOf r.part).takeWhile (fun x => decide (x.id ≠ r.id))).map s.estRows).sum
/-- The predecessor's run, which a dependent's projection adds to its wait (R272). -/
def predRun (s : State) (r : Req) : Nat :=
  if r.predId = 0 ∨ r.predDone then 0
  else match s.req? r.predId with | some p => s.runLegs p | none => 0


/-! Disabling (R57 to R59). -/

/-- A function is disabled by a message that no ENABLE has lifted. -/
def offBy (s : State) (f : Fn) : Bool := s.serving.disabled.contains f

/-- Every function a request of these figures uses is enabled (Table 10.3, test 4). -/
def usable (s : State) (p m t : Nat) (patchOn : Bool) (patch : Nat) : Bool :=
  s.partValid p && s.partEnabled p && s.modelEnabled m && s.modelServed m p && s.tenantEnabled t &&
    (!patchOn || (s.patchValid patch && s.patchEnabled patch && !s.offBy (.patch patch))) &&
    !s.offBy (.partition p) && !s.offBy (.model m) && !s.offBy (.modelIn p m) && !s.offBy (.tenant t)

/-- A live request uses only enabled functions. -/
def reqUsable (s : State) (r : Req) : Bool := s.usable r.part r.model r.tenant r.patchValid r.patch

/-- A request has work in a function (R58). -/
def Fn_hits (f : Fn) (r : Req) : Bool :=
  match f with
  | .partition p => r.part == p
  | .model m => r.model == m
  | .modelIn p m => r.part == p && r.model == m
  | .tenant t => r.tenant == t
  | .patch n => r.patchValid && r.patch == n
  | .expert _ _ _ => false
  | .port _ => false

/-! Ending a request. -/

/-- The FINAL of a request (Table 15.10). -/
def finalMsg (s : State) (r : Req) (status cls cause : Nat) : State :=
  let (gen, pos, ob) : Nat × Nat × Nat := match r.slot with
    | some n => let x := (s.slot? n).getD {}; (x.generated, x.position, min x.outBytes r.outputLen)
    | none => (0, 16 * r.matched.length, 0)
  let n := min ob 1984
  let inline_ := (s.readAlloc r.outHandle (16 * r.outOff) n).getD []
  s.sendHost r.part 0x8011
    (leBytes 8 r.id ++ leBytes 1 status ++ leBytes 1 cls ++ leBytes 2 cause ++ leBytes 4 0 ++ leBytes 2 gen ++ leBytes 2 pos ++
      leBytes 4 s.legCount ++ leBytes 4 ob ++ leBytes 2 inline_.length ++ leBytes 2 0 ++ inline_)

/-- The FINAL that answers a refused REQUEST: status and retry hint (R263, R403); the header carries the refusal of a
malformed message. -/
def refuseMsg (s : State) (p id status hint header : Nat) : State :=
  s.place p (s.message 0x8011 p header
    (leBytes 8 id ++ leBytes 1 status ++ leBytes 1 0 ++ leBytes 2 0 ++ leBytes 4 (min hint 0xFFFFFFFF) ++ leBytes 2 0 ++ leBytes 2 0 ++
      leBytes 4 s.legCount ++ leBytes 4 0 ++ leBytes 2 0))

/-- A prefix record by index kind (0 tree, 1 block-hash table) and number. -/
def node_ (s : State) (kind i : Nat) : PrefixNode :=
  (Tab.find? (if kind = 0 then s.serving.tree else s.serving.hashTable) i).getD {}
/-- Writes a prefix record. -/
def setNode (s : State) (kind i : Nat) (x : PrefixNode) : State :=
  if kind = 0 then { s with serving := { s.serving with tree := Tab.set s.serving.tree i x } }
  else { s with serving := { s.serving with hashTable := Tab.set s.serving.hashTable i x } }

/-- A record a request matched still stands: it names the same page (R288). -/
def matchStands (s : State) (m : Nat × Nat × Nat × Nat) : Bool :=
  let x := s.node_ m.1 m.2.1
  x.valid && x.pageHandle == m.2.2.1 && x.pageIndex == m.2.2.2

/-- Gives back the references a request's match holds (R288, R291). -/
def dropRefs (s : State) (r : Req) : State :=
  r.matched.foldl (fun s m =>
    if s.matchStands m then
      let x := s.node_ m.1 m.2.1
      s.setNode m.1 m.2.1 { x with refs := x.refs - 1 }
    else s) s

/-- A general seam holds a sequence slot (R243, Table 9.3). -/
def slotHeld (s : State) (n : Nat) : Bool :=
  s.seams.recs.any (fun x => (x.2.state == 3 || x.2.state == 4) && x.2.submitter != 8 && x.2.actions.any (fun a =>
    let w := Act.of a
    decide (7 ≤ w.kind) && decide (w.kind ≤ 10) && w.slot == n))

/-- The ledger entry of a slot, if one stands, is unpicked (R256). -/
def dropLedger (s : State) (n : Nat) : State :=
  if (Tab.find? s.serving.ledger n).isNone then s
  else ({ s with serving := { s.serving with ledger := Tab.erase s.serving.ledger n } } : State).bump Reg.SEAM_UNPICKED

/-- Takes a slot out of the batches of the work list. An item left with no sequence leaves the list; a core that runs it takes
another at its next tile boundary (R50, R273). -/
def leaveItems (s : State) (n : Nat) : State :=
  let its := s.serving.items.map (fun i => { i with seqs := i.seqs.filter (fun x => decide (x ≠ n)) })
  { s with serving := { s.serving with items := its.filter (fun i => i.standing || !i.seqs.isEmpty) } }

end State

/-- SHA-256 chain hash of a block (R289). -/
def chainHash (before : BitVec 128) (part model patch version : Nat) (tokens : List Byte) : BitVec 128 :=
  BitVec.ofNat 128 (leNat ((sha256 (leBytes 16 before.toNat ++ leBytes 1 part ++ leBytes 2 model ++ leBytes 2 patch ++
    leBytes 4 version ++ tokens)).take 16))

/-- Chain hashes of the whole blocks of a token string, the first block first. -/
def chainOf (part model patch version : Nat) : BitVec 128 → Nat → List Byte → List (BitVec 128)
  | _, 0, _ => []
  | c, n + 1, t =>
    let c' := chainHash c part model patch version (sliceBytes t 0 64)
    c' :: chainOf part model patch version c' n (t.drop 64)

namespace State

/-- Fill rows standing of a slot: positions, from its KV list (R299). -/
def fillRows (s : State) (x : Slot) : List (Nat × Nat) :=
  let h := bits x.kvHead.toNat 63 44
  let o := bits x.kvHead.toNat 43 12 * 65536
  (List.range (bits x.exit.toNat 3 0)).map (fun i =>
    let v := s.peekNat h (o + 0x30 + 4 * i) 4
    (bits v 15 0, bits v 17 16))

/-- Bytes of token `q` of a sequence: from the input range below prompt_len, from the output range from there on; none
where it cannot be read (R292). -/
def tokenBytes (s : State) (r : Req) (q : Nat) : Option (List Byte) :=
  if q < r.promptLen then
    if r.inputLen < 4 * q + 4 then none else s.readAlloc r.inHandle (16 * r.inOff + 4 * q) 4
  else
    let k := q - r.promptLen
    if r.outputLen < 4 * k + 4 then none else s.readAlloc r.outHandle (16 * r.outOff + 4 * k) 4

/-- The 64 token bytes of a block, if all 16 can be read. -/
def blockTokens (s : State) (r : Req) (k : Nat) : Option (List Byte) :=
  (List.range 16).foldl (fun acc i =>
    match acc, s.tokenBytes r (16 * k + i) with
    | some l, some t => some (l ++ t)
    | _, _ => none) (some [])

/-- Offers a retiring sequence's own pages for the prefix index (R292): publishes its KV space, or frees it. -/
def offerPages (s : State) (r : Req) (x : Slot) (status : Nat) : State :=
  if x.kvSpace = 0 then s
  else
    let p := r.part
    let offered := bit (s.rd (Reg.SERVING_PREFIX_PART p)) 2 && (status == stDone || status == stCancelled || status == stMissed)
    let m := r.matched.length
    let fills := s.fillRows x
    let f0 := x.position / 16
    let f1 := ((List.range f0).find? (fun k => fills.any (fun w => decide (w.1 / 16 = k)))).getD f0
    let f := ((List.range f1).find? (fun k => (s.blockTokens r k).isNone)).getD f1
    if !offered || decide (f ≤ m) then s.requestFree x.kvSpace
    else
      let tokens := (List.range f).flatMap (fun k => (s.blockTokens r k).getD [])
      let patch := if r.patchValid then r.patch else 0xFFFF
      let version := if r.patchValid then r.patchVersion else 0
      let chain := chainOf p r.model patch version 0 f tokens
      let object := (s.node * 2 ^ 20 + s.serving.prefixCount % 2 ^ 20) % 2 ^ 32
      let pend : PrefixPending :=
        { handle := x.kvSpace, object, part := p, model := r.model, patch, firstBlock := m
          blocks := (chain.drop m).zip (List.range (f - m))
          before := if m = 0 then none else chain[m - 1]? }
      let s := { s with serving := { s.serving with
        prefixCount := s.serving.prefixCount + 1, prefixPending := s.serving.prefixPending ++ [pend] } }
      s.updAlloc x.kvSpace (fun a => { a with publishing := some { object, version := 1, digest := 0, host := none } })

/-- Frees the prefix objects that no record names and whose pages no live page list names (R292). -/
def freeOrphans (s : State) : State :=
  let named (h : Nat) : Bool :=
    (Tab.vals s.serving.tree).any (fun x => x.valid && x.pageHandle == h) ||
    (Tab.vals s.serving.hashTable).any (fun x => x.valid && x.pageHandle == h) ||
    s.serving.reqs.any (fun r => r.matched.any (fun m => m.2.2.1 == h)) ||
    s.serving.prefixPending.any (fun p => p.handle == h)
  (s.tier.allocs.filter (fun x => x.2.internal && x.2.published.isSome && x.2.homeNode.isNone && !named x.1)).foldl (fun s x => s.requestFree x.1) s

/-- Ends a live request: its final message, but where the seam that ends it carries one of its own (R251), its slot, pages, references, queue
entry and items, and what its end means for its dependents (R263, R272, R288). Its open seams are unpicked by the caller. -/
def retire (s : State) (r : Req) (status cls cause : Nat) (silent : Bool := false) : State :=
  let s := if silent then s else s.finalMsg r status cls cause
  let s := match r.slot with
    | none => s.dropRefs r
    | some n =>
      let x := (s.slot? n).getD {}
      let s := (s.offerPages r x status).dropRefs r
      let s := s.leaveItems n
      { s with serving := { s.serving with
          slots := Tab.erase s.serving.slots n
          ledger := Tab.erase s.serving.ledger n } }
  let s := { s with serving := { s.serving with
    reqs := s.serving.reqs.filter (fun x => decide (x.id ≠ r.id))
    depEnds := if s.serving.reqs.any (fun x => decide (x.predId = r.id))
      then s.serving.depEnds ++ [(r.id, status == stDone)] else s.serving.depEnds } }
  let s := if r.matched.isEmpty then s else s.freeOrphans
  if status = stMissed then (s.bump Reg.SERVING_MISSED).bump (Reg.SERVING_PART_MISSED r.part) else s

/-- Ends a live request by a seam keyed by RETIRE_SEQ: its other open seams are unpicked, and its ledger entry with them.
Nothing happens for a request already ended (R256, R273, R280). Where another seam holds the slot, the seam waits in a record for it (R243);
without a free record the end is brought about again at the next step 3 (log entry 44). -/
def endRequest (s : State) (id status cls cause unpickCode : Nat) : State :=
  match s.req? id with
  | none => s.bump Reg.SEAM_ALREADY
  | some r =>
    let s := match r.slot with
      | none => s
      | some n => (s.unpickOwned n id unpickCode).dropLedger n
    let again : Ending := { reqId := id, status := status, cls := cls, cause := cause, code := unpickCode }
    match r.slot.filter s.slotHeld, s.freeRecord with
    | some n, some k => s.openRecord k
        { reqId := id, reason := some (cls, cause), results := [0]
          actions := [(BitVec.ofNat 64 (7 * 2 ^ 60 + n * 2 ^ 43 + status * 2 ^ 35), BitVec.ofNat 64 id)] }
    | _, _ =>
      let (t, ok) := s.ownSeam
      if ok then t.retire r status cls cause else t.keepEnding again

end State

end Sys2Proof.Machine
end

