-- ==== Sys2Proof/Machine/Admission.lean ====
section
/-!
DEFINITION. Admission (R267 to R272), prefix matching (R289 to R291) and the assignment of a sequence slot (R284 to R286).
-/
namespace Sys2Proof.Machine

/-- Districts of a rectangle of w × h districts at an origin, row by row; those off the grid are left out (R153). -/
def rectDistricts (origin w h : Nat) : List Nat :=
  (List.range h).flatMap (fun j => (List.range w).filterMap (fun i =>
    if origin % 8 + i < 8 ∧ origin / 8 + j < 8 then some (origin + 8 * j + i) else none))

/-- Core of image core `i` of a rectangle (R153). -/
def imageCore (origin w i : Nat) : Nat :=
  (origin / 8 * 4 + i / (4 * w)) * 32 + origin % 8 * 4 + i % (4 * w)

/-- Cores of a rectangle, in image order. -/
def rectCores (origin w h : Nat) : List Nat := (List.range (16 * w * h)).map (imageCore origin w)

/-- A REQUEST's body (Table 15.9), or the serving block's own fallback request. -/
structure ReqBody where
  id : Nat := 0
  flags : Nat := 0
  widthMax : Nat := 0
  exitEnable : Nat := 0
  tenant : Nat := 0
  model : Nat := 0
  patch : Nat := 0
  promptLen : Nat := 0
  maxNew : Nat := 0
  deadlineUs : Nat := 0
  inputLen : Nat := 0
  input : Nat := 0
  output : Nat := 0
  outputLen : Nat := 0
  predId : Nat := 0
deriving DecidableEq, Repr, Inhabited

/-- The body of a REQUEST message's bytes. -/
def ReqBody.ofBytes (b : List Byte) : ReqBody :=
  { id := fieldAt b 0x10 8, flags := fieldAt b 0x18 1, widthMax := fieldAt b 0x19 1, exitEnable := bits (fieldAt b 0x1A 1) 3 0
    tenant := bits (fieldAt b 0x1C 2) 11 0, model := bits (fieldAt b 0x1E 2) 9 0, patch := fieldAt b 0x20 2
    promptLen := fieldAt b 0x22 2, maxNew := fieldAt b 0x24 2, deadlineUs := fieldAt b 0x28 4, inputLen := fieldAt b 0x2C 4
    input := fieldAt b 0x30 8, output := fieldAt b 0x38 8, outputLen := fieldAt b 0x40 4, predId := fieldAt b 0x48 8 }

namespace State

/-! Resident contexts (Table 13.9). -/

/-- State of context `c`: 0 free, 1 forming, 2 ready, 3 demoting, 4 evicting (Table 13.4). -/
def ctxState (s : State) (c : Nat) : Nat := s.fld (Reg.SERVING_CTX c) 31 28
/-- Sets the state of a context. -/
def setCtxState (s : State) (c v : Nat) : State := s.setFld (Reg.SERVING_CTX c) 31 28 v
/-- Partition of a context. -/
def ctxPart (s : State) (c : Nat) : Nat := s.fld (Reg.SERVING_CTX c) 27 23
/-- Pattern slot of a context. -/
def ctxSlot (s : State) (c : Nat) : Nat := s.fld (Reg.SERVING_CTX c) 22 21
/-- Origin district of a context. -/
def ctxOrigin (s : State) (c : Nat) : Nat := s.fld (Reg.SERVING_CTX c) 20 15
/-- The context is an expert context. -/
def ctxExpert (s : State) (c : Nat) : Bool := s.fld (Reg.SERVING_CTX c) 14 14 == 1
/-- Model of a context. -/
def ctxModel (s : State) (c : Nat) : Nat := s.fld (Reg.SERVING_CTX c) 9 0
/-- A context's own record. -/
def ctx (s : State) (c : Nat) : Ctx := (Tab.find? s.serving.ctxs c).getD {}
/-- Changes a context's own record. -/
def updCtx (s : State) (c : Nat) (f : Ctx → Ctx) : State :=
  { s with serving := { s.serving with ctxs := Tab.set s.serving.ctxs c (f (s.ctx c)) } }
/-- Districts of a context's rectangle. -/
def ctxDistricts (s : State) (c : Nat) : List Nat := rectDistricts (s.ctxOrigin c) (s.ctx c).w (s.ctx c).h
/-- The serving context of a model in a partition, not free. -/
def findCtx (s : State) (p m : Nat) : Option Nat :=
  firstFrom (fun c => s.ctxState c != 0 && s.ctxPart c == p && s.ctxModel c == m && !s.ctxExpert c) 0 64
/-- That context, if it is ready. -/
def readyCtx (s : State) (p m : Nat) : Option Nat :=
  match s.findCtx p m with
  | some c => if s.ctxState c = 2 then some c else none
  | none => none

/-! Prefix matching. -/

/-- Prefix mode of a partition: 0 off, 1 radix tree, 2 block-hash table. -/
def prefixMode (s : State) (p : Nat) : Nat := s.fld (Reg.SERVING_PREFIX_PART p) 1 0

/-- First record of the group of a chain hash (R290). -/
def groupOf (s : State) (kind : Nat) (c : BitVec 128) : Nat :=
  (c.toNat % 2 ^ 32) % (if kind = 0 then 2 ^ s.serving.treeLog2 else 16384) / 8 * 8

/-- The record of a chain hash, if a valid one of the partition holds it (R289, R290). -/
def lookup (s : State) (kind part : Nat) (c : BitVec 128) : Option Nat :=
  (List.range' (s.groupOf kind c) 8).find? (fun i =>
    let x := s.node_ kind i
    x.valid && x.chain == c && x.part == part)

/-- The radix tree's search (R291): the largest count found, within `fuel` lookups. -/
def searchTree (s : State) (part : Nat) (chain : List (BitVec 128)) : Nat → Nat → Nat → Nat
  | 0, lo, _ => lo
  | fuel + 1, lo, hi =>
    if hi ≤ lo then lo
    else
      let mid := (lo + hi + 1) / 2
      if (s.lookup 0 part (chain.getD (mid - 1) 0)).isSome then searchTree s part chain fuel mid hi
      else searchTree s part chain fuel lo (mid - 1)

/-- The block-hash table's search (R291), within `fuel` lookups. -/
def searchHash (s : State) (part : Nat) : List (BitVec 128) → Nat → Nat
  | _, 0 => 0
  | [], _ => 0
  | c :: cs, fuel + 1 => if (s.lookup 1 part c).isSome then 1 + searchHash s part cs fuel else 0

/-- Matches an admitted generate request (R291). `cut` is the number of lookups made when the step 5 bound ended the match;
none where it ran to its end. -/
def matchPrefix (s : State) (id : Nat) (cut : Option Nat) : State :=
  match s.req? id with
  | none => s
  | some r =>
    let mode := s.prefixMode r.part
    if !r.generate || (mode != 1 && mode != 2) then s
    else
      let b := min ((r.promptLen - 1) / 16) (r.inputLen / 64)
      let tokens := s.peek r.inHandle (16 * r.inOff) (64 * b)
      let patch := if r.patchValid then r.patch else 0xFFFF
      let chain := chainOf r.part r.model patch r.patchVersion 0 b tokens
      let fuel := cut.getD (b + 1)
      let m := if mode = 1 then s.searchTree r.part chain fuel 0 b else s.searchHash r.part chain fuel
      let kind := mode - 1
      let found := (chain.take m).map (fun c =>
        let i := (s.lookup kind r.part c).getD 0
        let x := s.node_ kind i
        (kind, i, x.pageHandle, x.pageIndex))
      let s := found.foldl (fun s f =>
        let x := s.node_ f.1 f.2.1
        s.setNode f.1 f.2.1 { x with refs := x.refs + 1, lastUse := s.legCount % 2 ^ 32 }) s
      let s := s.updReq id (fun r => { r with matched := found })
      let s := (s.bump Reg.SERVING_PREFIX_LOOKUPS).bump Reg.SERVING_PREFIX_HITS m
      if cut.isSome then s.bump Reg.SERVING_PREFIX_CUT else s

/-! Slots. -/

/-- Own pages of a sequence: P of R284. -/
def ownPages (r : Req) : Nat := ceilDiv (r.promptLen + r.maxNew) 16 - r.matched.length

/-- Granules of a sequence's KV space (R284). -/
def kvGranules (s : State) (r : Req) : Nat :=
  ceilDiv ((ownPages r + (if r.widthMax = 0 then 0 else 4)) * s.pageBytes r.model) 65536

/-- The list pool of a partition as its slot quota now asks: larger where the room for it is there, and smaller down to the last list in
use (R284). -/
def sizePool (s : State) (p h : Nat) : State :=
  match s.alloc? h with
  | none => s
  | some a =>
    let quota := s.fld (Reg.SERVING_PART_CFG p) 13 0
    let used := s.serving.slots.foldl (fun m x => if bits x.2.kvHead.toNat 63 44 = h then max m (bits x.2.kvHead.toNat 43 12 + 1) else m) 0
    if a.granules < quota then
      if s.grantStatus p a.flags (quota - a.granules) = 0 then s.updAlloc h (fun a => { a with granules := quota }) else s
    else s.updAlloc h (fun a => { a with
      granules := max quota used, dir := a.dir.filter (fun x => decide (x.1 < max quota used)) })

/-- The partition's list pool, made when the first list of it is wanted: one granule per slot of the quota (R284). -/
def withPool (s : State) (p : Nat) : State × Nat :=
  match Tab.find? s.serving.pools p with
  | some h => (s.sizePool p h, h)
  | none =>
    let (s', h, st) := s.allocate { part := p, flags := 0x06, granules := s.fld (Reg.SERVING_PART_CFG p) 13 0, internal := true }
    if st ≠ 0 then (s, 0) else ({ s' with serving := { s'.serving with pools := Tab.set s'.serving.pools p h } }, h)

/-- A granule of a pool that no live slot's kv_head names; which one is not fixed, so a free value picks. -/
def poolGranule (s : State) (h : Nat) : Option Nat :=
  match s.alloc? h with
  | none => none
  | some a =>
    let used := s.serving.slots.filterMap (fun x =>
      if bits x.2.kvHead.toNat 63 44 = h then some (bits x.2.kvHead.toNat 43 12) else none)
    let ok := (List.range a.granules).filter (fun g => !used.contains g)
    if ok.isEmpty then none else ok[s.draw.toNat % ok.length]?

/-- The KV list of a sequence at its slot's assignment: header, patch, exits and page list (Table 11.1, R286, R298, R302). -/
def writeList (s : State) (h g n : Nat) (r : Req) (space : Nat) : State :=
  let o := g * 65536
  let own := ownPages r
  let thresh := s.entNow 4 r.model 0x28 8
  let mask := s.entNow 4 r.model 0x23 1 &&& r.exitEnable
  let s := s.updAlloc h (fun a => { a with data := a.data.zero o 65536 })
  let w := min r.widthMax 64
  let s := s.writeAlloc h o
    (leBytes 4 0x54534C4B ++ leBytes 2 n ++ leBytes 2 r.matched.length ++ leBytes 8 r.id ++ leBytes 2 (16 * r.matched.length) ++
     leBytes 2 (if r.widthMax = 0 then 0xFFFF else own) ++ leBytes 1 0 ++ leBytes 1 w ++ leBytes 1 (min 8 w) ++ leBytes 1 0 ++
     leBytes 8 (if r.patchValid then r.patchHandle * 2 ^ 44 + r.patchVersion else 0) ++ leBytes 8 thresh ++ leBytes 1 mask)
  let shared := r.matched.flatMap (fun m => leBytes 8 (m.2.2.1 * 2 ^ 44 + m.2.2.2 * 2 ^ 12 + 2))
  let mine := (List.range own).flatMap (fun j => leBytes 8 (space * 2 ^ 44 + j * 2 ^ 12 + 3))
  s.writeAlloc h (o + 0x100) (shared ++ mine)

/-- Lowest free slot of the sequence table that no seam holds. -/
def freeSlot (s : State) : Option Nat := firstFrom (fun n => (s.slot? n).isNone && !s.slotHeld n) 0 8192

/-- A press of the context's slot is open in a district of its rectangle, from the opening of its seam to the end of its load (R158,
R159, R265). -/
def pressOpen (s : State) (c : Nat) : Bool :=
  let size (image at_ : Nat) : Nat := bits (s.peekNat image 0x16 1) (at_ + 2) at_ + 1
  let here (part slot origin image : Nat) : Bool :=
    slot == s.ctxSlot c && part == s.ctxPart c && (rectDistricts origin (size image 0) (size image 4)).any (s.ctxDistricts c).contains
  s.seams.presses.any (fun w => here w.part w.slot w.origin w.image) ||
    s.seams.recs.any (fun x => decide (x.2.state ≤ 3) && (seamPresses x.2).any (fun w => here w.part w.slot w.origin w.handle))

/-- Assigns a slot to a waiting request where its partition has one free within its quota and the KV space fits
(R267, R284): the slot's image is that of Table 10.2. It is a seam of one ADMIT_SEQ; without a free record nothing is assigned yet. -/
def assignSlot (s : State) (id : Nat) : State :=
  match s.req? id, s.freeSlot with
  | some r, some n =>
    if r.slot.isSome ∨ s.fld (Reg.SERVING_PART_CFG r.part) 13 0 ≤ s.slotsHeld r.part then s
    else
      let base : Slot :=
        { reqId := id, state := if r.predId ≠ 0 ∧ !r.predDone then 1 else if (match s.readyCtx r.part r.model with | some c => !s.pressOpen c | none => false) then 2 else 3
          flags := b2n r.generate + r.priority * 2 + b2n r.hard * 8 + b2n r.patchValid * 16
          tenant := r.tenant, model := r.model, part := r.part, patch := r.patch, position := 16 * r.matched.length
          promptLen := r.promptLen, maxNew := r.maxNew, deadlineLeg := r.deadlineLeg, admittedLeg := r.admittedLeg
          spec := BitVec.ofNat 64 (r.widthMax * 256 + r.widthMax + 31 * 2 ^ 28)
          predId := r.predId, input := BitVec.ofNat 64 (r.inHandle * 2 ^ 44 + r.inOff * 2 ^ 12), inputLen := r.inputLen
          outputLen := r.outputLen, output := BitVec.ofNat 64 (r.outHandle * 2 ^ 44 + r.outOff * 2 ^ 12)
          context := (s.readyCtx r.part r.model).getD 0
          estRows := r.promptLen - 16 * r.matched.length + (if r.generate then r.maxNew else 0) }
      let put (s : State) (x : Slot) : State :=
        ({ s with serving := { s.serving with slots := Tab.set s.serving.slots n x } } : State).updReq id (fun r => { r with slot := some n })
      let (s0, ok) := s.ownSeam
      if ok = false then s0
      else if !r.generate then put s0 { base with spec := 0 }
      else
        let (s1, pool) := s0.withPool r.part
        match s1.poolGranule pool with
        | none => s
        | some g =>
          let (s2, space, st) := s1.drawn.allocate
            { part := r.part, flags := 0x26, granules := s.kvGranules r, owner := some (n, id), internal := true }
          if st ≠ 0 then s
          else
            let s3 := put s2 { base with kvHead := BitVec.ofNat 64 (pool * 2 ^ 44 + g * 2 ^ 12), kvSpace := space }
            s3.writeList pool g n r space
  | _, _ => s

/-! Admission tests (Table 10.3). -/

/-- A byte range lies within an allocation of the partition. -/
def rangeOf (s : State) (p handleOff len : Nat) : Bool :=
  match s.alloc? (bits handleOff 63 44) with
  | none => false
  | some a => a.part == p && decide (bits handleOff 43 12 * 16 + len ≤ a.size)

/-- Length of the chain of predecessors a request named `id` would end, itself counted (R272). -/
def chainLength (s : State) : Nat → Nat → Nat
  | 0, _ => 0
  | fuel + 1, id => if id = 0 then 0 else
    match s.req? id with
    | none => 0
    | some r => 1 + chainLength s fuel r.predId

/-- The largest governing length the request's items can reach in a section (R172, R185; log entry 17). -/
def maxLength (s : State) (b : ReqBody) (gov : Nat) : Nat :=
  if gov = 2 then 1
  else if gov = 1 then min 65536 (b.promptLen + b.maxNew)
  else if bit b.flags 0 then
    max (min b.promptLen (s.prefillChunk b.model)) (if b.maxNew = 0 then 0 else 1 + b.widthMax + (if b.exitEnable = 0 then 0 else 9))
  else b.promptLen

/-- The fallback pattern is serving, for partition `p` (R457). -/
def fallbackServing (s : State) (p : Nat) : Bool :=
  match s.power.fallbackCtx with
  | some c => s.ctxState c == 2 && s.ctxPart c == p
  | none => false

/-- Before P4 a request must be one the fallback pattern takes: single pass, no patch, no predecessor, both ranges in the
I/O area (R459). -/
def fallbackBad (s : State) (b : ReqBody) : Bool :=
  decide (s.phase < 4) && (bit b.flags 0 || bit b.flags 4 || b.predId != 0 ||
    bits b.input 63 44 != s.power.fallbackArea || bits b.output 63 44 != s.power.fallbackArea)

/-- The status of the first test of Table 10.3 that a request fails, with its retry hint; 0 if it passes all (R267 to R269). -/
def admissionTest (s : State) (p : Nat) (b : ReqBody) : Nat × Nat :=
  let gen := bit b.flags 0
  let patchOn := bit b.flags 4
  let now := s.legCount
  let pred := if b.predId = 0 then none else s.req? b.predId
  if s.fallbackBad b then (stReqBad, 0)
  else if b.id = 0 ∨ b.promptLen = 0 ∨ 65536 < b.promptLen + b.maxNew ∨ (gen = true ∧ b.outputLen < 4 * b.maxNew) ∨
      (gen = false ∧ b.maxNew ≠ 0) ∨ s.rangeOf p b.input b.inputLen = false ∨ s.rangeOf p b.output b.outputLen = false ∨
      (pred.isSome ∧ (8 ≤ (s.serving.reqs.filter (fun r => decide (r.predId = b.predId))).length ∨ 4 ≤ s.chainLength 8 b.predId)) then
    (stReqBad, 0)
  else if (s.req? b.id).isSome then (stDuplicate, 0)
  else if !s.modelValid b.model || !s.modelServed b.model p || (gen && s.pageBytes b.model == 0) ||
      (patchOn && !s.patchFor b.patch b.model b.tenant) then (stModelUnknown, 0)
  else if !s.usable p b.model b.tenant patchOn b.patch then (stDisabled, 0)
  else if b.predId ≠ 0 ∧ pred = none then (stDepFailed, 0)
  else if (match s.readyCtx p b.model with
      | none => false
      | some c =>
        let x := s.ctx c
        (List.range x.sections).any (fun i =>
          !s.planServes (x.images.getD i 0) (x.plans.getD i 0) (s.maxLength b (s.govOf (x.images.getD i 0))))) then (stNoPlan, 0)
  else if s.overBudget b.tenant && !s.tenantSpill b.tenant then (stBudget, s.period * (1000 - now % 1000))
  else if s.fld Reg.POWER_STATUS 22 20 ≤ bits b.flags 2 1 then (stOverload, 10 * s.period)
  else if 16384 ≤ s.queue.length ∨ s.fld (Reg.SERVING_PART_QCFG p) 14 0 ≤ (s.queuedOf p).length then
    (stOverload, s.period * max 1 (s.waitLegs p))
  else if b.deadlineUs = 0 then (0, 0)
  else
    let dl := now + b.deadlineUs / s.period
    let r : Req :=
      { generate := gen, model := b.model, promptLen := b.promptLen, maxNew := b.maxNew, predId := b.predId, part := p }
    let fin := now + 1 + s.waitLegs p + s.predRun r + s.runLegs r
    if dl < fin then (stOverload, s.period * (fin - dl)) else (0, 0)

/-- The request an admitted body becomes. -/
def newReq (s : State) (p : Nat) (b : ReqBody) : Req :=
  let patchOn := bit b.flags 4
  { id := b.id, part := p, generate := bit b.flags 0, priority := bits b.flags 2 1, hard := bit b.flags 3, patchValid := patchOn
    stream := bit b.flags 5, widthMax := b.widthMax, exitEnable := b.exitEnable, tenant := b.tenant, model := b.model
    patch := b.patch, promptLen := b.promptLen, maxNew := b.maxNew
    deadlineLeg := if b.deadlineUs = 0 then noDeadline else (s.legCount + b.deadlineUs / s.period) % 2 ^ 32
    admittedLeg := s.legCount % 2 ^ 32, inHandle := bits b.input 63 44, inOff := bits b.input 43 12, inputLen := b.inputLen
    outHandle := bits b.output 63 44, outOff := bits b.output 43 12, outputLen := b.outputLen, predId := b.predId
    patchHandle := if patchOn then s.ent 3 b.patch 0x10 4 % 2 ^ 20 else 0
    patchVersion := if patchOn then s.ent 3 b.patch 0x0C 4 else 0
    patchObject := if patchOn then s.ent 3 b.patch 0x08 4 else 0 }

/-- Tests a request and admits or refuses it (R267): the answer is its ADMITTED or its FINAL. -/
def admission (s : State) (p : Nat) (b : ReqBody) (cut : Option Nat) : State :=
  let (st, hint) := s.admissionTest p b
  if st ≠ 0 then
    let s := s.bump Reg.SERVING_REFUSED
    let s := if st = stOverload then (s.bump Reg.SERVING_OVERLOAD).bump (Reg.SERVING_PART_OVERLOAD p) else s
    let s := if st = stNoPlan then s.bump (Reg.SERVING_PLAN_NOPLAN p) else s
    s.refuseMsg p b.id st hint 0
  else
    let waiting := (s.queuedOf p).any (fun r => r.slot.isNone)
    let s := { s with serving := { s.serving with reqs := s.serving.reqs ++ [s.newReq p b] } }.bump Reg.SERVING_ADMITTED
    let s := s.matchPrefix b.id cut
    let s := if waiting then s else s.assignSlot b.id
    match s.req? b.id with
    | none => s
    | some r =>
      s.sendHost p 0x8010 (leBytes 8 b.id ++ leBytes 2 (r.slot.getD 0xFFFF) ++ leBytes 2 r.matched.length ++
        leBytes 4 r.admittedLeg ++ leBytes 4 r.deadlineLeg)

end State

end Sys2Proof.Machine
end

