-- ==== Sys2Proof/Machine/Prefix.lean ====
section
/-!
DEFINITION. The two prefix indexes: insertion after publication, replacement, flush, resize, and the places of the
block-hash table (R290, R292, R305).
-/
namespace Sys2Proof.Machine

namespace State

/-- Takes a record out of an index; in the tree its parent names one child less (Table 11.3). -/
def dropNode (s : State) (kind i : Nat) : State :=
  let x := s.node_ kind i
  let s := if kind = 0 then { s with serving := { s.serving with tree := Tab.erase s.serving.tree i } }
    else { s with serving := { s.serving with hashTable := Tab.erase s.serving.hashTable i } }
  if kind = 0 ∧ x.parent ≠ 0xFFFFFFFF then
    let y := s.node_ 0 x.parent
    if y.valid then s.setNode 0 x.parent { y with children := y.children - 1 } else s
  else s

/-- The record a block may take in its group: one that is not valid, or the one with the lowest last_use among those with
refs 0 and, in the tree, children 0, the block's own parent apart (R292). -/
def roomInGroup (s : State) (kind : Nat) (c : BitVec 128) (parent : Option Nat) : Option Nat :=
  let g := List.range' (s.groupOf kind c) 8
  match g.find? (fun i => !(s.node_ kind i).valid) with
  | some i => some i
  | none =>
    let ok (i : Nat) : Bool := let x := s.node_ kind i; x.refs == 0 && (kind == 1 || x.children == 0) && parent != some i
    (g.filter ok).foldl (fun (best : Option Nat) i =>
      match best with
      | none => some i
      | some j => if (s.node_ kind i).lastUse < (s.node_ kind j).lastUse then some i else some j) none

/-- Inserts blocks in ascending order (R292): `parent` is the record of the block before, in the tree. -/
def insertBlocks (s : State) (q : PrefixPending) (kind : Nat) : Option Nat → Nat → List (BitVec 128 × Nat) → State
  | _, _, [] => s
  | parent, k, (c, page) :: rest =>
    if (s.lookup kind q.part c).isSome then
      if kind = 0 then s else insertBlocks s q kind none (k + 1) rest
    else if kind = 0 ∧ k ≠ 0 ∧ parent.isNone = true then s.bump Reg.SERVING_PREFIX_SKIPPED (rest.length + 1)
    else match s.roomInGroup kind c parent with
      | none =>
        if kind = 0 then s.bump Reg.SERVING_PREFIX_SKIPPED (rest.length + 1)
        else insertBlocks (s.bump Reg.SERVING_PREFIX_SKIPPED) q kind none (k + 1) rest
      | some i =>
        let s := if (s.node_ kind i).valid then s.dropNode kind i else s
        let s := s.setNode kind i
          { chain := c, pageHandle := q.handle, pageIndex := page
            parent := if kind = 0 then parent.getD 0xFFFFFFFF else 0xFFFFFFFF
            block := k, lastUse := s.legCount % 2 ^ 32, valid := true, part := q.part, object := q.object
            model := q.model, patch := q.patch }
        let s := match kind, parent with
          | 0, some j => let y := s.node_ 0 j; s.setNode 0 j { y with children := y.children + 1 }
          | _, _ => s
        insertBlocks (s.bump Reg.SERVING_PREFIX_INSERTED) q kind (if kind = 0 then some i else none) (k + 1) rest

/-- PREFIX_INSERT: the blocks of a retired sequence whose KV space is published now enter its partition's index; a partition
whose index is off by then inserts none (R292). -/
def prefixInsert (s : State) (h : Nat) : State :=
  match s.serving.prefixPending.find? (fun q => q.handle == h), (s.alloc? h).bind (·.published) with
  | some q, some _ =>
    let s := { s with serving := { s.serving with prefixPending := s.serving.prefixPending.filter (fun x => x.handle != h) } }
    let mode := s.prefixMode q.part
    let s := if mode = 1 ∨ mode = 2 then
        s.insertBlocks q (mode - 1) (if mode = 1 then q.before.bind (fun c => s.lookup 0 q.part c) else none) q.firstBlock q.blocks
      else s
    s.freeOrphans
  | _, _ => s

/-- Removes every record without references from the tree. A record with references has a parent with references (R291), so
the tree's rule stands; children are counted again. -/
def emptyTree (s : State) : State :=
  let kept := s.serving.tree.filter (fun x => decide (0 < x.2.refs))
  let count (i : Nat) : Nat := (kept.filter (fun y => decide (y.2.parent = i))).length
  { s with serving := { s.serving with
      tree := kept.map (fun (x : Nat × PrefixNode) => (x.1, { x.2 with children := count x.1 })) } }

/-- PREFIX_FLUSH: removes every record of both indexes whose refs is 0 (Table 11.10). -/
def prefixFlush (s : State) : State :=
  let s := s.emptyTree
  let s : State := { s with serving := { s.serving with
    hashTable := s.serving.hashTable.filter (fun x => decide (0 < x.2.refs)) } }
  s.freeOrphans

/-- A write of tree_log2: the tree's records without references go at once, and the resize waits for the milestone
(Table 11.10). -/
def prefixResizeAsked (s : State) : State :=
  let s := s.emptyTree.freeOrphans
  { s with serving := { s.serving with resize := true } }

/-- The resize of the tree at the milestone after a write of tree_log2 (R290): kept records move in ascending block order; one
that finds its group full, or its parent dropped, is dropped and counted. -/
def resizeTree (s : State) : State :=
  if !s.serving.resize then s
  else
    let kept := (s.serving.tree.filter (fun x => decide (0 < x.2.refs))).mergeSort
      (fun (a b : Nat × PrefixNode) => decide (a.2.block ≤ b.2.block))
    let s := { s with serving := { s.serving with
      resize := false, tree := [], treeLog2 := s.fld Reg.SERVING_PREFIX_CTRL 4 0 } }
    let (s, map) := kept.foldl (fun (acc : State × Tab Nat) x =>
      let (s, map) := acc
      let parent : Option (Option Nat) :=
        if x.2.parent = 0xFFFFFFFF then some none else (Tab.find? map x.2.parent).map some
      match parent, (List.range' (s.groupOf 0 x.2.chain) 8).find? (fun i => !(s.node_ 0 i).valid) with
      | some par, some i =>
        let s := s.setNode 0 i { x.2 with parent := par.getD 0xFFFFFFFF, children := 0 }
        let s := match par with
          | some j => let y := s.node_ 0 j; s.setNode 0 j { y with children := y.children + 1 }
          | none => s
        (s, Tab.set map x.1 i)
      | _, _ => (s.bump Reg.SERVING_PREFIX_SKIPPED, map)) (s, [])
    let moved (m : Nat × Nat × Nat × Nat) : Nat × Nat × Nat × Nat :=
      if m.1 = 0 then (0, (Tab.find? map m.2.1).getD 0xFFFFFFFF, m.2.2) else m
    let s : State := { s with serving := { s.serving with
      reqs := s.serving.reqs.map (fun (r : Req) => { r with matched := r.matched.map moved }) } }
    s.freeOrphans

/-- Places of the block-hash table's 16 granules: one a core, over the privileged partitions' cores, in ascending partition
order and row-major core order (R290); granules already in a place stay. A
change of places is a seam of the tier block's, made again at the next milestone where no record is free (R213). -/
def placeHash (s : State) : State :=
  let cores := (List.range 32).flatMap (fun p => if s.prefixMode p = 2 then coresOf (s.partDistricts p) else [])
  let old := s.tier.hashPlaces
  let s := { s with tier := { s.tier with hashPlaces := [] } }
  let places := cores.filterMap (fun c =>
    match old.find? (fun l => l / 64 == c) with
    | some l => some l
    | none => let g := s.freeGranules c; (g[s.draw.toNat % max 1 g.length]?).map (fun x => c * 64 + x))
  let new := places.take 16
  let put (s : State) : State := ({ s with tier := { s.tier with hashPlaces := new } } : State).drawn
  if new = old ∨ old = [] ∨ new = [] then put s
  else
    let (t, ok) := s.ownSeam
    if ok then put t else { t with tier := { t.tier with hashPlaces := old } }

end State

end Sys2Proof.Machine
end

