-- ==== Sys2Proof/Machine/Messages.lean ====
section
/-!
DEFINITION. The messages a host sends (Tables 15.6 to 15.12): the refusals of R399, sessions (R400) and what each type
does, but for SEAM (Machine/Seams.lean) and the types that act on firmware and power.
-/
namespace Sys2Proof.Machine

/-- Length of each host-to-module type (Table 15.8, R399); 0 for a type that is none of them. -/
def typeLength (type : Nat) (b : List Byte) : Nat :=
  if type = 0x0010 then 80
  else if type = 0x0022 then 64
  else if type = 0x0023 then 48
  else if type = 0x0030 then
    let n := fieldAt b 0x11 1
    32 + 16 * (if n = 0 ∨ 64 < n then 1 else n)
  else if [0x0001, 0x0011, 0x0020, 0x0021, 0x0024, 0x0031, 0x0040, 0x0041, 0x0042, 0x0043, 0x0050, 0x0051, 0x0060, 0x0061].contains type then 32
  else 0

/-- Byte ranges of a type's fields (Tables 15.8, 15.9); every other byte of the message is reserved. -/
def typeFields (type : Nat) (b : List Byte) (major : Nat) : List (Nat × Nat) :=
  if type = 0x0001 then [(0x10, 2)]
  else if type = 0x0010 then
    [(0x10, 9), (0x1C, 8), (0x24, 2), (0x28, 28)] ++ (if 2 ≤ major then [(0x19, 2), (0x48, 8)] else [])
  else if type = 0x0011 then [(0x10, 8)]
  else if type = 0x0020 then [(0x10, 10)]
  else if type = 0x0021 then [(0x10, 4)]
  else if type = 0x0022 then [(0x10, 12), (0x20, 32)]
  else if type = 0x0023 then [(0x10, 4), (0x18, 8), (0x20, b.length)]
  else if type = 0x0024 then [(0x10, 6), (0x18, 8)]
  else if type = 0x0030 then [(0x10, 2), (0x20, 16 * fieldAt b 0x11 1)]
  else if type = 0x0031 then [(0x10, 2)]
  else if type = 0x0040 ∨ type = 0x0041 then [(0x10, 2), (0x14, 4)]
  else if type = 0x0042 then [(0x10, 2), (0x14, 4)]
  else if type = 0x0043 then [(0x10, 2)]
  else if type = 0x0050 then [(0x10, 1), (0x18, 8)]
  else if type = 0x0051 then [(0x10, 3)]
  else if type = 0x0060 then [(0x10, 12)]
  else [(0x10, 1)]

/-- Width in bits of the id of a DISABLE or ENABLE, by kind (Table 15.8). -/
def disableIdBits (kind : Nat) : Nat := [5, 10, 12, 16, 23, 4].getD kind 0

/-- A field of the message holds a reserved encoding (R18, Tables 15.8, 15.9, R215, R34). -/
def encodingBad (type : Nat) (b : List Byte) (major : Nat) : Bool :=
  let f := fieldAt b
  if type = 0x0010 then
    decide (bits (f 0x18 1) 7 6 ≠ 0) || (decide (major < 2) && bit (f 0x18 1) 5) || decide (64 < f 0x19 1) ||
      decide (bits (f 0x1A 1) 7 4 ≠ 0) || decide (bits (f 0x1C 2) 15 12 ≠ 0) || decide (bits (f 0x1E 2) 15 10 ≠ 0) ||
      decide (bits (f 0x30 8) 11 0 ≠ 0) || decide (bits (f 0x38 8) 11 0 ≠ 0)
  else if type = 0x0020 then
    decide (2 ≤ f 0x11 1) || decide (32 ≤ f 0x12 1) || decide (32 ≤ f 0x13 1) || decide (f 0x14 4 = 0) ||
      decide (16777216 < f 0x14 4) || decide (bits (f 0x18 2) 14 13 ≠ 0) ||
      (decide (f 0x11 1 = 0) && (decide (f 0x12 1 ≠ 0) || decide (f 0x13 1 ≠ 0)))
  else if type = 0x0023 then decide (f 0x18 8 % 16 ≠ 0)
  else if type = 0x0024 then decide (f 0x14 2 < 16) || decide (2000 < f 0x14 2) || decide (f 0x14 2 % 16 ≠ 0)
  else if type = 0x0030 then decide (2 ≤ f 0x10 1) || decide (f 0x11 1 = 0) || decide (64 < f 0x11 1)
  else if type = 0x0040 then decide (6 ≤ f 0x10 1) || decide (2 ≤ f 0x11 1) || decide (2 ^ disableIdBits (f 0x10 1) ≤ f 0x14 4)
  else if type = 0x0041 then decide (6 ≤ f 0x10 1) || decide (1 ≤ f 0x11 1) || decide (2 ^ disableIdBits (f 0x10 1) ≤ f 0x14 4)
  else if type = 0x0042 then decide (f 0x10 2 < 125) || decide (16000 < f 0x10 2)
  else if type = 0x0043 then decide (f 0x10 2 < 800) || decide (1700 < f 0x10 2)
  else if type = 0x0050 then decide (5 ≤ f 0x10 1)
  else if type = 0x0051 then decide (1024 ≤ f 0x10 2) || decide (4 ≤ f 0x12 1)
  else if type = 0x0061 then decide (4 ≤ f 0x10 1)
  else false

/-- A reserved byte of the message is not 0, or a field holds a reserved encoding (R399, status FIELD). -/
def fieldBad (type : Nat) (b : List Byte) (major : Nat) : Bool :=
  decide (fieldAt b 7 1 ≠ 0) || !zerosAt b 0x0C 4 || decide (32 ≤ fieldAt b 6 1) || encodingBad type b major ||
    (List.range b.length).any (fun i =>
      decide (0x10 ≤ i) && !(typeFields type b major).any (fun w => decide (w.1 ≤ i) && decide (i < w.1 + w.2)) &&
        decide (b.getD i 0 ≠ 0))

/-- Types that only the physical function may send. -/
def pfOnly (type : Nat) (b : List Byte) : Bool :=
  [0x0042, 0x0043, 0x0060, 0x0061].contains type || ((type == 0x0040 || type == 0x0041) && decide (4 ≤ fieldAt b 0x10 1))

namespace State

/-- A message's length cannot be trusted: it ends the processing of its slot (R399, LENGTH). `b` is what the slot still
holds; a message begins with its header. -/
def lengthBad (b : List Byte) : Bool :=
  let n := fieldAt b 4 2
  let t := fieldAt b 2 2
  decide (n % 16 ≠ 0) || decide (n < 16) || decide (b.length < n) || decide (n < typeLength t b)

/-- Header status of the first test of Table 15.7 that a message fails, past LENGTH; 0 for OK. -/
def headerStatus (s : State) (p fn : Nat) (b : List Byte) : Nat :=
  let t := fieldAt b 2 2
  let major := fieldAt b 0 1
  let minor := fieldAt b 1 1
  let ss := (s.mbox p).session
  let versionBad : Bool :=
    if t = 0x0001 then !(major == 1 && minor == 0)
    else match ss with
      | none => false
      | some x => !(major == x.major && decide (minor ≤ x.minor))
  if versionBad then 2
  else if t ≠ 0x0001 ∧ ss = none then 3
  else if typeLength t b = 0 then 4
  else if fieldBad t b (match ss with | some x => x.major | none => 1) then 5
  else if bits (fieldAt b 6 1) 4 0 ≠ p ∨ s.partValid p = false then 6
  else if fn ≠ 0 ∧ pfOnly t b = true then 7
  else if s.phase < 4 ∧ t ≠ 0x0001 ∧ t ≠ 0x0050 ∧
      ¬(s.fallbackServing p = true ∧ (t = 0x0010 ∨
        ((t = 0x0023 ∨ t = 0x0024) ∧ fieldAt b 0x10 4 = s.power.fallbackArea ∧ s.power.fallbackArea ≠ 0))) then 8
  else 0

/-- Answers a refused message: a REQUEST by a FINAL with status REQ_BAD, any other by a REPLY; the header carries the
refusal (R399). -/
def refuse (s : State) (p : Nat) (b : List Byte) (status : Nat) : State :=
  if fieldAt b 2 2 = 0x0010 then
    s.refuseMsg p (fieldAt b 0x10 8) stReqBad 0 status
  else
    s.place p (s.message 0x8002 p status
      (leBytes 2 (fieldAt b 2 2) ++ leBytes 1 0 ++ leBytes 1 0 ++ leBytes 4 (fieldAt b 8 4) ++ leBytes 8 0))

/-! Sessions. -/

/-- Ownership word of slot `n` of set `p` (Table 15.5). -/
def ownership (s : State) (p n : Nat) : Nat := leNat (s.host.mem.bytes (p * 65536 + 0x800 + (n - 1) * 0x800) 8)
/-- Writes an ownership word. -/
def setOwnership (s : State) (p n v : Nat) : State :=
  { s with host := { s.host with mem := s.host.mem.write (p * 65536 + 0x800 + (n - 1) * 0x800) (leBytes 8 v) } }

/-- Returns every handed-over or taken slot of a set to the host, but one in processing (R389). -/
def returnSlots (s : State) (p : Nat) (but : Option Nat) : State :=
  (List.range' 1 15).foldl (fun s n =>
    let w := s.ownership p n
    if some n = but ∨ bits w 1 0 = 0 then s else s.setOwnership p n (withBits w 1 0 0)) s

/-- Closes a set's session as a virtual function's FLR does (R389): outbox and backlog discarded, every live request of the
partition as if a CANCEL for it had just been read, messages discarded until a new HELLO. -/
def closeSession (s : State) (p : Nat) (but : Option Nat) : State :=
  let s := s.updMbox p (fun m => { m with session := none, closed := true, backlog := [], outCons := m.outProd })
  let s := (s.showBacklog p).setFld (Reg.MAILBOX_STATUS p) 0 0 0
  let s := s.returnSlots p but
  { s with serving := { s.serving with
      cancels := s.serving.cancels ++ (s.serving.reqs.filter (fun r => decide (r.part = p))).map (fun r =>
        { reqId := r.id, set := 32, seqNo := 0 }) } }

/-- HELLO (R400): the highest major both support, with the smaller of the two highest minors for it. -/
def helloAgreed (h1 h2 : Nat) : Nat × Nat :=
  if h2 ≠ 0xFF then (2, min h2 2) else if h1 ≠ 0xFF then (1, min h1 3) else (0, 0)

/-- The HELLO_REPLY (Table 15.8). -/
def helloReply (s : State) (p : Nat) (a : Nat × Nat) : State :=
  s.place p (mkMessage 1 0 0x8001 p 0 (leBytes 1 a.1 ++ leBytes 1 a.2 ++ [3, 2] ++ leBytes 2 s.node ++ [0xB0]))

/-- What a HELLO does: closes the session that is open, and opens the one agreed. -/
def msgHello (s : State) (p fn : Nat) (b : List Byte) (slot : Option Nat) : State :=
  let a := helloAgreed (fieldAt b 0x10 1) (fieldAt b 0x11 1)
  if a.1 = 0 then s.helloReply p a
  else
    let s := if (s.mbox p).session.isSome then s.closeSession p slot else s
    let s := s.updMbox p (fun m => { m with
      session := some { major := a.1, minor := a.2, fn }, closed := false, outProd := 0, outCons := 0, placed := 0, backlog := [] })
    ((s.showBacklog p).setFld (Reg.MAILBOX_STATUS p) 0 0 1).helloReply p a

/-! The types. `q` is the message's own sequence. -/

/-- CANCEL (R280): received now, effective at the next step 3. -/
def msgCancel (s : State) (p : Nat) (b : List Byte) : State :=
  { s with serving := { s.serving with
      cancels := s.serving.cancels ++ [{ reqId := fieldAt b 0x10 8, set := p, seqNo := fieldAt b 8 4 }] } }

/-- ALLOC (R215 to R217). -/
def msgAlloc (s : State) (p : Nat) (b : List Byte) : State :=
  let q := fieldAt b 8 4
  let place := fieldAt b 0x11 1 = 1
  let core := fieldAt b 0x13 1 * 32 + fieldAt b 0x12 1
  let ow := fieldAt b 0x18 2
  let owner : Option (Nat × Nat) :=
    if bit ow 15 then some (bits ow 12 0, ((s.slot? (bits ow 12 0)).getD {}).reqId) else none
  if place ∧ bit (s.partDistricts p) (districtOf core) = false then s.reply p 0x0020 q 2 0
  else if bit ow 15 ∧ (s.slot? (bits ow 12 0)).isNone then s.reply p 0x0020 q 1 0
  else if bit ow 15 ∧ ((s.slot? (bits ow 12 0)).getD {}).part ≠ p then s.reply p 0x0020 q 2 0
  else
    let a : Alloc := { part := p, flags := fieldAt b 0x10 1, granules := fieldAt b 0x14 4, owner, placement := place, core }
    let (s, h, st) := s.allocate a
    if st = 0 then s.reply p 0x0020 q 0 h else s.reply p 0x0020 q st 0

/-- Result of naming a handle from a set: 0, or UNKNOWN or NOT_PERMITTED (Table 15.12). -/
def handleResult (s : State) (p h : Nat) : Nat :=
  match s.alloc? h with
  | none => 1
  | some a => if a.part ≠ p ∨ a.internal then 2 else 0

/-- FREE (R220): the REPLY is placed when the free commits. -/
def msgFree (s : State) (p : Nat) (b : List Byte) : State :=
  let h := fieldAt b 0x10 4
  let q := fieldAt b 8 4
  let st := if ((s.alloc? h).getD {}).freeing.isSome then 1 else s.handleResult p h
  if st = 0 then s.requestFree h (some (p, q)) else s.reply p 0x0021 q st 0

/-- PUBLISH (R221): starts the publication, or refuses it. -/
def msgPublish (s : State) (p : Nat) (b : List Byte) : State :=
  let h := fieldAt b 0x10 4
  let q := fieldAt b 8 4
  let o := fieldAt b 0x14 4
  let v := fieldAt b 0x18 4
  let a := (s.alloc? h).getD {}
  let st :=
    if (s.alloc? h).isSome ∧ a.part = p ∧ a.published.isSome then 0x17
    else if s.handleResult p h ≠ 0 then s.handleResult p h
    else if a.publishing.isSome then 0x17
    else if a.hostWritten then 0x16
    else if (match Tab.find? s.tier.lastVersion o with | some l => decide (v ≤ l) | none => false) then 0x15
    else 0
  if st ≠ 0 then s.reply p 0x0022 q st 0
  else s.updAlloc h (fun a => { a with
    publishing := some { object := o, version := v, digest := BitVec.ofNat 256 (fieldAt b 0x20 32), host := some (p, q) } })

/-- A first write of the range would wait for washed space: a granule in state zero has no home yet (R236). -/
def homeWaits (s : State) (a : Alloc) (gs : List Nat) : Bool :=
  gs.any (fun g => ((a.entry g).state == 4 || (a.entry g).state == 0) && (s.firstHome a g).isNone)

/-- Keeps a message whose answer waits. -/
def keepWait (s : State) (w : HostWait) : State := { s with tier := { s.tier with hostWaits := s.tier.hostWaits ++ [w] } }

/-- DATA_PUT (R236, R404, Table 15.12): answered once the bytes stand at their home. -/
def msgDataPut (s : State) (p : Nat) (b : List Byte) : State :=
  let h := fieldAt b 0x10 4
  let q := fieldAt b 8 4
  let off := fieldAt b 0x18 8
  let data := b.drop 0x20
  let a := (s.alloc? h).getD {}
  let st :=
    if s.handleResult p h ≠ 0 then s.handleResult p h
    else if a.size < off + data.length ∨ a.published.isSome ∨ a.publishing.isSome then 3
    else if a.meetsLost off data.length ∨ s.writeBad a off data.length then 4
    else 0
  if st ≠ 0 then s.reply p 0x0023 q st 0
  else if s.homeWaits a ((blockPieces off data.length).map (·.1)) then s.keepWait { set := p, msg := b }
  else
    let (s, asked) := ((s.updAlloc h (fun a => { a with hostWritten := true })).landBytes h off data).lentRequests h off data.length true
    if asked = [] then s.reply p 0x0023 q 0 0 else s.keepWait { set := p, msg := b, asked := asked }

/-- DATA_GET (R404, Table 15.12): bytes of a lent granule are read from its lender (R212). -/
def msgDataGet (s : State) (p : Nat) (b : List Byte) : State :=
  let h := fieldAt b 0x10 4
  let q := fieldAt b 8 4
  let off := fieldAt b 0x18 8
  let n := fieldAt b 0x14 2
  let a := (s.alloc? h).getD {}
  if s.handleResult p h ≠ 0 then s.reply p 0x0024 q (s.handleResult p h) 0
  else if a.size < off + n then s.reply p 0x0024 q 3 0
  else match s.readAlloc h off n with
    | none => s.reply p 0x0024 q 4 0
    | some d =>
      let (s, asked) := s.lentRequests h off n false
      if asked = [] then s.reply p 0x0024 q 0 0 d else s.keepWait { set := p, msg := b, asked := asked }

/-- Answers a message that waited: a DATA_GET with what its lenders sent, in place of what the allocation's own record shows. -/
def answerWait (s : State) (w : HostWait) (result : Nat) : State :=
  let b := w.msg
  let q := fieldAt b 8 4
  let type := fieldAt b 2 2
  if result ≠ 0 ∨ type = 0x0023 then s.reply w.set type q result 0
  else
    let off := fieldAt b 0x18 8
    let n := fieldAt b 0x14 2
    let d := w.got.foldl (fun (d : List Byte) (x : Nat × List Byte) => (List.range n).map (fun i =>
      if x.1 ≤ off + i ∧ off + i < x.1 + x.2.length then x.2.getD (off + i - x.1) 0 else d.getD i 0)) (s.peek (fieldAt b 0x10 4) off n)
    s.reply w.set type q 0 0 d

/-- A lender answers a request of a message that waits: the message is answered after the last (R404). -/
def waitAnswered (s : State) (node txn : Nat) (data : List Byte) : State :=
  match s.tier.hostWaits.find? (fun w => w.asked.any (fun a => a.1 == node && a.2.1 == txn)) with
  | none => s
  | some w =>
    let off := ((w.asked.find? (fun a => a.1 == node && a.2.1 == txn)).map (·.2.2)).getD 0
    let w' := { w with asked := w.asked.filter (fun a => !(a.1 == node && a.2.1 == txn)), got := w.got ++ [(off, data)] }
    let rest := s.tier.hostWaits.erase w
    if w'.asked = [] then ({ s with tier := { s.tier with hostWaits := rest } } : State).answerWait w' 0
    else { s with tier := { s.tier with hostWaits := rest ++ [w'] } }

/-- Messages that wait for a lender that refuses, or is lost, are answered UNREADABLE (Table 15.12). -/
def waitFailed (s : State) (node : Nat) (txn : Option Nat) : State :=
  let hit := s.tier.hostWaits.filter (fun w => w.asked.any (fun a => a.1 == node && (txn == none || txn == some a.2.1)))
  hit.foldl (fun s w => s.answerWait w 4) ({ s with tier := { s.tier with hostWaits := s.tier.hostWaits.filter (fun w => !hit.contains w) } } : State)

/-- DATA_PUTs that waited for washed space are taken up again (R236). -/
def retryPuts (s : State) : State :=
  let hit := s.tier.hostWaits.filter (fun w => w.asked.isEmpty)
  hit.foldl (fun s w => s.msgDataPut w.set w.msg)
    ({ s with tier := { s.tier with hostWaits := s.tier.hostWaits.filter (fun w => !w.asked.isEmpty) } } : State)

/-- SEAM_ABORT (R255, R256): value 1 unpicked, 2 already-complete; of a participant's part that is ready, once the coordinator has decided. -/
def msgSeamAbort (s : State) (p : Nat) (b : List Byte) : State :=
  let id := fieldAt b 0x10 2
  let q := fieldAt b 8 4
  let k := id % 256
  match s.seam? k with
  | some x =>
    if x.gen ≠ id / 256 then s.reply p 0x0031 q 1 0
    else if (match x.scope with | some (sp, _) => decide (sp ≠ p) | none => true) then s.reply p 0x0031 q 2 0
    else if x.submitter = 8 ∧ x.state = 3 then s.updSeam k (fun x => { x with aborts := x.aborts ++ [(p, q)] })
    else
      let (s, done) := s.unpick k 0x10
      s.reply p 0x0031 q 0 (if done then 1 else 2)
  | none => if Tab.find? s.seams.gens k = some (id / 256) then s.reply p 0x0031 q 0 2 else s.reply p 0x0031 q 1 0

/-! Disabling and enabling. -/

/-- The function a DISABLE or ENABLE names; through a virtual function a model is disabled in that partition alone. -/
def fnOf (p fn : Nat) (b : List Byte) : Fn :=
  let id := fieldAt b 0x14 4
  match fieldAt b 0x10 1 with
  | 0 => .partition (bits id 4 0)
  | 1 => if fn = 0 then .model (bits id 9 0) else .modelIn p (bits id 9 0)
  | 2 => .tenant (bits id 11 0)
  | 3 => .patch (bits id 15 0)
  | 4 => .expert (bits id 9 0) (bits id 16 10) (bits id 22 17)
  | _ => .port (bits id 3 0)

/-- REPLY result for the function named: UNKNOWN, NOT_PERMITTED or OK (R401, Table 15.12). -/
def fnResult (s : State) (p fn : Nat) (f : Fn) : Nat :=
  match f with
  | .partition q => if fn ≠ 0 ∧ q ≠ p then 2 else if s.partValid q then 0 else 1
  | .model m => if s.modelValid m then 0 else 1
  | .modelIn q m => if !s.modelValid m then 1 else if s.modelServed m q then 0 else 2
  | .tenant t => if fn ≠ 0 ∧ bits (s.tenantEntry t) 47 40 ≠ 0x80 + p then 2 else 0
  | .patch n => if !s.patchValid n then 1 else if fn ≠ 0 ∧ s.ent 3 n 1 1 ≠ 0x80 + p then 2 else 0
  | .expert m _ _ => if s.modelValid m then 0 else 1
  | .port _ => 0

/-- A port closes: no new packet is routed to it, and it goes down at step 3 (R378). -/
def closePort (s : State) (n : Nat) : State :=
  let s := s.setFld (Reg.CAUSEWAY_PORT_CTRL n) 2 2 0
  if s.portState n = 0 then s else s.setFld (Reg.CAUSEWAY_PORT_STATUS n) 31 28 4

/-- The items of a function leave the list: each core that runs one stops at its next tile boundary (R58). -/
def dropItems (s : State) (test : Item → Bool) : State :=
  { s with serving := { s.serving with items := s.serving.items.filter (fun i => !test i) } }

/-! The functions a seam belongs to (R57, R58, R161). -/

/-- The live request that owns a seam. -/
def seamReq (s : State) (x : Seam) : Option Req := if x.owner.isSome then s.req? x.reqId else none
/-- Partitions a seam belongs to: that of its scope and those it presses in. -/
def seamParts (x : Seam) : List Nat := (x.scope.map (·.1)).toList ++ (seamPresses x).map (·.part)
/-- Models a seam belongs to: those of its owner's request, of the context whose port it came through, and of the images it presses. -/
def seamModels (s : State) (x : Seam) : List Nat :=
  ((s.seamReq x).map (·.model)).toList ++ (x.port.map (fun t => s.ctxModel t.1)).toList ++
    (seamPresses x).map (fun w => bits (s.peekNat w.handle 6 2) 9 0)

/-- A function holds a seam. -/
def fnSeam (s : State) (f : Fn) (x : Seam) : Bool :=
  match f with
  | .partition p => (seamParts x).contains p
  | .model m => (s.seamModels x).contains m
  | .modelIn p m => (seamParts x).contains p && (s.seamModels x).contains m
  | .tenant _ | .patch _ => (s.seamReq x).any (Fn_hits f)
  | .expert _ _ _ | .port _ => false

/-- A seam belongs to a function that is disabled. -/
def seamOff (s : State) (x : Seam) : Bool :=
  let ps := seamParts x
  let ms := s.seamModels x
  ps.any (fun p => !s.partEnabled p || s.offBy (.partition p)) ||
    ms.any (fun m => s.offBy (.model m) || (s.modelValid m && !s.modelEnabled m) || ps.any (fun p =>
      s.offBy (.modelIn p m) || (s.modelValid m && !s.modelServed m p))) ||
    (s.seamReq x).any (fun r => !s.reqUsable r)

/-- An emergency disable (R58): items stop at the next boundary, the function's open seams are unpicked, and every request
with work in it ends ABORTED. -/
def emergency (s : State) (f : Fn) : State :=
  let s := s.unpickAll 0x12 (fun _ x => s.fnSeam f x)
  let s := match f with
    | .partition p => s.dropItems (fun i => s.ctxPart i.context == p)
    | .model m => s.dropItems (fun i => s.ctxModel i.context == m)
    | .modelIn p m => s.dropItems (fun i => s.ctxModel i.context == m && s.ctxPart i.context == p)
    | .expert m l e => s.owe (.expertOff m l e)
    | _ => s
  let s := match f with
    | .partition p => s.dropBlocks (fun b => s.ctxPart b.ctx == p)
    | .model m => s.dropBlocks (fun b => s.ctxModel b.ctx == m)
    | .modelIn p m => s.dropBlocks (fun b => s.ctxModel b.ctx == m && s.ctxPart b.ctx == p)
    | _ => s
  (s.serving.reqs.filter (Fn_hits f)).foldl (fun s r => s.endRequest r.id stAborted 0 0 0x12) s

/-- Disables a function by message (R57, R58). -/
def disableFn (s : State) (f : Fn) (now : Bool) : State :=
  match f with
  | .port n => if now then (s.setFld (Reg.CAUSEWAY_PORT_CTRL n) 2 2 0).owe (.portDown n 6) else s.closePort n
  | _ =>
    let s := { s with serving := { s.serving with
      disabled := if s.serving.disabled.contains f then s.serving.disabled else s.serving.disabled ++ [f] } }
    if now then s.emergency f else s

/-- Enables a function again (R59). -/
def enableFn (s : State) (f : Fn) : State :=
  match f with
  | .port n => s.owe (.portUp n)
  | _ => { s with serving := { s.serving with
      disabled := s.serving.disabled.filter (fun g => decide (g ≠ f)) } }

/-- DISABLE (R57, R58). -/
def msgDisable (s : State) (p fn : Nat) (b : List Byte) : State :=
  let f := fnOf p fn b
  let st := s.fnResult p fn f
  let q := fieldAt b 8 4
  if st ≠ 0 then s.reply p 0x0040 q st 0 else (s.disableFn f (fieldAt b 0x11 1 = 1)).reply p 0x0040 q 0 0

/-- ENABLE (R59). -/
def msgEnable (s : State) (p fn : Nat) (b : List Byte) : State :=
  let f := fnOf p fn b
  let st := s.fnResult p fn f
  let q := fieldAt b 8 4
  if st ≠ 0 then s.reply p 0x0041 q st 0 else (s.enableFn f).reply p 0x0041 q 0 0

/-! Periods, queries, masks. -/

/-- Arms a period change at a milestone named by its low 32 bits (R33): the period is that written last to
LEG_PERIOD_NEXT, taken when the change is armed. The second milestone after a write before the first one has number 1. -/
def armChange (s : State) (low period : Nat) : State :=
  let d := sdiff32 low s.legCount
  let s := if d < 2 then s.setFld Reg.LEG_ERR 1 1 1 else s
  let at_ := if d < 2 then s.legCount + (if s.leg.counted then 2 else 1) else s.legCount + d.toNat
  { s with leg := { s.leg with armed := some (at_ % 2 ^ 64, period) } }

/-- The module follows another's milestones: modes 0b10 and 0b11 (R35). -/
def follows (s : State) : Bool := decide (2 ≤ s.fld Reg.LEG_SYNC 1 0)

/-- A change asked for locally: ignored while the module follows, and LEG_ERR.period_refused is set (R35). -/
def changeAt (s : State) (low period : Nat) : State :=
  if s.follows then s.setFld Reg.LEG_ERR 0 0 1 else s.armChange low period

/-- QUERY: the result for what its argument names, and the data, whose layout the manual does not give (R401). -/
def msgQuery (s : State) (p : Nat) (b : List Byte) : State :=
  let sel := fieldAt b 0x10 1
  let arg := fieldAt b 0x18 8
  let q := fieldAt b 8 4
  let st :=
    if sel = 1 then (if arg ≠ p then 2 else 0)
    else if sel = 2 then (match s.req? arg with | none => 1 | some r => if r.part ≠ p then 2 else 0)
    else if sel = 3 then (if 4096 ≤ arg then 1 else 0)
    else if sel = 4 then (if 256 ≤ arg then 1 else 0)
    else 0
  if st ≠ 0 then s.reply p 0x0050 q st 0
  else
    let d := (Config.queryData sel arg s.free).take 2000
    (s.reply p 0x0050 q 0 0 d).drawn

/-- EVENT_MASK (R416). -/
def msgEventMask (s : State) (p : Nat) (b : List Byte) : State :=
  (s.updMbox p (fun m => { m with maskSources := fieldAt b 0x10 2, maskSeverity := fieldAt b 0x12 1 })).reply p 0x0051 (fieldAt b 8 4) 0 0

end State

end Sys2Proof.Machine
end

