-- ==== Sys2Proof/Machine/Task.lean ====
section
/-!
DEFINITION. Tasks: the rectangle of a context, epochs and their advance (R149 to R151, R205), and what the abort of a task
does (R96, R155, R203, R204).
-/
namespace Sys2Proof.Machine

/-! A descriptor's fields and rows (Table 7.1). -/

namespace Desc

/-- Field `hi:lo` of word `i` (Table 7.1). -/
def w (x : Desc) (i hi lo : Nat) : Nat := bits (x.words.getD i 0).toNat hi lo
/-- kind: 1 TIER, 2 PEER, 3 REMOTE, 4 PREFETCH. -/
def kind (x : Desc) : Nat := x.w 0 63 60
/-- The ticket that names a descriptor (Table 7.2). -/
def ticket (x : Desc) : Nat := x.seqNo * 16 + b2n x.write * 8 + x.place
/-- merge_ok. -/
def mergeOk (x : Desc) : Bool := x.w 0 59 59 == 1 && (x.kind == 1 || x.kind == 3)
/-- post_on. -/
def postOn (x : Desc) : Bool := x.w 0 58 58 == 1
/-- ordered. -/
def ordered (x : Desc) : Bool := x.w 0 57 57 == 1
/-- post_far. -/
def postFar (x : Desc) : Bool := x.w 0 56 56 == 1
/-- Rows. -/
def rows (x : Desc) : Nat := x.w 0 32 22 + 1
/-- local_addr. -/
def local_ (x : Desc) : Nat := x.w 0 21 0
/-- Distance between local rows, in bytes. -/
def lstride (x : Desc) : Nat := x.w 1 63 48 * 16
/-- Bytes of a row. -/
def len (x : Desc) : Nat := (x.w 1 47 36 + 1) * 16
/-- Distance between far rows, in bytes. -/
def fstride (x : Desc) : Nat := x.w 1 31 0 * 16
/-- Allocation handle. -/
def handle (x : Desc) : Nat := x.w 2 63 44
/-- Byte address of the far row 0: in the allocation, or in the far core's scratchpad. -/
def far (x : Desc) : Nat := if x.kind = 2 then x.w 2 21 0 else x.w 2 36 0 * 16
/-- The far core of a PEER. -/
def farCore (x : Desc) : Nat := x.w 2 58 54 * 32 + x.w 2 63 59
/-- Node of the far module. -/
def node (x : Desc) : Nat := x.w 3 63 52
/-- owner_valid and owner. -/
def owner (x : Desc) : Option Nat := if x.w 3 49 49 = 1 then some (x.w 3 48 36) else none
/-- Bytes from the first to the last of the local rows, and of the far rows. -/
def localSpan (x : Desc) : Nat := (x.rows - 1) * x.lstride + x.len
def farSpan (x : Desc) : Nat := (x.rows - 1) * x.fstride + x.len
/-- Bytes moved. -/
def bytes (x : Desc) : Nat := x.rows * x.len

/-- DESC_BAD: a reserved kind, encoding or field, a post of 0, a direction or post the kind has not, or overlapping rows
(Table 7.6, R188, R189). -/
def bad (x : Desc) : Bool :=
  let k := x.kind
  k == 0 || decide (4 < k) || x.w 1 35 32 != 0 || x.w 3 35 32 != 0 || x.local_ % 16 != 0 ||
    (k == 2 && (x.w 2 53 22 != 0 || x.far % 16 != 0)) || (k != 2 && x.w 2 43 37 != 0) ||
    (k != 3 && x.node != 0) || (k != 4 && x.w 3 51 50 != 0) || (k == 4 && decide (2 ≤ x.w 3 51 50)) ||
    (x.postOn && x.w 0 48 33 == 0) || (x.postFar && k != 2) ||
    (k == 4 && (x.write || x.local_ != 0 || x.lstride != 0)) ||
    (decide (1 < x.rows) && (if x.write then decide (x.fstride < x.len) else k != 4 && decide (x.lstride < x.len)))

/-- Pieces of a row that no 4 KiB boundary of the far range cuts (R198): far address, local address, bytes. `fuel` bounds them. -/
def cut (far loc n : Nat) : Nat → List (Nat × Nat × Nat)
  | 0 => []
  | fuel + 1 =>
    if n = 0 then []
    else
      let m := min n (4096 - far % 4096)
      (far, loc, m) :: cut (far + m) (loc + m) (n - m) fuel

/-- Pieces of every row, in order. -/
def pieces (x : Desc) : List (Nat × Nat × Nat) :=
  (List.range x.rows).flatMap (fun r => cut (x.far + r * x.fstride) (x.local_ + r * x.lstride) x.len (x.len / 4096 + 2))

/-- Consecutive pieces of one 4 KiB block are one far request; of a write only adjoining ones are (R198). -/
def group (write : Bool) : List (Nat × Nat × Nat) → List (List (Nat × Nat × Nat))
  | [] => []
  | p :: t =>
    match group write t with
    | (q :: qs) :: gs =>
      if p.1 / 4096 = q.1 / 4096 ∧ (write = false ∨ p.1 + p.2.2 = q.1) then (p :: q :: qs) :: gs else [p] :: (q :: qs) :: gs
    | gs => [p] :: gs

/-- Its far requests: pieces served together, in order. -/
def requests (x : Desc) : List (List (Nat × Nat × Nat)) := group false x.pieces

/-- Far requests of a descriptor that may be served together with one of another: both of the same engine, kind and far range, and in one
block (R198). -/
def sharedWith (x y : Desc) : Nat :=
  if x.mergeOk && y.mergeOk && x.write == y.write && x.kind == y.kind && x.handle == y.handle && x.node == y.node then
    (x.requests.filter (fun g => y.pieces.any (fun p => p.1 / 4096 == (g.headD (0, 0, 0)).1 / 4096))).length
  else 0

/-- Granules the rows touch, each once, in order. -/
def granules (x : Desc) : List Nat := (x.pieces.map (fun p => p.1 / 65536)).eraseDups

end Desc

namespace State

/-- One core. -/
def core (s : State) (c : Nat) : Core := (Tab.find? s.cores c).getD {}
/-- Changes one core. -/
def updCore (s : State) (c : Nat) (f : Core → Core) : State := { s with cores := Tab.set s.cores c (f (s.core c)) }
/-- What a slot of a core holds. -/
def slotImg (s : State) (c i : Nat) : SlotImg := (Tab.find? (s.core c).slots i).getD {}

/-- Cores of a context's rectangle. -/
def ctxCores (s : State) (c : Nat) : List Nat := rectCores (s.ctxOrigin c) (s.ctx c).w (s.ctx c).h
/-- The context pressed, or being pressed, in a slot of a district. -/
def ctxOf (s : State) (d slot : Nat) : Option Nat :=
  firstFrom (fun c => s.ctxState c != 0 && s.ctxSlot c == slot && (s.ctxDistricts c).contains d) 0 64
/-- Partition that owns a district; 0 where none does. -/
def partOf (s : State) (d : Nat) : Nat := (s.districtOwner d).getD 0

/-- An item of the work list by its name. -/
def item? (s : State) (u : Nat) : Option Item := s.serving.items.find? (fun i => decide (i.uid = u))
/-- Changes an item. -/
def updItem (s : State) (u : Nat) (f : Item → Item) : State :=
  { s with serving := { s.serving with items := s.serving.items.map (fun i => if i.uid = u then f i else i) } }

/-- Something the district stall monitor counts as movement has taken place at a core (R164). -/
def markMoved (s : State) (c : Nat) : State := s.updCore c (fun k => { k with moved := s.now })

/-! Transit buffers (R138, R139). -/

/-- The core a port of a router leads to, if it exists, and the port there (R136): ports in the order of out_mask, 0 the local one. -/
def nextRouter (c port : Nat) : Option (Nat × Nat) :=
  let ok (b : Bool) (n p : Nat) : Option (Nat × Nat) := if b then some (n, p) else none
  match port with
  | 1 => ok (decide (32 ≤ c)) (c - 32) 3
  | 2 => ok (decide (c % 32 + 1 < 32)) (c + 1) 4
  | 3 => ok (decide (c + 32 < 1024)) (c + 32) 1
  | 4 => ok (decide (1 ≤ c % 32)) (c - 1) 2
  | 5 => ok (decide (128 ≤ c)) (c - 128) 7
  | 6 => ok (decide (c % 32 + 4 < 32)) (c + 4) 8
  | 7 => ok (decide (c + 128 < 1024)) (c + 128) 5
  | 8 => ok (decide (4 ≤ c % 32)) (c - 4) 6
  | _ => none

/-- The route entry that steers an entry in transit: of its circuit, in its slot's table at the router (Table 5.2). -/
def routeOf (s : State) (f : Flight) : Nat := (Tab.get 0 (s.slotImg f.core f.entry.slot).routes (f.net * 64 + f.entry.circuit)).toNat

/-- The copies an entry in transit sends on, one for each outgoing link its route entry names. -/
def onward (s : State) (f : Flight) : List Flight :=
  let e := s.routeOf f
  (List.range' 1 8).filterMap (fun p => if bit e (22 + p) then (nextRouter f.core p).map (fun (n, q) =>
    { f with core := n, port := q, entry := { f.entry with circuit := bits e 21 16 } }) else none)

/-- Entries a transit buffer holds. -/
def inTransit (s : State) (net core port : Nat) : Nat :=
  (s.net.flight.filter (fun f => f.net == net && f.core == core && f.port == port)).length

/-- An entry in transit may leave its buffer: its route entry is valid, every link it names has a free buffer of the four beyond it, and no
entry of its circuit stands before it in its own (log entries 27 and 129). -/
def mayLeave (s : State) (f : Flight) : Bool :=
  let e := s.routeOf f
  let copies := s.onward f
  bit e 31 && copies.length == ((List.range' 1 8).filter (fun p => bit e (22 + p))).length &&
    copies.all (fun g => decide (s.inTransit g.net g.core g.port < 4)) &&
    s.net.flight.find? (fun g => g.net == f.net && g.core == f.core && g.port == f.port && g.entry.slot == f.entry.slot &&
      g.entry.circuit == f.entry.circuit) == some f

/-- An entry leaves its buffer: its copies stand in the next ones. -/
def leave (s : State) (f : Flight) : State := { s with net := { s.net with flight := s.net.flight.erase f ++ s.onward f } }

/-- Entries in transit go on while one can, the oldest in its buffer first; one with a local delivery waits for that (R138). -/
def flowN : Nat → State → State
  | 0, s => s
  | n + 1, s =>
    match s.net.flight.find? (fun f => !bit (s.routeOf f) 22 && bits (s.routeOf f) 30 23 != 0 && s.mayLeave f) with
    | none => s
    | some f => flowN n (s.leave f)

/-- Entries in transit go as far as there is room. -/
def flow (s : State) : State := flowN 65536 s

/-! Epochs. -/

/-- A descriptor issued by the slot under the epoch the advance would give is outstanding in the district (R151). -/
def advanceBlocked (s : State) (d slot : Nat) : Bool :=
  let e := (s.epoch d slot + 1) % 16
  (coresOf (1 <<< d)).any (fun c => (s.core c).descs.any (fun x => x.slot == slot && x.epoch == e))

/-- Sets the pairs a slot owns in a core back to the initial counts of its image (R205). -/
def resetPairs (s : State) (c slot : Nat) : State :=
  (List.range 64).foldl (fun s n =>
    if s.semOwner c n = some slot then s.setReg (Reg.CORE_SEM c n) (Tab.get 0 (s.slotImg c slot).initial n) else s) s

/-- Discards the entries of a slot in a district's queues and transit buffers: what is left and how many were discarded (R150). -/
def flushSlot (s : State) (d slot : Nat) : State × Nat :=
  let cs := coresOf (1 <<< d)
  let inQueues := (cs.map (fun c => ((s.core c).queues.map (fun q => (q.2.filter (fun e => e.slot == slot)).length)).sum)).sum
  let gone (f : Flight) : Bool := f.entry.slot == slot && districtOf f.core == d
  let moving := (s.net.flight.filter gone).length
  let s := cs.foldl (fun s c =>
    if (s.core c).queues.isEmpty then s
    else s.updCore c (fun k => { k with queues := k.queues.map (fun q => (q.1, q.2.filter (fun e => e.slot != slot))) })) s
  (({ s with net := { s.net with flight := s.net.flight.filter (fun f => !gone f) } } : State).flow, inQueues + moving)

/-- The advance of a slot's epoch in a district, with its flush; after an abort the pairs go back to their initial
counts in the same cycle (R150, R205). -/
def doAdvance (s : State) (d slot : Nat) (abort : Bool) : State :=
  let s := s.setFld (Reg.SERVING_DIST_STATUS d) (19 + 4 * slot) (16 + 4 * slot) (s.epoch d slot + 1)
  let (s, n) := s.flushSlot d slot
  let s := s.bump (Reg.SERVING_DIST_FLUSHED d) n
  if abort then (coresOf (1 <<< d)).foldl (fun s c => s.resetPairs c slot) s else s

/-- An advance asked for: at once, or after the descriptor that blocks it (R151). -/
def advanceEpoch (s : State) (d slot : Nat) (abort : Bool) : State :=
  if s.advanceBlocked d slot then { s with net := { s.net with advances := s.net.advances ++ [(d, slot, abort)] } }
  else s.doAdvance d slot abort

/-! Aborts. -/

/-- An audit in flight is abandoned (R129). -/
def dropAudit (s : State) (c : Nat) : State :=
  if (s.core c).audit.isSome then (s.updCore c (fun k => { k with audit := none })).bumpSat (Reg.CORE_AUDIT_SKIPPED c) else s

/-- What the cancellation of a write in progress leaves where it writes on this module: contents undefined until they are rewritten
(R204). -/
def spoilFar (s : State) (x : Desc) : State :=
  x.pieces.foldl (fun s p =>
    let v := (List.range p.2.2).map (fun i => BitVec.ofNat 8 (Config.freeValue (s.free + i)).toNat)
    if x.kind = 1 then (s.drawn p.2.2).updAlloc x.handle (fun a => { a with data := a.data.write p.1 v })
    else if x.kind = 2 then (s.drawn p.2.2).updCore x.farCore (fun k => { k with scratch := k.scratch.write p.1 v })
    else s) s

/-- Drops the descriptors of a slot of a core that the running task issued: one not started is gone, one in progress
issues nothing more and frees its place later; each counts (R204). A descriptor of an item that has ended goes on. -/
def cancelDescs (s : State) (c slot : Nat) (items : List Nat) : State :=
  let k := s.core c
  let hit (x : Desc) : Bool := x.slot == slot && items.contains x.item && x.state != 2
  let n := (k.descs.filter hit).length
  if n = 0 then s
  else
    let p := ((k.descs.find? hit).getD {}).part
    let s := (k.descs.filter (fun x => hit x && x.write && x.state == 1)).foldl spoilFar s
    (s.updCore c (fun k => { k with
      dead := k.dead ++ (k.descs.filter hit).map Desc.ticket
      descs := k.descs.filterMap (fun x =>
        if hit x then (if x.state = 1 then some { x with state := 2, reqs := [] } else none) else some x) })).bump (Reg.TIER_STREAM_CANCEL p) n

/-- Takes an item off the list, with the later items of its batch. A core that runs it takes another item at its next tile boundary, for the
list names it no longer. -/
def dropItem (s : State) (it : Item) : State :=
  { s with serving := { s.serving with items := s.serving.items.filter (fun i =>
      !(i.uid == it.uid || (i.context == it.context && !i.done && i.seqs.any it.seqs.contains))) } }

/-- Takes an item off the list at step 4: its sequences are placed again from its section. -/
def takeBack (s : State) (it : Item) : State :=
  (it.seqs.foldl (fun s n => s.updSlot n (fun x => { x with cursor := min x.cursor it.section_ })) s).dropItem it

/-- Takes an item off the list within a leg: the sequence table is changed at the next step 3 (R264). -/
def cutBack (s : State) (it : Item) (fault : Bool) : State :=
  let l := it.seqs.filterMap (fun n => (s.slot? n).map (fun x => ({ slot := n, reqId := x.reqId, cursor := it.section_, fault := fault } : Cut)))
  ({ s with serving := { s.serving with cuts := s.serving.cuts ++ l.filter (fun c => !s.serving.cuts.contains c) } } : State).dropItem it

/-- A counter of an aborted task: its generation rises and it is no longer armed (R95). -/
def disarm (s : State) (n : Nat) : State :=
  (s.setFld (Reg.SERVING_CTR_CFG n) 23 20 (s.fld (Reg.SERVING_CTR_CFG n) 23 20 + 1)).setFld (Reg.SERVING_CTR_CFG n) 31 31 0

/-- Aborts the task of a context: its items in progress leave the list, its requests end as the cause gives and the rest are
retried in the next leg, its seams are unpicked, its descriptors cancelled, its other cores stop at their next tile
boundary, and the epoch advances in every district of the rectangle (R96, R150, R155, R203 to R205). -/
def abortTask (s : State) (c : Nat) (owners : Option (List Nat)) (cls cause : Nat) (data : Bool) : State :=
  let slot := s.ctxSlot c
  let p := s.ctxPart c
  let its := s.serving.items.filter (fun i => i.context == c && i.started && !i.done)
  let uids := its.map (·.uid)
  let seqs := its.flatMap (·.seqs)
  let ids := seqs.filterMap (fun n => (s.slot? n).map (·.reqId))
  let s := s.unpickAll 0x10 (fun _ x =>
    (x.scope == some (p, slot) && (match x.owner with | some o => seqs.contains o | none => false)) ||
    (match x.port with | some w => w.1 == c | none => false))
  let s := (s.ctxCores c).foldl (fun s k => s.cancelDescs k slot uids) s
  let s := (s.ctxCores c).foldl (fun s k => if (s.core k).item.any uids.contains then s.dropAudit k else s) s
  let s := its.foldl (fun s i => s.cutBack i data) s
  let s := s.dropBlocks (fun b => b.ctx == c)
  let s := if s.ctxExpert c then s.owe (.hostStop (s.ctxModel c) p) else s
  let s := ids.foldl (fun s id =>
    match s.req? id with
    | none => s
    | some r =>
      let n := r.slot.getD 0
      let run := ((s.slot? n).getD {}).faultRun + 1
      let ends := match owners with | none => true | some l => l.contains n || (data && 3 ≤ run)
      if ends then s.endRequest id stAborted cls cause 0x10 else s) s
  let s := (s.slotImg ((s.ctxCores c).headD 0) slot).counters.foldl (fun s n => s.disarm n) s
  (s.ctxDistricts c).foldl (fun s d => s.advanceEpoch d slot true) s

/-- The contexts whose tasks run in a district: a core of it runs a tile of their item. -/
def tasksIn (s : State) (d : Nat) : List Nat :=
  ((coresOf (1 <<< d)).filterMap (fun k =>
    if s.coreState k = 1 then (match (s.core k).item with
      | some u => (s.item? u).map (·.context)
      | none => none) else none)).eraseDups

end State

end Sys2Proof.Machine
end

