-- ==== Sys2Proof/Machine/Builder.lean ====
section
/-!
DEFINITION. Building the work list at step 4 (R275 to R279), with the tree and header of each KV list (R293, R294, R296).
-/
namespace Sys2Proof.Machine

namespace State

/-- Allocation and byte offset of a slot's KV list (R284). -/
def kvList (x : Slot) : Nat × Nat := (bits x.kvHead.toNat 63 44, bits x.kvHead.toNat 43 12 * 65536)
/-- The sequence generates. -/
def slotGen (x : Slot) : Bool := bit x.flags 0
/-- Its prefill is done. -/
def prefillDone (x : Slot) : Bool := bit x.flags 5
/-- Its priority. -/
def slotPriority (x : Slot) : Nat := bits x.flags 2 1

/-! The tree of a leg. -/

/-- Width a pass may propose: width, or a probe of 1 (R296). -/
def proposeWidth (x : Slot) : Nat :=
  let w := bits x.spec.toNat 6 0
  if w ≠ 0 then w else if bits x.spec.toNat 32 28 = 0 ∧ bits x.spec.toNat 14 8 ≠ 0 then 1 else 0

/-- Depths of the nodes of a proposed tree, root first; none where a parent is not below its node (R293). -/
def treeDepths (parents : List Nat) : Option (List Nat) :=
  parents.foldl (fun acc p =>
    match acc with
    | none => none
    | some ds => if p < ds.length then some (ds ++ [ds.getD p 0 + 1]) else none) (some [0])

/-- Mask rows of a tree, root first (R294). -/
def treeMasks (parents : List Nat) : List Nat :=
  parents.foldl (fun ms p => ms ++ [ms.getD p 0 ||| 1 <<< ms.length]) [1]

/-- Takes the proposal of the report last read into the KV list, or refuses it for n = 0 (R293, R294). -/
def takeTree (s : State) (n : Nat) : State :=
  match s.slot? n with
  | none => s
  | some x =>
    match x.proposal with
    | none => s
    | some buf =>
      let (h, o) := kvList x
      let r := o + 0x8800 + buf * 0x800
      let k := if buf = 2 then 0 else s.peekNat h (r + 0x12) 1
      let parents := (List.range k).map (fun i => s.peekNat h (r + 0x180 + i) 1)
      let width := s.peekNat h (o + 0x15) 1
      let deep := s.peekNat h (o + 0x16) 1
      let good : Bool := decide (k ≤ width) && (match treeDepths parents with
        | none => false
        | some ds => ds.all (fun d => decide (d ≤ deep) && decide (d + x.generated + 1 ≤ x.maxNew)))
      let k' := if good then k else 0
      let ps := parents.take k'
      let ds := (treeDepths ps).getD [0]
      let s := if good then s else s.bump Reg.SERVING_SPEC_BADTREE
      let s := s.writeAlloc h (o + 0x8100) (leBytes 1 k' ++ List.replicate 63 0 ++
        (List.range 256).map (fun i => if i < 4 * k' then (s.peek h (r + 0x80 + i) 1).headD 0 else 0) ++
        (List.range 64).map (fun i => BitVec.ofNat 8 (ps.getD i 0)) ++
        (List.range 65).map (fun i => BitVec.ofNat 8 (ds.getD i 0)) ++ List.replicate 63 0 ++
        (List.range 65).flatMap (fun i => leBytes 16 ((treeMasks ps).getD i 0)))
      s.updSlot n (fun x => { x with proposal := none })

/-- Nodes of a sequence's tree, beside the root. -/
def treeNodes (s : State) (x : Slot) : Nat := let (h, o) := kvList x; s.peekNat h (o + 0x8100) 1
/-- Greatest depth of its tree. -/
def treeDepth (s : State) (x : Slot) : Nat :=
  let (h, o) := kvList x
  (s.peek h (o + 0x8280) (s.treeNodes x + 1)).foldl (fun m b => max m b.toNat) 0

/-- Header fields the next pass reads: position, fills, width, depth_max, buf (Table 11.1, R296). -/
def writeHeader (s : State) (n : Nat) : State :=
  match s.slot? n with
  | none => s
  | some x =>
    let (h, o) := kvList x
    let w := proposeWidth x
    let s := s.writeAlloc h (o + 0x10) (leBytes 2 x.position)
    s.writeAlloc h (o + 0x14) (leBytes 1 (bits x.exit.toNat 3 0) ++ leBytes 1 w ++ leBytes 1 (min 8 w) ++
      leBytes 1 (bits x.spec.toNat 33 33))

/-! Figures of a sequence. -/

/-- rows(s) (R276, R295). -/
def rowsOf (s : State) (x : Slot) : Nat :=
  if !slotGen x then x.promptLen
  else if !prefillDone x then min (x.promptLen - x.position) (s.prefillChunk x.model)
  else bits x.exit.toNat 3 0 + 1 + s.treeNodes x

/-- Largest position a sequence reaches after the leg (R276). -/
def reachOf (s : State) (x : Slot) : Nat :=
  if slotGen x && prefillDone x then x.position + 1 + s.treeDepth x else x.position + s.rowsOf x

/-- cap of each district of a partition, in cycles (R276). -/
def capOf (s : State) (p : Nat) : Nat :=
  s.period * s.fld Reg.POWER_CLOCK 10 0 * s.fld (Reg.SERVING_PART_CFG p) 23 16 / 256

/-- Slack of a sequence in legs (R276); `none` without a deadline. -/
def slackOf (s : State) (x : Slot) : Option Int :=
  if x.deadlineLeg = noDeadline then none
  else match s.req? x.reqId with
    | none => none
    | some r => some (sdiff32 x.deadlineLeg s.legCount - s.runLegs r)

/-- A sequence is urgent (R276), and stays so past a soft deadline (R273). -/
def urgent (s : State) (x : Slot) : Bool :=
  decide (0 < x.lateLegs) || (match s.slackOf x with
    | none => false
    | some k => decide (k ≤ s.fld Reg.SERVING_SCHED 7 0))

end State

/-- An open batch (R276): context, section, batch list, its sequences with their rows, and the plan of its first item. -/
structure Batch where
  ctx : Nat := 0
  sec : Nat := 0
  list : Nat := 0
  seqs : List Nat := []
  rows : List Nat := []
  len : Nat := 1
  entry : Nat := 0
  parts : Nat := 1
  fallback : Bool := false
  est : Nat := 0

/-- What a build knows beside the state: capacity left by district, districts that have placed something, batches in the
order opened, items in the list, sequences placed. -/
structure Build where
  cap : Tab Int := []
  used : List Nat := []
  batches : List Batch := []
  count : Nat := 0
  placed : List Nat := []
  /-- Lists still named by slip items: context and list. -/
  lists : List (Nat × Nat) := []

namespace State

/-- Governing length of a batch in a section (R172, R276). -/
def batchLen (s : State) (c sec : Nat) (seqs rows : List Nat) : Nat :=
  let gov := s.govOf ((s.ctx c).images.getD sec 0)
  if gov = 0 then max 1 rows.sum
  else if gov = 1 then max 1 (seqs.foldl (fun m n => max m (s.reachOf ((s.slot? n).getD {}))) 0)
  else 1

/-- Plan of an item of a context's section at a length: entry, parts, fallback, estimate in units of 16 cycles; none
where no valid bucket serves it (R185). -/
def itemPlan (s : State) (c sec l : Nat) : Option (Nat × Nat × Bool × Nat) :=
  let x := s.ctx c
  if s.planServes (x.images.getD sec 0) (x.plans.getD sec 0) l then s.planFor (x.plans.getD sec 0) l else none

/-- Takes a rise in estimate, in cycles, from the caps of a rectangle. -/
def takeCap (b : Build) (ds : List Nat) (rise : Int) : Build :=
  { b with cap := ds.foldl (fun t d => Tab.set t d (Tab.get 0 t d - rise)) b.cap, used := b.used ++ ds }

/-- A refusal of the builder: SERVING_PART_NOFITp, and SERVING_WL_FULL for want of room in the list (R276, R277). -/
def notFit (s : State) (p : Nat) (full : Bool) : State :=
  let s := s.bump (Reg.SERVING_PART_NOFIT p)
  if full then s.bump Reg.SERVING_WL_FULL else s

/-- try_place (R276): the flag says whether the sequence was placed. -/
def tryPlace (s : State) (b : Build) (n : Nat) : State × Build × Bool :=
  match s.slot? n with
  | none => (s, b, false)
  | some x =>
    let c := x.context
    let sec := x.cursor
    let ds := s.ctxDistricts c
    let rw := s.rowsOf x
    let open_ : Option Batch := b.batches.find? (fun t => t.ctx == c && t.sec == sec && decide (t.seqs.length < 64))
    let list := match open_ with
      | some t => some t.list
      | none => firstFrom (fun k => !b.lists.contains (c, k) && !b.batches.any (fun t => t.ctx == c && t.list == k)) 0 16
    let full := open_.isNone && decide (4096 ≤ b.count)
    match list with
    | none => (s.notFit x.part full, b, false)
    | some k =>
      let old := open_.getD { ctx := c, sec, list := k }
      let seqs := old.seqs ++ [n]
      let rows := old.rows ++ [rw]
      let l := s.batchLen c sec seqs rows
      if full then (s.notFit x.part true, b, false)
      else match s.itemPlan c sec l with
      | none => (s.notFit x.part false, b, false)
      | some (e, parts, fb, est) =>
        let rise : Int := 16 * (est : Int) - 16 * (old.est : Int)
        let fits := ds.all (fun d => decide (rise ≤ Tab.get 0 b.cap d))
        if fits || (open_.isNone && !ds.any b.used.contains) then
          let t : Batch := { old with seqs, rows, len := l, entry := e, parts, fallback := fb, est }
          let b := takeCap b ds rise
          let b := match open_ with
            | none => { b with batches := b.batches ++ [t], count := b.count + 1 }
            | some o => { b with batches := b.batches.map (fun (u : Batch) =>
                if u.ctx = o.ctx ∧ u.sec = o.sec ∧ u.list = o.list then t else u) }
          (s, { b with placed := b.placed ++ [n] }, true)
        else (s.notFit x.part false, b, false)

/-- Deficit of a tenant. -/
def deficit (s : State) (t : Nat) : Int := Tab.get 0 s.serving.deficit t
/-- Sets a tenant's deficit. -/
def setDeficit (s : State) (t : Nat) (v : Int) : State :=
  { s with serving := { s.serving with deficit := Tab.put 0 s.serving.deficit t v } }

/-- Ready sequences: each tenant's ready work (R265, R276). -/
def readyWork (s : State) : List Nat := (s.serving.slots.filter (fun x => x.2.state == 2)).map (·.1)

/-- Sequences a build may place: ready, in a ready context with no press open, below the shed level (R464), and not
unstarted ones of a tenant over budget without spill (R275). -/
def candidates (s : State) : List Nat :=
  s.serving.slots.filterMap (fun (n, x) =>
    let started : Bool := match s.req? x.reqId with | some r => r.firstPlaced.isSome | none => true
    if decide (x.state = 2) && decide (s.ctxState x.context = 2) && !s.pressOpen x.context &&
        decide (x.cursor < (s.ctx x.context).sections) && decide (slotPriority x < s.fld Reg.POWER_STATUS 22 20) &&
        (started || !s.overBudget x.tenant || s.tenantSpill x.tenant) then some n else none)

/-- Order of urgent sequences: deadline, then slot. -/
def urgentBefore (s : State) (a b : Nat) : Bool :=
  let k (n : Nat) : Int := sdiff32 ((s.slot? n).getD {}).deadlineLeg s.legCount
  if k a ≠ k b then decide (k a < k b) else decide (a ≤ b)

/-- Order of a tenant's sequences: priority, then admitted_leg, oldest first, then slot. -/
def readyBefore (s : State) (a b : Nat) : Bool :=
  let x := (s.slot? a).getD {}
  let y := (s.slot? b).getD {}
  if slotPriority x ≠ slotPriority y then decide (slotPriority x < slotPriority y)
  else if x.admittedLeg ≠ y.admittedLeg then decide (sdiff32 x.admittedLeg s.legCount < sdiff32 y.admittedLeg s.legCount)
  else decide (a ≤ b)

/-- Places urgent sequences first (R276). -/
def placeUrgent (s : State) (b : Build) (cands : List Nat) : State × Build :=
  ((cands.filter (fun n => s.urgent ((s.slot? n).getD {}))).mergeSort s.urgentBefore).foldl (fun (s, b) n =>
    let x := (s.slot? n).getD {}
    let rw := s.rowsOf x
    let (s, b, ok) := s.tryPlace b n
    if ok then (s.setDeficit x.tenant (max (-4 * (s.quantum x.tenant : Int)) (s.deficit x.tenant - rw)), b) else (s, b)) (s, b)

/-- One tenant's turn: its sequences in order, until one asks for more rows than its deficit. -/
def tenantTurn (s : State) (b : Build) (t : Nat) : List Nat → State × Build × Bool
  | [] => (s, b, false)
  | n :: rest =>
    let rw := s.rowsOf ((s.slot? n).getD {})
    if s.deficit t < rw then (s, b, false)
    else
      let (s, b, ok) := s.tryPlace b n
      let s := if ok then s.setDeficit t (s.deficit t - rw) else s
      let (s, b, more) := tenantTurn s b t rest
      (s, b, ok || more)

/-- One round over the tenants that have ready work, from rr_start, those over budget or the others (R276). -/
def oneRound (s : State) (b : Build) (cands : List Nat) (spent : Bool) : State × Build × Bool :=
  let left := cands.filter (fun n => !b.placed.contains n)
  let ts := (((s.readyWork.filter (fun n => !b.placed.contains n)).map (fun n => ((s.slot? n).getD {}).tenant)).filter (fun t =>
    s.overBudget t == spent)).eraseDups
  let key (t : Nat) : Nat := (t + 4096 - s.serving.rrStart) % 4096
  (ts.mergeSort (fun a c => decide (key a ≤ key c))).foldl (fun (s, b, any) t =>
    let q : Int := s.quantum t
    let s := s.setDeficit t (min (4 * q) (s.deficit t + q))
    let mine := (left.filter (fun n => ((s.slot? n).getD {}).tenant == t)).mergeSort s.readyBefore
    let (s, b, ok) := s.tenantTurn b t mine
    (s, b, any || ok)) (s, b, false)

/-- Rounds until one places nothing; each that places something uses up a sequence, which bounds them. -/
def rounds (s : State) (b : Build) (cands : List Nat) (spent : Bool) : Nat → State × Build
  | 0 => (s, b)
  | fuel + 1 =>
    let (s, b, any) := s.oneRound b cands spent
    if any then rounds s b cands spent fuel else (s, b)

/-- The new item of a batch's section. -/
def newItem (s : State) (t : Batch) (sec len entry parts est : Nat) (fb : Bool) : Item :=
  let x := s.ctx t.ctx
  let image := x.images.getD sec 0
  let e := menuEntry (s.peek image (s.peekNat image 0x10 4) (16 + 32 * 8)) entry
  { uid := s.serving.nextItem, context := t.ctx, section_ := sec, first := sec == 0, last := sec + 1 == x.sections
    fallback := fb, seqs := t.seqs, rows := (t.seqs.zip t.rows).foldl (fun m x => Tab.set m x.1 x.2) [], list := t.list, entryPc := e.entryPc, plan := planWord len entry parts fb
    len, blocks := ceilDiv len (max 1 e.gran) * e.blocksPerGran, est, leg := s.legCount % 2 ^ 32 }

/-- Appends one new item to the list, with its counts: the fallback counter (R185) and the context's items and use
(R331). -/
def appendItem (s : State) (i : Item) : State :=
  let p := s.ctxPart i.context
  let s := if i.fallback then s.bump (Reg.SERVING_PLAN_FALLBACK p) else s
  let s := s.bump (Reg.SERVING_CTX_ITEMS i.context)
  let s := s.setFld (Reg.SERVING_CTX_USE i.context) 15 0 (min 65535 (s.fld (Reg.SERVING_CTX_USE i.context) 15 0 + 1))
  { s with serving := { s.serving with items := s.serving.items ++ [i], nextItem := s.serving.nextItem + 1 } }

/-- Appends the later sections of a batch while each fits (R277); the cursor comes to stand at the first that does not. -/
def extendBatch (s : State) (b : Build) (t : Batch) : Nat → Nat → State × Build × Nat
  | 0, sec => (s, b, sec)
  | fuel + 1, sec =>
    if (s.ctx t.ctx).sections ≤ sec ∨ 4096 ≤ b.count then (s, b, sec)
    else
      let l := s.batchLen t.ctx sec t.seqs t.rows
      match s.itemPlan t.ctx sec l with
      | none => (s, b, sec)
      | some (e, parts, fb, est) =>
        let ds := s.ctxDistricts t.ctx
        if ds.all (fun d => decide (16 * (est : Int) ≤ Tab.get 0 b.cap d)) then
          let s := s.appendItem (s.newItem t sec l e parts est fb)
          extendBatch s { takeCap b ds (16 * est) with count := b.count + 1 } t fuel (sec + 1)
        else (s, b, sec)

/-- Bytes of a batch list (Table 10.8). -/
def batchList (s : State) (t : Batch) : List Byte :=
  ((t.seqs.zip t.rows).foldl (fun (acc : List Byte × Nat) (n, rw) =>
    let x := (s.slot? n).getD {}
    let decode := slotGen x && prefillDone x
    let fills := if decode then bits x.exit.toNat 3 0 else 0
    let row : List Byte :=
      leBytes 2 (n + b2n decode * 2 ^ 13 + b2n (bit x.flags 4) * 2 ^ 14) ++ leBytes 2 rw ++ leBytes 2 acc.2 ++
      leBytes 2 (if fills = 0 then x.position else ((s.fillRows x).headD (x.position, 0)).1) ++ leBytes 2 x.tenant ++
      leBytes 2 x.patch ++ leBytes 4 0 ++ leBytes 8 x.kvHead.toNat ++ leBytes 8 x.input.toNat ++ leBytes 8 x.output.toNat ++
      leBytes 8 x.reqId ++ leBytes 16 0
    (acc.1 ++ row, acc.2 + rw)) ([], 0)).1

/-- A placed sequence: its state and cursor, and, at its first placement, its entry leaves the queue; est_rows of the entry
started is what the rate counts (R269, R270). -/
def markPlaced (s : State) (n cursor : Nat) : State × Nat :=
  match s.slot? n with
  | none => (s, 0)
  | some x =>
    let s := s.updSlot n (fun x => { x with state := 4, cursor })
    let s := { s with expert := { s.expert with heldOnce := s.expert.heldOnce.filter (· != n) } }
    match s.req? x.reqId with
    | none => (s, 0)
    | some r =>
      if r.queued then
        (s.updReq r.id (fun r => { r with queued := false, firstPlaced := some s.legCount }), s.estRows r)
      else (s, 0)

/-- Publishes a batch: its list, its items, its sequences placed; the answer also adds the rows of entries started to the
count of its partition. -/
def publishBatch (s : State) (b : Build) (t : Batch) (started : Tab Nat) : State × Build × Tab Nat :=
  let s := s.writeAlloc (s.ctx t.ctx).batchArea (t.list * 4096) (s.batchList t)
  let s := s.appendItem (s.newItem t t.sec t.len t.entry t.parts t.est t.fallback)
  let (s, b, cur) := s.extendBatch b t 256 (t.sec + 1)
  let p := s.ctxPart t.ctx
  let (s, rows) := t.seqs.foldl (fun (s, k) n => let (s, r) := s.markPlaced n cur; (s, k + r)) (s, 0)
  (s, b, Tab.set started p (Tab.get (0 : Nat) started p + rows))

/-! The prefetch scheduler's queue (R231). -/

/-- Entry `i` of a prefetch schedule as its 32 bytes. -/
def scheduleEntry (s : State) (h i : Nat) : List Byte := s.peek h (16 + 32 * i) 32

/-- The range of a schedule entry has replicas of its version in the target tier. -/
def rangeReplicated (s : State) (e : List Byte) : Bool :=
  let tier := if fieldAt e 1 1 = 0 then 1 else 0
  (List.range (fieldAt e 0x10 4)).all (fun k => s.tier.replicas.any (fun r =>
    r.object == fieldAt e 4 4 && r.version == fieldAt e 8 4 && r.granule == fieldAt e 0xC 4 + k && r.tier == tier && !r.making && !r.going))

/-- Queues the entries wanted by an item of section `sec` of a context (R231). -/
def queuePrefetch (s : State) (c sec : Nat) : State :=
  let h := (s.ctx c).schedule
  if h = 0 then s
  else
    let lead := s.peekNat h 6 1
    let n := max 1 (s.ctx c).sections
    let wanted := (List.range' 1 lead).map (fun k => (sec + k) % n)
    (List.range (s.peekNat h 4 2)).foldl (fun s i =>
      let e := s.scheduleEntry h i
      if !wanted.contains (fieldAt e 0 1) || s.tier.prefetch.contains (c, h, i) || s.rangeReplicated e then s
      else { s with tier := { s.tier with prefetch := s.tier.prefetch ++ [(c, h, i)] } }) s

/-! Step 4. -/

/-- The start of a budget window (R275). -/
def resetWindow (s : State) : State :=
  if s.legCount % 1000 ≠ 0 then s
  else { s with serving := { s.serving with used := s.serving.used.filterMap (fun (t, u) =>
      let b := s.tenantBudget t
      if b < u then some (t, u - b) else none) } }

/-- What is left of an item's estimate: all of it where no core has begun it; a free value within it otherwise. -/
def remainingEst (s : State) (i : Item) : Nat := if i.started then s.draw.toNat % (i.est + 1) else i.est

/-- Slip: the items carried keep their order and take their capacity first. The sequences of an item of a context that is no
longer ready go back to held (R49, R276, R346). -/
def placeSlip (s : State) (b : Build) : State × Build :=
  s.serving.items.foldl (fun (s, b) i =>
    if s.ctxState i.context = 2 then
      let r := s.remainingEst i
      let s := if i.started then s.drawn else s
      let b := takeCap b (s.ctxDistricts i.context) (16 * r)
      (s, { b with count := b.count + 1, lists := b.lists ++ [(i.context, i.list)] })
    else if i.started then (s, b)
    else (s.takeBack i, b)) (s, b)

/-- Assigns free slots to waiting entries, oldest first; within a partition none passes an earlier one (R270). -/
def assignAll (s : State) : State :=
  ((s.queue.filter (fun r => r.slot.isNone)).foldl (fun (s, stuck) r =>
    if stuck.contains r.part then (s, stuck)
    else
      let s := s.assignSlot r.id
      match (s.req? r.id).bind (·.slot) with
      | some _ => (s, stuck)
      | none => (s, stuck ++ [r.part])) (s, ([] : List Nat))).1

/-- Waiting, held and ready states (R265, R272): a placed slot that no item serves any more is free to be placed again, but
not while a ledger entry stands for it. -/
def updateStates (s : State) : State :=
  s.serving.slots.foldl (fun s (n, x) =>
    let busy := x.state = 4 ∧ (s.serving.items.any (fun i => i.seqs.contains n) ∨ (Tab.find? s.serving.ledger n).isSome)
    if busy then s
    else
      let waits : Bool := decide (x.predId ≠ 0) && (match s.req? x.reqId with | some r => !r.predDone | none => false)
      match s.readyCtx x.part x.model with
      | some c => s.updSlot n (fun x => { x with context := c, state := if waits then 1 else if s.pressOpen c then 3 else 2 })
      | none => s.updSlot n (fun x => { x with state := if waits then 1 else 3 })) s

/-- Trees and headers of the KV lists (R285, R293, R296). -/
def prepareLists (s : State) : State :=
  s.serving.slots.foldl (fun s (n, x) => if slotGen x then (s.takeTree n).writeHeader n else s) s

/-- Capacities of every district of every valid partition. -/
def initialCaps (s : State) : Tab Int :=
  (List.range 64).foldl (fun t d =>
    match s.districtOwner d with
    | none => t
    | some p => Tab.set t d (s.capOf p : Int)) []

/-- rate_x16 of every valid partition (Table 10.11): += (16 × rows started − rate_x16) div 16. -/
def updateRates (s : State) (started : Tab Nat) : State :=
  (List.range 32).foldl (fun s p =>
    if !s.partValid p then s
    else
      let r : Int := s.rd (Reg.SERVING_PART_RATE p)
      s.wr (Reg.SERVING_PART_RATE p) (r + (16 * ((Tab.get (0 : Nat) started p : Nat) : Int) - r).tdiv 16).toNat) s

/-- Deficits of tenants with no ready work left return to 0 (R276). -/
def zeroDeficits (s : State) (placed : List Nat) : State :=
  let busy := (s.readyWork.filter (fun n => !placed.contains n)).map (fun n => ((s.slot? n).getD {}).tenant)
  { s with serving := { s.serving with deficit := s.serving.deficit.filter (fun x => busy.contains x.1) } }

/-- Use counts are halved every 256th milestone: contexts' (R331) and granules' (R219). -/
def halveUses (s : State) : State :=
  if s.legCount % 256 ≠ 0 then s
  else
    let s := (List.range 64).foldl (fun s c =>
      if s.ctxState c = 0 then s else s.setFld (Reg.SERVING_CTX_USE c) 15 0 (s.fld (Reg.SERVING_CTX_USE c) 15 0 / 2)) s
    { s with tier := { s.tier with
        allocs := s.tier.allocs.map (fun (h, a) => (h, { a with dir := a.dir.map (fun (g, e) => (g, { e with use := e.use / 2 })) }))
        replicas := s.tier.replicas.map (fun r => { r with use := r.use / 2 }) } }

/-- Numbers the items of the published list (Table 10.6). -/
def numberItems (s : State) : State :=
  { s with serving := { s.serving with items := (s.serving.items.zip (List.range s.serving.items.length)).map (fun (i, k) =>
      { i with index := k }) } }

/-- The standing items: one for each resident expert context with no press open, after slip and before every other new item
(R307): section 0, without sequences, at the length and plan of a new item that processes no rows (R172, R185, log entry 89). One that finds
no room in the list is not placed (R277). -/
def placeStanding (s : State) (b : Build) : State × Build :=
  ((List.range 64).filter (fun c => s.ctxState c == 2 && s.ctxExpert c && !s.pressOpen c)).foldl (fun (s, b) c =>
    if 4096 ≤ b.count then (s.bump Reg.SERVING_WL_FULL, b)
    else
      let l := s.batchLen c 0 [] []
      match s.itemPlan c 0 l with
      | none => (s, b)
      | some (e, parts, fb, est) =>
        let i := s.newItem { ctx := c, sec := 0, list := 0 } 0 l e parts est fb
        (s.appendItem { i with standing := true, last := false }, { b with count := b.count + 1 })) (s, b)

/-- The build of step 4 (R276); `hold` puts back the sequences held for an expert bay (R319). -/
def build (s : State) (hold : State → State) : State :=
  let s := s.sweepReplicas.resetWindow.halveUses
  let (s, b) := s.placeSlip { cap := s.initialCaps }
  let (s, b) := s.placeStanding b
  let s := (hold s.assignAll.updateStates).prepareLists
  let cands := s.candidates
  let (s, b) := s.placeUrgent b cands
  let under := cands.filter (fun n => !s.overBudget ((s.slot? n).getD {}).tenant)
  let spent := cands.filter (fun n => s.overBudget ((s.slot? n).getD {}).tenant)
  let (s, b) := s.rounds b under false (under.length + 1)
  let (s, b) := s.rounds b spent true (spent.length + 1)
  let s := s.zeroDeficits b.placed
  let s := { s with serving := { s.serving with rrStart := (s.serving.rrStart + 1) % 4096 } }
  let (s, _, started) := b.batches.foldl (fun (s, b, k) t => s.publishBatch b t k) (s, b, ([] : Tab Nat))
  let s := s.numberItems.updateRates started
  (s.serving.items.filter (fun i => !i.slip)).foldl (fun s i => s.queuePrefetch i.context i.section_) s

end State

end Sys2Proof.Machine
end

