-- ==== Sys2Proof/Machine/Ledger.lean ====
section
/-!
DEFINITION. Steps 2 and 3 of a milestone for the sequences: ledger seams (R246, R253, R286, R287, R296 to R299), dependents
(R272), cancellations, disablements, deadlines (R273, R280).
-/
namespace Sys2Proof.Machine

namespace State

/-- DELIVER_TOKEN of one token: its 4 bytes in the output range, and generated (R402, Table 9.3). -/
def deliver (s : State) (r : Req) (n pos : Nat) (tok : W32) : State :=
  let pos := pos % 65536
  if pos < r.promptLen then s
  else
    let off := pos - r.promptLen
    let s := s.updSlot n (fun x => { x with generated := max x.generated (off + 1) })
    if r.outputLen < 4 * off + 4 then s
    else (s.writeAlloc r.outHandle (16 * r.outOff + 4 * off) (leBytes 4 tok.toNat)).updSlot n
      (fun x => { x with outBytes := max x.outBytes (4 * off + 4) })

/-- APPEND_KV of the next pages of a slot: the first reserved entries of its page list become committed (R286). -/
def appendPages (s : State) (x : Slot) : Nat → Nat → State
  | 0, _ => s
  | fuel + 1, pages =>
    let (h, o) := kvList x
    match (List.range 4096).find? (fun k => s.peekNat h (o + 0x100 + 8 * k) 1 % 4 == 3) with
    | none => s
    | some k =>
      if pages = 0 then s
      else
        let a := o + 0x100 + 8 * k
        appendPages (s.writeAlloc h a (leBytes 8 (s.peekNat h a 8 - 2))) x fuel (pages - 1)

/-- update_spec (R296) on the spec field: what it becomes, and whether the width was halved. -/
def specUpdate (spec n a : Nat) : Nat × Bool :=
  let width := bits spec 6 0
  let wmax := bits spec 14 8
  if width = 0 then
    if n = 0 then (withBits spec 32 28 (bits spec 32 28 - 1), false)
    else
      let spec := if 0 < a then withBits (withBits spec 6 0 1) 26 24 0 else spec
      (withBits spec 32 28 31, false)
  else if n = 0 then (spec, false)
  else if a = 0 then
    let z := bits spec 23 20 + 1
    let spec := withBits spec 26 24 0
    if z = 8 then (withBits (withBits spec 23 20 0) 6 0 (width / 2), true) else (withBits spec 23 20 z, false)
  else
    let g := bits spec 26 24 + 1
    let spec := withBits spec 23 20 0
    if g = 4 then (withBits (withBits spec 26 24 0) 6 0 (min wmax (2 * width)), false) else (withBits spec 26 24 g, false)

/-- A report that disagrees with its ledger or holds a reserved byte not 0 (R297). -/
def reportBad (rep : List Byte) (tokens : Nat) : Bool :=
  decide (fieldAt rep 0 1 + 1 ≠ tokens) || !zerosAt rep 0x13 109 || !zerosAt rep 0x1C0 1600

/-- What the close of a ledger seam makes of the pass's report: speculation, exits and fills, the proposal, and buf inverted
(R296, R297, R299, R300). A ledger without tokens has no report to compare. Each exit byte but 0xFF makes a fill row, whose two bits of exit
point are the byte's lowest. -/
def takeReport (s : State) (n : Nat) (e : Ledger) (decode : Bool) : State :=
  match s.slot? n with
  | none => s
  | some x =>
    let (h, o) := kvList x
    let buf := bits x.spec.toNat 33 33
    let rep := s.peek h (o + 0x8800 + buf * 0x800) 0x800
    let k := e.tokens.length
    let bad := decide (k ≠ 0) && reportBad rep k
    let a := k - 1
    let s := if bad then s.bump Reg.SERVING_SPEC_BADTREE else s
    let nodes := s.treeNodes x
    let standing := bits x.exit.toNat 3 0
    let (spec, halved) := if decode then specUpdate x.spec.toNat nodes a else (x.spec.toNat, false)
    let spec := withBits spec 33 33 (1 - buf)
    let s := if halved then s.bump Reg.SERVING_SPEC_NARROWED else s
    let exits : List (Nat × Nat) := if bad ∨ decode = false then [] else
      (List.range (a + 1)).filterMap (fun j => let v := fieldAt rep (9 + j) 1; if v = 0xFF then none else some ((x.position + j) % 65536, v % 4))
    let s := if decode then
      (((s.bump Reg.SERVING_SPEC_NODES nodes).bump Reg.SERVING_SPEC_ACCEPTED a).bump Reg.SERVING_EXIT_ROWS exits.length).bump
        Reg.SERVING_EXIT_FILLED standing else s
    let count := bits x.exit.toNat 35 4 + exits.length
    let s := s.updSlot n (fun x => { x with
      spec := BitVec.ofNat 64 spec
      exit := if decode then BitVec.ofNat 64 (withBits exits.length 35 4 count) else x.exit
      proposal := if k = 0 then x.proposal else some (if bad then 2 else buf) })
    if decode then
      s.writeAlloc h (o + 0x30) ((List.range 9).flatMap (fun i => match exits[i]? with
        | some w => leBytes 4 (w.1 + w.2 * 2 ^ 16 + 2 ^ 31)
        | none => leBytes 4 0))
    else s

/-- A TOKENS message (Table 15.8). -/
def tokensMsg (s : State) (r : Req) (e : Ledger) : State :=
  if r.stream ∧ e.tokens ≠ [] then
    s.sendHost r.part 0x8012 (leBytes 8 r.id ++ leBytes 2 e.firstPos ++ leBytes 1 e.tokens.length ++ leBytes 1 0 ++
      (List.range 9).flatMap (fun i => leBytes 4 (e.tokens.getD i 0).toNat))
  else s

/-- The copy to a finished predecessor's dependents, in ascending slot order (R272). -/
def copyDependents (s : State) (r : Req) : State :=
  let deps := (s.serving.reqs.filter (fun d => d.predId == r.id && !d.predDone)).mergeSort
    (fun a b => decide (a.slot.getD 8192 ≤ b.slot.getD 8192))
  deps.foldl (fun s d =>
    let k := min (min r.outputLen d.inputLen) 65536
    let s := s.writeAlloc d.inHandle (16 * d.inOff) (s.peek r.outHandle (16 * r.outOff) k)
    s.updReq d.id (fun d => { d with predDone := true })) s

/-- Measured figures of a model after a commit (R279). -/
def measure (s : State) (m : Nat) (decode : Bool) (tokens : Nat) : State :=
  if !decode then s
  else
    let t : Int := s.tplX16 m
    { s with serving := { s.serving with tpl := Tab.set s.serving.tpl m (t + (16 * (tokens : Int) - t).tdiv 64).toNat } }
/-- pass_legs_x16 of a model at a single-pass retirement (R279). -/
def measurePass (s : State) (m legs : Nat) : State :=
  let t : Int := s.passLegsX16 m
  { s with serving := { s.serving with passLegs := Tab.set s.serving.passLegs m (t + (16 * (legs : Int) - t).tdiv 16).toNat } }

/-- A ledger entry's key is in place: its first token's position has been delivered, or the slot holds another request. One without tokens has
no key (R242, R246). -/
def ledgerInPlace (s : State) (n : Nat) (e : Ledger) : Bool :=
  !e.tokens.isEmpty && (match s.slot? n with
    | none => true
    | some x => decide (x.reqId ≠ e.reqId) || decide (e.firstPos < x.promptLen + x.generated))

/-- Commits one ledger entry (R246, R253, R287): its effects, or already-complete. -/
def commitLedger (s : State) (n : Nat) (e : Ledger) : State :=
  let s := { s with serving := { s.serving with ledger := Tab.erase s.serving.ledger n } }
  if s.ledgerInPlace n e then s.bump Reg.SEAM_ALREADY
  else match s.slot? n, s.req? e.reqId with
  | some x, some r =>
    let s := s.bump Reg.SEAM_CLOSED
    let decode := slotGen x && prefillDone x
    let s := (e.tokens.zip (List.range e.tokens.length)).foldl (fun s (t, i) => s.deliver r n (e.firstPos + i) t) s
    let s := s.tokensMsg r e
    let s := if slotGen x then s.appendPages x (e.pages + 1) e.pages else s
    let s := { s with serving := { s.serving with used := Tab.put 0 s.serving.used x.tenant (s.tenantUsed x.tenant + e.charge) } }
    let s := if slotGen x then s.takeReport n e decode else s
    let pos := (x.position + (if decode then e.tokens.length else e.charge - e.tokens.length)) % 65536
    let s := s.updSlot n (fun x => { x with
      position := pos, cursor := 0, faultRun := 0
      flags := if r.promptLen ≤ pos then withBits x.flags 5 5 1 else x.flags
      estRows := r.promptLen - pos + (if r.generate then r.maxNew - x.generated else 0) })
    let s := s.measure r.model decode e.tokens.length
    let gen := ((s.slot? n).getD {}).generated
    let done := e.retireDone || !r.generate || (decide (r.promptLen ≤ pos) && decide (r.maxNew ≤ gen))
    if !done then s
    else
      let s := if r.generate then s else s.measurePass r.model (s.legCount - r.firstPlaced.getD s.legCount)
      let s := (s.unpickOwned n r.id 0x11).retire r stDone 0 0
      s.copyDependents r
  | _, _ => s.bump Reg.SEAM_CLOSED

/-- The ledger entries of step 2, in ascending slot order (R253); one whose slot a general seam holds waits for it (R243). -/
def commitLedgers (s : State) : State :=
  s.serving.ledger.foldl (fun s (n, e) => if s.slotHeld n then s else s.commitLedger n e) s

/-! Step 3. -/

/-- The answer to a CANCEL (Table 15.8): 1 closed, 2 already-complete. -/
def cancelAnswer (s : State) (c : Cancel) (answer : Nat) : State :=
  if 32 ≤ c.set then s
  else s.sendHost c.set 0x8013 (leBytes 8 c.reqId ++ leBytes 1 answer ++ leBytes 3 0 ++ leBytes 4 c.seqNo)

/-- One cancellation (R280, R281); a second one of the same request in the leg is answered as the first. -/
def doCancel (s : State) (c : Cancel) (seen : Tab Nat) : State × Tab Nat :=
  match Tab.find? seen c.reqId with
  | some a => (s.cancelAnswer c a, seen)
  | none =>
    let live : Bool := match s.req? c.reqId with | some r => decide (32 ≤ c.set) || r.part == c.set | none => false
    if live then
      ((s.endRequest c.reqId stCancelled 0 0 0x11).cancelAnswer c 1, Tab.set seen c.reqId 1)
    else ((s.bump Reg.SEAM_ALREADY).cancelAnswer c 2, Tab.set seen c.reqId 2)

/-- A hard deadline is at or before this milestone (R273). -/
def deadlinePassed (s : State) (r : Req) : Bool :=
  r.hard && decide (r.deadlineLeg ≠ noDeadline) && decide (sdiff32 r.deadlineLeg s.legCount ≤ 0)

/-- The deadline test of one live request (R273). -/
def testDeadline (s : State) (id : Nat) : State :=
  match s.req? id with
  | none => s
  | some r =>
    if r.deadlineLeg = noDeadline then s
    else
      let left := sdiff32 r.deadlineLeg s.legCount
      if r.hard then
        if left ≤ 0 then s.endRequest id stMissed 0 0 0x11
        else if r.queued ∧ left < s.waitFor r.part (s.rowsAhead r) + s.predRun r + s.runLegs r then
          s.endRequest id stMissed 0 0 0x11
        else s
      else if left < 0 then
        let s := match r.slot with
          | some n => s.updSlot n (fun x => { x with lateLegs := min 255 (x.lateLegs + 1) })
          | none => s
        s.bump (Reg.SERVING_PART_LATE r.part)
      else s

/-- What the aborts of the ending leg have left to change in the slots (R203, R264). -/
def applyCuts (s : State) : State :=
  let l := s.serving.cuts
  l.foldl (fun s (c : Cut) => match s.slot? c.slot with
    | none => s
    | some x => if x.reqId ≠ c.reqId then s else s.updSlot c.slot (fun x => { x with
        cursor := min x.cursor c.cursor, faultRun := if c.fault then min 3 (x.faultRun + 1) else x.faultRun }))
    ({ s with serving := { s.serving with cuts := [] } } : State)

/-- Ends that could not be brought about before are asked for again (log entry 44). -/
def againEndings (s : State) : State :=
  let l := s.serving.ending
  l.foldl (fun s (e : Ending) => s.endRequest e.reqId e.status e.cls e.cause e.code) ({ s with serving := { s.serving with ending := [] } } : State)

/-- Step 3 (R57, R273, R280): cancellations in the order read, disablements, deadlines, endings for want of a predecessor; a request that an
earlier one of these has ended meets the later ones already-complete. -/
def stepThree (s : State) : State :=
  let s := s.applyCuts.againEndings
  let live := s.serving.reqs
  let failed := (s.serving.depEnds.filter (fun d => !d.2)).map (·.1)
  let cs := s.serving.cancels
  let s := { s with serving := { s.serving with cancels := [], depEnds := [] } }
  let (s, _) := cs.foldl (fun (s, seen) c => s.doCancel c seen) (s, ([] : Tab Nat))
  let s := s.unpickAll 0x12 (fun _ x => x.submitter != 0 && s.seamOff x)
  let s := (live.filter (fun r => !s.reqUsable r)).foldl (fun s r => s.endRequest r.id stDisabled 0 0 0x12) s
  let s := live.foldl (fun s r => if s.deadlinePassed r ∧ (s.req? r.id).isNone = true then s.bump Reg.SEAM_ALREADY else s.testDeadline r.id) s
  (live.filter (fun r => failed.contains r.predId)).foldl (fun s r => s.endRequest r.id stDepFailed 0 0 0x11) s

end State

end Sys2Proof.Machine
end

