-- ==== Sys2Proof/Machine/Press.lean ====
section
/-!
DEFINITION. Pressing (R156 to R161): the checks of Table 5.9, the quiet test, the commit and the load.
-/
namespace Sys2Proof.Machine

/-! Press statuses (Table 9.8). -/
/-- PRESS_BAD_IMAGE. -/ abbrev prBadImage : Nat := 0x20
/-- PRESS_PLACEMENT. -/ abbrev prPlacement : Nat := 0x21
/-- PRESS_ACC_TILES. -/ abbrev prAccTiles : Nat := 0x22
/-- PRESS_SHARE. -/ abbrev prShare : Nat := 0x23
/-- PRESS_CHANNEL_CONFLICT. -/ abbrev prConflict : Nat := 0x24
/-- PRESS_NO_COUNTERS. -/ abbrev prCounters : Nat := 0x25
/-- PRESS_BUSY. -/ abbrev prBusy : Nat := 0x26
/-- PRESS_NOT_QUIET. -/ abbrev prNotQuiet : Nat := 0x27

/-- Hardware queue depth of a network: 0 vector, 1 scalar, 2 control (Table 5.1). -/
def queueDepth (net : Nat) : Nat := if net = 0 then 16 else if net = 1 then 32 else 64
/-- Bytes of an extension entry (R144). -/
def extBytes (net : Nat) : Nat := if net = 0 then 64 else if net = 1 then 8 else 2
/-- Capacity of an input channel by its configuration (Table 5.3). -/
def chanCap (cfg : Nat) : Nat := bits cfg 30 22 + 1

/-- A route entry of image core (x, y) of a W × H rectangle breaks a rule of Table 5.2 or Table 5.9. -/
def routeBad (net x y w h e : Nat) : Bool :=
  let m := bits e 30 22
  let out (i : Nat) (ok : Bool) : Bool := bit m i && !ok
  bits e 7 0 != 0 || (bit e 31 && (
    out 1 (decide (1 ≤ y)) || out 2 (decide (x + 1 < w)) || out 3 (decide (y + 1 < h)) || out 4 (decide (1 ≤ x)) ||
    (if net = 0 then out 5 (decide (4 ≤ y)) || out 6 (decide (x + 4 < w)) || out 7 (decide (y + 4 < h)) || out 8 (decide (4 ≤ x))
     else bits m 8 5 != 0) ||
    (bit e 15 && net != 1) || (!bit e 15 && decide (16 ≤ bits e 13 8))))

/-- An input channel configuration is out of range (Table 5.3). -/
def inputBad (net cfg : Nat) : Bool :=
  bits cfg 5 0 != 0 || (bit cfg 31 && (decide (chanCap cfg < queueDepth net) || decide (512 < chanCap cfg)))

/-- A steering unit configuration is out of range (Table 5.4, Table 5.9). -/
def steerBad (cfg : Nat) : Bool :=
  let k := bits cfg 63 61
  decide (5 ≤ k) || bits cfg 58 56 != 0 || bits cfg 33 0 != 0 || (bit cfg 59 && bit cfg 60) ||
    (k != 3 && k != 4 && bits cfg 47 44 != 0) || (k != 2 && bits cfg 38 34 != 0)

/-- Extension region of an input channel, as byte offset and length within the share; empty for none. -/
def extRegion (net cfg : Nat) : Nat × Nat :=
  if bit cfg 31 ∧ queueDepth net < chanCap cfg then (bits cfg 21 6 * 64, (chanCap cfg - queueDepth net) * extBytes net) else (0, 0)

/-- Two non-empty regions overlap. -/
def regionsMeet (a b : Nat × Nat) : Bool :=
  decide (0 < a.2) && decide (0 < b.2) && decide (a.1 < b.1 + b.2) && decide (b.1 < a.1 + a.2)

/-- Some two of a list of regions overlap. -/
def someMeet : List (Nat × Nat) → Bool
  | [] => false
  | a :: t => t.any (regionsMeet a) || someMeet t

namespace State

/-! Reading an image in an allocation (Tables 5.7, 5.8). -/

/-- w of an image. -/
def imgW (s : State) (h : Nat) : Nat := bits (s.peekNat h 0x16 1) 2 0 + 1
/-- h of an image. -/
def imgH (s : State) (h : Nat) : Nat := bits (s.peekNat h 0x16 1) 6 4 + 1

/-- Offsets of the core records of an image, in image order (R153, R156). -/
def recordOffsets (s : State) (h : Nat) : List Nat :=
  ((List.range (16 * s.imgW h * s.imgH h)).foldl (fun (acc : List Nat × Nat) _ =>
    (acc.1 ++ [acc.2], acc.2 + s.peekNat h (acc.2 + 4) 4)) ([], s.peekNat h 0x24 4)).1

/-- Input configuration `j` (network × 16 + channel) of the record at `o`. -/
def recInput (s : State) (h o j : Nat) : Nat := s.peekNat h (o + 0x310 + 4 * j) 4
/-- Output configuration `j` of the record at `o`. -/
def recOutput (s : State) (h o j : Nat) : Nat := s.peekNat h (o + 0x3D0 + 4 * j) 4

/-- A core record breaks a rule of PRESS_BAD_IMAGE. -/
def recordBad (s : State) (h o i : Nat) : Bool :=
  let w := 4 * s.imgW h
  let n := s.peekNat h o 2
  n == 0 || decide (4096 < n) || s.peekNat h (o + 2) 2 != 0 || s.peekNat h (o + 8) 8 != 0 || s.peekNat h (o + 0x5B8) 8 != 0 ||
    s.peekNat h (o + 4) 4 != (0x5C0 + 8 * n + 63) / 64 * 64 ||
    (List.range 192).any (fun j => routeBad (j / 64) (i % w) (i / w) w (4 * s.imgH h) (s.peekNat h (o + 0x10 + 4 * j) 4)) ||
    (List.range 48).any (fun j => inputBad (j / 16) (s.recInput h o j) || bits (s.recOutput h o j) 30 6 != 0) ||
    (List.range 4).any (fun j => steerBad (s.peekNat h (o + 0x490 + 8 * j) 8))

/-- Versions under which the section lists of an object's model register it (R156, R327). -/
def registered (s : State) (m obj : Nat) : List Nat :=
  [8, 0x10].flatMap (fun o =>
    match s.objectHandle (s.ent 4 m o 4) (s.ent 4 m (o + 4) 4) with
    | none => []
    | some l => (List.range (s.peekNat l 4 1)).filterMap (fun i =>
        if s.peekNat l (16 + 8 * i) 4 = obj then some (s.peekNat l (20 + 8 * i) 4) else none))

/-- An image's object is not at the version its registration gives (R156); one that no section list names has none to differ from (log
entry 133). -/
def versionBad (s : State) (h : Nat) (o v : Nat) : Bool :=
  let l := s.registered (bits (s.peekNat h 6 2) 9 0) o
  !l.isEmpty && !l.contains v

/-- PRESS_BAD_IMAGE of an image (Table 5.9). -/
def imageBad (s : State) (h : Nat) : Bool :=
  match s.alloc? h with
  | none => true
  | some a =>
    let f := s.peekNat h
    (match a.published with | some (o, v) => s.versionBad h o v | none => true) || f 0 4 != 0x54415047 || f 4 1 != 1 || f 5 1 != 0 || bits (f 6 2) 15 10 != 0 || f 0x10 4 % 64 != 0 ||
      decide (a.size < f 0x10 4) || f 0x15 1 == 0 || decide (f 0x15 1 ≤ f 0x14 1) || bit (f 0x16 1) 3 || bit (f 0x16 1) 7 ||
      decide (2 ≤ f 0x17 1) || decide (48 < f 0x1D 1) || decide (128 < f 0x1E 2) || f 0x24 4 % 64 != 0 ||
      f 0x28 4 == 0 || decide (80000 < f 0x28 4) || f 0x2C 4 != 0 || !zerosAt (s.peek h 0x50 48) 0 48 ||
      (List.range (f 0x1E 2)).any (fun i => decide (4096 ≤ f (f 0x20 4 + 2 * i) 2)) ||
      ((s.recordOffsets h).zip (List.range (16 * s.imgW h * s.imgH h))).any (fun (o, i) => s.recordBad h o i)

/-- The share a press at an origin is made under: that of the context forming or resident there, in granules. -/
def pressShare (s : State) (p slot origin : Nat) : Nat × Nat :=
  match firstFrom (fun c => s.ctxState c != 0 && s.ctxPart c == p && s.ctxSlot c == slot && s.ctxOrigin c == origin) 0 64 with
  | none => (0, 0)
  | some c => ((s.ctx c).shareBase, (s.ctx c).shareSize)

/-- A channel, pair or extension of a record is in conflict with another valid slot of the core (Table 5.9). -/
def recordConflict (s : State) (h o c slot : Nat) : Bool :=
  let others := (List.range 4).filter (fun i => i != slot && s.slotValid c i)
  others.any (fun i =>
    let g := s.slotImg c i
    (List.range 48).any (fun j =>
      (bit (s.recInput h o j) 31 && bit (Tab.get 0 g.inputs j).toNat 31) ||
      (bit (s.recOutput h o j) 31 && bit (Tab.get 0 g.outputs j).toNat 31))) ||
  (List.range 64).any (fun n => bit (s.peekNat h (o + 0x4B0) 8) n && (match s.semOwner c n with
    | some i => i != slot && s.slotValid c i
    | none => false)) ||
  someMeet ((List.range 48).map (fun j => extRegion (j / 16) (s.recInput h o j)))

/-- The first check of Table 5.9 that a press fails; 0 if it passes all. `opened` are the presses open before it. -/
def pressStatus (s : State) (p slot origin h : Nat) (opened : List Act) : Nat :=
  if s.imageBad h then prBadImage
  else
    let w := s.imgW h
    let ht := s.imgH h
    let ds := rectDistricts origin w ht
    let (base, size) := s.pressShare p slot origin
    let recs := (s.recordOffsets h).zip (rectCores origin w ht)
    if ds.length ≠ w * ht ∨ ds.any (fun d => !bit (s.partDistricts p) d) then prPlacement
    else if s.peekNat h 0x1C 1 = 0 ∨ 8 < s.peekNat h 0x1C 1 then prAccTiles
    else if size < s.peekNat h 0x1D 1 ∨ recs.any (fun (o, _) => (List.range 48).any (fun j =>
        let r := extRegion (j / 16) (s.recInput h o j)
        decide (0 < r.2) && (decide (size * 65536 < r.1 + r.2) || decide (0x2FFC00 < base * 65536 + r.1 + r.2)))) then prShare
    else if recs.any (fun (o, c) => s.recordConflict h o c slot) then prConflict
    else if (List.range (s.peekNat h 0x1E 2)).any (fun i =>
        s.ent 8 (s.peekNat h (s.peekNat h 0x20 4 + 2 * i) 2) 0 1 != 0x80 + p) then prCounters
    else if opened.any (fun x => x.slot == slot && (rectDistricts x.origin (s.imgW x.handle) (s.imgH x.handle)).any ds.contains) then prBusy
    else 0

/-- The slot is quiet in a district (R158). -/
def quiet (s : State) (d slot : Nat) : Bool :=
  s.distState d == 6 ||
  (!(coresOf (1 <<< d)).any (fun c =>
      let k := s.core c
      (s.coreState c == 1 && s.activeSlot c == slot) || k.queues.any (fun q => q.2.any (fun e => e.slot == slot)) ||
        k.descs.any (fun x => x.slot == slot)) &&
    !s.net.flight.any (fun f => f.entry.slot == slot && districtOf f.core == d))

/-- Sets the stored state of a district: idle or one of the wring states; the rest is seen from its cores and presses
(Table 5.13). -/
def setDistState (s : State) (d v : Nat) : State := s.setFld (Reg.SERVING_DIST_STATUS d) 2 0 v

/-- The commit cycle of a press: the epoch advances and slot_valid is cleared in every target core (R150, R159). -/
def pressCommit (s : State) (w : Press) : State :=
  let ds := rectDistricts w.origin (s.imgW w.image) (s.imgH w.image)
  let s := ds.foldl (fun s d => (s.advanceEpoch d w.slot false).bump (Reg.SERVING_DIST_PRESSES d)) s
  (rectCores w.origin (s.imgW w.image) (s.imgH w.image)).foldl (fun s c => s.setSlotValid c w.slot false) s

/-- Core record at `o` of image `h`, as a slot holds it. -/
def loadRecord (s : State) (h o : Nat) : SlotImg :=
  let n := s.peekNat h o 2
  let words (o n : Nat) : Tab W32 := (List.range n).foldl (fun t i => Tab.put 0 t i (BitVec.ofNat 32 (s.peekNat h (o + 4 * i) 4))) []
  { stochastic := bit (s.peekNat h 0x17 1) 0, instrCount := n
    counters := (List.range (s.peekNat h 0x1E 2)).map (fun i => s.peekNat h (s.peekNat h 0x20 4 + 2 * i) 2)
    instrs := (List.range n).foldl (fun t i => Tab.put 0 t i (BitVec.ofNat 64 (s.peekNat h (o + 0x5C0 + 8 * i) 8))) []
    routes := words (o + 0x10) 192, inputs := words (o + 0x310) 48, outputs := words (o + 0x3D0) 48
    steer := (List.range 4).foldl (fun t i => Tab.put 0 t i (BitVec.ofNat 64 (s.peekNat h (o + 0x490 + 8 * i) 8))) []
    initial := words (o + 0x4B8) 64 }

/-- Releases the channels and pairs a slot owns in a core; its image goes with them. -/
def clearSlot (s : State) (c slot : Nat) : State :=
  let s := (s.setSlotValid c slot false).updCore c (fun k => { k with slots := Tab.erase k.slots slot })
  let s := (List.range 64).foldl (fun s n => if s.semOwner c n = some slot then s.setSemOwner c n none else s) s
  s.wr (Reg.CORE_SHARE0 c + 4 * slot) 0

/-- The end of a load in one core: image, share, pairs at their initial counts, trackers zeroed, rounding register seeded,
slot_valid set (R122, R124, R159). -/
def loadCore (s : State) (h o c slot base size : Nat) : State :=
  let s := s.clearSlot c slot
  let img := s.loadRecord h o
  let seed := BitVec.ofNat 32 (s.peekNat h 0x18 4 ^^^ c)
  let s := s.updCore c (fun k => { k with
    slots := Tab.set k.slots slot img
    lfsr := if seed = 0 then 1 else seed
    amax := k.amax.filter (fun x => decide (x.1 / 8 ≠ slot)) })
  let s := (List.range 64).foldl (fun s n =>
    if bit (s.peekNat h (o + 0x4B0) 8) n then
      (s.setSemOwner c n (some slot)).setReg (Reg.CORE_SEM c n) (Tab.get 0 img.initial n)
    else s) s
  (s.wr (Reg.CORE_SHARE0 c + 4 * slot) (size * 256 + base)).setSlotValid c slot true

/-- The load of a press ends well in every target core (R159, step 5). -/
def pressLoaded (s : State) (w : Press) : State :=
  let (base, size) := s.pressShare w.part w.slot w.origin
  let s := ((s.recordOffsets w.image).zip (rectCores w.origin (s.imgW w.image) (s.imgH w.image))).foldl (fun s (o, c) =>
    s.loadCore w.image o c w.slot base size) s
  (rectDistricts w.origin (s.imgW w.image) (s.imgH w.image)).foldl (fun s d => s.setDistState d 0) s

end State

end Sys2Proof.Machine
end

