-- ==== Sys2Proof/Machine/Tables.lean ====
section
/-!
DEFINITION. The tables reached by WRITE_ENTRY (Table 9.4): the check of a staged entry against its format, and what a
committed entry does (R249, R250, R274, R301, R306, R325, R326, R328, R362).
-/
namespace Sys2Proof.Machine

/-! Seam status codes used here (Table 9.8). -/
/-- SEAM_BAD_ACTION. -/ abbrev smBadAction : Nat := 0x16
/-- SEAM_TARGET. -/ abbrev smTarget : Nat := 0x17
/-- SEAM_NO_ROOM. -/ abbrev smNoRoom : Nat := 0x18

/-- Entry size of a table, in units of 16 B. -/
def entryUnits (t : Nat) : Nat := [0, 4, 1, 2, 4, 10, 1, 4, 1].getD t 0
/-- Entries of a table. -/
def tableSize (t : Nat) : Nat := [0, 8192, 4096, 65536, 1024, 131072, 4352, 32, 4096].getD t 0

/-- `n` bytes at offset `o` of an entry given as a number. -/
def entAt (v o n : Nat) : Nat := v / 2 ^ (8 * o) % 2 ^ (8 * n)

/-- Plan table entry (Table 6.7): a reserved field is not 0, a bucket above the section's parts, or a fallback bit of an
invalid bucket. -/
def planBad (v : Nat) : Bool :=
  entAt v 0x11 3 != 0 || bits (entAt v 0x14 4) 31 17 != 0 || entAt v 0x3C 4 != 0 ||
    (List.range 17).any (fun b => bit (entAt v 0x14 4) b && !bit (entAt v b 1) 3)
/-- Tenant entry (Table 10.5). -/
def tenantBad (v : Nat) : Bool := bits (entAt v 4 1) 7 2 != 0 || bits (entAt v 5 1) 6 5 != 0 || entAt v 6 10 != 0
/-- Patch entry (Table 11.7). -/
def patchBad (v : Nat) : Bool :=
  bits (entAt v 0 1) 7 3 != 0 || bits (entAt v 1 1) 6 5 != 0 || bits (entAt v 2 2) 15 10 != 0 || bits (entAt v 4 2) 15 12 != 0 ||
    decide (8 < entAt v 6 1) || entAt v 7 1 != 0 || bits (entAt v 0x10 4) 31 20 != 0 || entAt v 0x1C 4 != 0
/-- Catalog entry (Table 13.3). -/
def catalogBad (i v : Nat) : Bool :=
  bits (entAt v 0 1) 7 3 != 0 || bit (entAt v 1 1) 3 || bit (entAt v 1 1) 7 || entAt v 2 2 != i || entAt v 0x20 1 == 0 ||
    decide (47 < entAt v 0x21 1) || decide (48 < entAt v 0x21 1 + entAt v 0x22 1) || bits (entAt v 0x23 1) 7 4 != 0 ||
    entAt v 0x24 2 == 0 || entAt v 0x38 8 != 0
/-- Expert placement entry (Table 12.1, R306). -/
def expertBad (v : Nat) : Bool :=
  let n := entAt v 1 1
  let word (e : Nat) : Nat := entAt v (0x10 + 2 * e) 2
  bits (entAt v 0 1) 7 2 != 0 || n == 0 || decide (64 < n) || entAt v 2 1 == 0 || decide (4 < entAt v 2 1) ||
    (entAt v 3 1 != 5 && entAt v 3 1 != 7) || entAt v 4 2 == 0 || decide (4096 < entAt v 4 2) || entAt v 6 1 == 0 ||
    (entAt v 7 1 != 7 && entAt v 7 1 != 8) || entAt v 0x90 16 != 0 || (List.range 64).any (fun e => bits (word e) 13 12 != 0) ||
    (List.range 64).any (fun e => bit (word e) 15 &&
      decide (4 < ((List.range 64).filter (fun g => bit (word g) 15 && bits (word g) 11 0 == bits (word e) 11 0)).length))
/-- Routing entry (Table 14.7). -/
def routingBad (i v : Nat) : Bool :=
  if i < 4096 then
    bits (entAt v 0 1) 7 3 != 0 || bits (entAt v 1 1) 6 4 != 0 || bits (entAt v 2 1) 6 4 != 0 || decide (2 ≤ entAt v 3 1) ||
      entAt v 4 12 != 0
  else bits (entAt v 0 1) 7 2 != 0 || bits (entAt v 1 1) 6 4 != 0 || bits (entAt v 4 2) 15 12 != 0 || entAt v 6 10 != 0
/-- Partition entry (Table 13.2). -/
def partitionBad (v : Nat) : Bool :=
  bits (entAt v 0 1) 7 2 != 0 || bits (entAt v 1 1) 7 3 != 0 || decide (4 < entAt v 1 1) || bits (entAt v 2 1) 7 3 != 0 ||
    bits (entAt v 2 1) 1 0 == 3 || bits (entAt v 4 2) 15 14 != 0 || decide (8192 < entAt v 4 2) || entAt v 6 1 == 0 ||
    bits (entAt v 0x10 4) 31 25 != 0 || entAt v 0x15 1 != 0 || bit (entAt v 0x16 2) 15 || entAt v 0x16 2 == 0 ||
    decide (16384 < entAt v 0x16 2) || entAt v 0x1A 38 != 0
/-- Counter assignment entry (R326). -/
def counterBad (v : Nat) : Bool := bits (entAt v 0 1) 6 5 != 0 || entAt v 1 15 != 0

/-- The entry breaks its table's format (R249). -/
def entryBad (t i v : Nat) : Bool :=
  if t = 1 then planBad v else if t = 2 then tenantBad v else if t = 3 then patchBad v else if t = 4 then catalogBad i v
  else if t = 5 then expertBad v else if t = 6 then routingBad i v else if t = 7 then partitionBad v else counterBad v

namespace State

/-- The committed partition entry, which comes into force at the next step 4 (R324): its copy lies at index 64 + p. -/
def partCommitted (s : State) (p : Nat) : Nat := s.entry 7 (64 + p)
/-- The committed entries with one of them replaced. -/
def partsWith (s : State) (p v : Nat) : List Nat := (List.range 32).map (fun q => if q = p then v else s.partCommitted q)

/-- Resident contexts of a partition (states other than free). -/
def ctxsOf (s : State) (p : Nat) : List Nat := (List.range 64).filter (fun c => s.ctxState c != 0 && s.ctxPart c == p)

/-- Limits across the partition table that a write would break (R325, R290). -/
def partSumsBad (s : State) (p v : Nat) : Bool :=
  let all := (s.partsWith p v).filter (fun e => bit (entAt e 0 1) 0)
  let sum (f : Nat → Nat) : Nat := (all.map f).sum
  (List.range 64).any (fun d => decide (1 < (all.filter (fun e => bit (entAt e 8 8) d)).length)) ||
    decide (8192 < sum (fun e => entAt e 4 2)) || decide (s.largeGranules - 65536 < sum (fun e => entAt e 0x10 4)) ||
    decide (256 < sum (fun e => entAt e 0x14 1)) || decide (64 < sum (fun e => entAt e 1 1)) ||
    decide (4 < (all.filter (fun e => bits (entAt e 2 1) 1 0 == 2)).length)

/-- A district is in use: a slot of a core of it is valid, or a granule of a core of it is held by the tier block. -/
def districtBusy (s : State) (d : Nat) : Bool :=
  (coresOf (1 <<< d)).any (fun c => s.fld (Reg.CORE_STATUS c) 11 8 != 0 || !(s.tierHeld c).isEmpty)

/-- Status of a write to the partition table; 0 if it may be made (R325). -/
def partitionStatus (s : State) (p v : Nat) : Nat :=
  let old := s.partCommitted p
  let was : Nat := if bit (entAt old 0 1) 0 then entAt old 8 8 else 0
  let now : Nat := if bit (entAt v 0 1) 0 then entAt v 8 8 else 0
  let removed := (List.range 64).filter (fun d => bit was d && !bit now d)
  if s.partSumsBad p v then smBadAction
  else if removed.any s.districtBusy then smTarget
  else if bit (entAt old 0 1) 0 && !bit (entAt v 0 1) 0 && (!(s.ctxsOf p).isEmpty || s.serving.reqs.any (fun r => r.part == p) ||
      s.tier.allocs.any (fun x => x.2.part == p && !x.2.internal)) then smTarget
  else if bit (entAt v 0 1) 0 && (decide (entAt v 0x10 4 < s.tierUsed p) || decide (entAt v 0x10 4 < 1536)) then smNoRoom
  else 0

/-- A valid slot's counter list names the counter. -/
def counterListed (s : State) (n : Nat) : Bool :=
  s.cores.any (fun (c, k) => k.slots.any (fun (i, g) => s.slotValid c i && g.counters.contains n))

/-- Status of a write to the counter assignment table (R326). -/
def counterStatus (s : State) (n v : Nat) : Nat :=
  let old := s.ent 8 n 0 1
  let owned (p : Nat) : Nat := ((List.range 4096).filter (fun i => i != n && s.ent 8 i 0 1 == 0x80 + p)).length
  if bit (entAt v 0 1) 7 ∧ 128 ≤ owned (bits (entAt v 0 1) 4 0) then smBadAction
  else if entAt v 0 1 ≠ old ∧ (bit (s.rd (Reg.SERVING_CTR_CFG n)) 31 ∨ s.counterListed n = true) then smTarget
  else 0

/-- Status of a write to the patch table: the objects it names are published, and of the entry's model by their headers (R301,
Tables 11.8 and 12.6). -/
def patchStatus (s : State) (v : Nat) : Nat :=
  let bad (o ver off : Nat) : Bool := match s.objectHandle o ver with
    | none => true
    | some h => bits (s.peekNat h off 2) 9 0 != entAt v 2 2
  if bad (entAt v 8 4) (entAt v 0xC 4) 6 || (entAt v 0x14 4 != 0 && bad (entAt v 0x14 4) (entAt v 0x18 4) 4) then smTarget
  else 0

/-- Status of a write to the catalog (R328). -/
def catalogStatus (s : State) (m v : Nat) : Nat :=
  let old := s.entry 4 m
  let fixed (e : Nat) : List Nat := [entAt e 8 8, entAt e 0x10 8, entAt e 0x18 8, entAt e 1 1, entAt e 0x20 1, entAt e 0x21 1, entAt e 0x22 1]
  if (List.range 64).any (fun c => s.ctxState c != 0 && s.ctxModel c == m) && fixed old != fixed v then smTarget else 0

/-- A virtual function's right to an entry (R250, R274, R301). -/
def vfEntryOk (s : State) (p t i v : Nat) : Bool :=
  let within (e : Nat) : Bool := decide (entAt e 4 4 ||| 2 ^ p = 2 ^ p)
  if t = 2 then entAt (s.entry 2 i) 5 1 == 0x80 + p && entAt v 5 1 == 0x80 + p
  else if t = 3 then entAt (s.entry 3 i) 1 1 == 0x80 + p && entAt v 1 1 == 0x80 + p
  else if t = 4 then within (s.entry 4 i) && within v
  else if t = 5 then within (s.entry 4 (i / 128))
  else false

/-- Status of a WRITE_ENTRY of value `v`, checked as it is prepared; `vf` is the partition of a virtual function's
submission. -/
def entryStatus (s : State) (t i v : Nat) (vf : Option Nat) : Nat :=
  if (match vf with | some p => !s.vfEntryOk p t i v | none => false) then smTarget
  else if entryBad t i v then smBadAction
  else if t = 3 then s.patchStatus v
  else if t = 4 then s.catalogStatus i v
  else if t = 7 then s.partitionStatus i v
  else if t = 8 then s.counterStatus i v
  else 0

/-- A committed entry takes effect. A partition's entry comes into force at the next step 4, with the wash of the
districts it adds before it commits; entering a model starts its figures at 16 (R279, R325, R327). A change of a tenant
or of the catalog applies from the next step 4 (R274, R328). -/
def applyEntry (s : State) (t i v : Nat) : State :=
  if t = 7 then
    let old := s.partCommitted i
    let was : Nat := if bit (entAt old 0 1) 0 then entAt old 8 8 else 0
    let now : Nat := if bit (entAt v 0 1) 0 then entAt v 8 8 else 0
    let s := (List.range 64).foldl (fun s d => if bit now d && !bit was d then s.owe (.washDistrict d) else s) s
    let s := if bit (entAt v 0 1) 0 then s else match Tab.find? s.serving.pools i with
      | some h => ({ s with serving := { s.serving with pools := Tab.erase s.serving.pools i } }).requestFree h
      | none => s
    let s := if bit (entAt old 0 1) 0 && !bit (entAt v 0 1) 0 then
        { s with enclave := { s.enclave with
          partGen := Tab.put 0 s.enclave.partGen i ((Tab.get 0 s.enclave.partGen i + 1) % 65536) } }
      else s
    s.setEntry 7 (64 + i) v
  else if t = 4 then
    let entered := bit (entAt v 0 1) 0 && !bit (entAt (s.entry 4 i) 0 1) 0
    let s := (s.keepEntry 4 i).setEntry 4 i v
    if entered then { s with serving := { s.serving with
        tpl := Tab.erase s.serving.tpl i, passLegs := Tab.erase s.serving.passLegs i } } else s
  else if t = 8 then
    (s.setEntry 8 i v).setFld (Reg.SERVING_CTR_CFG i) 28 24 (if bit (entAt v 0 1) 7 then bits (entAt v 0 1) 4 0 else 0)
  else if t = 5 then
    { s.setEntry 5 i v with expert := { s.expert with void := s.expert.void.filter (fun k => k / 64 != i) } }
  else if t = 2 then (s.keepEntry 2 i).setEntry 2 i v
  else s.setEntry t i v

/-- Copies a committed partition entry into the registers named by Table 13.2, in force from then on (R324). -/
def enforcePartition (s : State) (p v : Nat) : State :=
  let s := s.setEntry 7 p v
  let valid := bit (entAt v 0 1) 0
  let s := (s.setFld (Reg.SERVING_PART_CFG p) 13 0 (entAt v 4 2)).setFld (Reg.SERVING_PART_CFG p) 23 16 (entAt v 6 1)
  let s := (s.setFld (Reg.SERVING_PART_QCFG p) 14 0 (entAt v 0x16 2)).setFld (Reg.SERVING_PART_QCFG p) 31 16 (entAt v 0x18 2)
  let s := s.wr (Reg.SERVING_PREFIX_PART p) (bits (entAt v 2 1) 2 0)
  let s := s.setFld (Reg.SERVING_EXPERT_PART p) 7 0 (entAt v 3 1)
  let s := (s.setFld (Reg.TIER_QUOTA p) 24 0 (entAt v 0x10 4)).setFld (Reg.TIER_SHARE p) 7 0 (entAt v 0x14 1)
  let s := (s.wr (Reg.SERVING_PART_DIST_LO p) (entAt v 8 4)).wr (Reg.SERVING_PART_DIST_HI p) (entAt v 12 4)
  let s := ((s.setFld (Reg.SERVING_PART_STATE p) 0 0 (b2n valid)).setFld (Reg.SERVING_PART_STATE p) 1 1 (bits (entAt v 0 1) 1 1)).setFld
    (Reg.SERVING_PART_STATE p) 5 3 (entAt v 1 1)
  s

/-- Every committed partition entry comes into force: at the start, and before step 4 (R324). -/
def enforcePartitions (s : State) : State :=
  (List.range 32).foldl (fun s p => if s.entry 7 p = s.partCommitted p then s else s.enforcePartition p (s.partCommitted p)) s

/-- The partition entries committed before a milestone's instant, which firmware copies before its step 4 (R324). -/
def latchPartitions (s : State) : State :=
  { s with serving := { s.serving with
      partDue := (List.range 32).filterMap (fun p =>
        if s.entry 7 p = s.partCommitted p then none else some (p, (BitVec.ofNat 1280 (s.partCommitted p) : Entry))) } }

/-- What was committed comes into force at step 4 (R274, R324, R328). -/
def enforceEntries (s : State) : State :=
  let s := s.serving.partDue.foldl (fun (s : State) (x : Nat × Entry) => s.enforcePartition x.1 x.2.toNat) s
  { s with serving := { s.serving with replaced := [], partDue := [] } }

end State

end Sys2Proof.Machine
end

