-- ==== Sys2Proof/Machine/Seams.lean ====
section
/-!
DEFINITION. Seams (09): what each action's encoding, target, key test, check and effect are; opening, local preparation,
commit and the exchange across modules.
-/
namespace Sys2Proof.Machine

/-- Final statuses of a request that a RETIRE_SEQ may carry (Table 10.1). -/
def finalStatuses : List Nat := [1, 2, 3, 4, 5, 6, 0x12, 0x13]

/-- An encoding that ends a seam SEAM_BAD_ACTION (R248, R249, R251). -/
def actionBad (a : Action) : Bool :=
  let f := Seam.w0 a
  let g := Seam.w1 a
  let x := Act.of a
  f 59 56 != 0 ||
  (match x.kind with
   | 1 => f 9 0 != 0 || g 51 36 != 0 || (x.tier != 3 && g 63 52 != 0)
   | 2 => x.table == 0 || decide (8 < x.table) || f 34 32 != 0 || (!x.remote && x.node != 0) ||
      decide (tableSize x.table ≤ x.index) || g 7 0 != entryUnits x.table
   | 3 => f 9 0 != 0 || g 51 36 != 0
   | 4 => x.value == 0 || f 8 0 != 0 || g 63 0 != 0
   | 5 => f 37 0 != 0 || g 7 0 == 0 || decide ((if x.toNode then 125 else 127) < g 7 0)
   | 6 => f 22 0 != 0 || g 63 0 != 0
   | 7 => f 34 0 != 0 || !finalStatuses.contains x.status
   | 8 => false
   | 9 => f 26 0 != 0 || g 11 0 != 0 || x.position % 16 != 0
   | 10 => f 26 0 != 0 || g 63 32 != 0
   | 11 => f 43 0 != 0 || g 63 32 != 0
   | _ => true)

/-- A held target (Table 9.3): its kind and numbers, ordered as the targets of R243 are. -/
def actionTargets (s : State) (a : Action) : List (Nat × Nat × Nat) :=
  let x := Act.of a
  match x.kind with
  | 1 | 3 => [(1, x.handle, x.granule)]
  | 2 => if x.remote ∧ x.node ≠ s.node then [] else [(2, x.table, x.index)]
  | 6 => (rectDistricts x.origin (s.imgW x.handle) (s.imgH x.handle)).map (fun d => (3, d, x.slot))
  | 7 | 8 | 9 | 10 => [(4, x.slot, 0)]
  | _ => []

namespace State

/-- The node an action names as a participant, if it is not this module (R522). -/
def actionNode (s : State) (a : Action) : Option Nat :=
  let x := Act.of a
  let other : Bool := match x.kind with
    | 4 => true
    | 2 => x.remote
    | 1 => x.tier == 3
    | 3 => true
    | _ => false
  if other && x.node != s.node then some x.node else none

/-- The nodes a seam names as participants, each once, in order. -/
def seamNodes (s : State) (l : List Action) : List Nat := (l.filterMap s.actionNode).eraseDups

/-- The actions this module carries out: at a participant every one, but that the lender of a moved granule has nothing to
change; at a coordinator every one but a post or an entry that lies on another node. -/
def localActions (s : State) (x : Seam) : List Nat :=
  (List.range x.actions.length).filter (fun i =>
    let a := x.actions.getD i (0, 0)
    if x.submitter = 8 then Seam.kind a != 1 && Seam.kind a != 3 else (s.actionNode a).isNone || Seam.kind a == 1 || Seam.kind a == 3)

/-- The effect of a key is in place (Table 9.3). -/
def keyInPlace (s : State) (a : Action) : Bool :=
  let x := Act.of a
  match x.kind with
  | 1 => match s.alloc? x.handle with
    | none => false
    | some l => let e := l.entry x.granule
                e.state == 1 && e.tier == x.tier && e.location == x.location && (x.tier != 3 || e.node == x.node)
  | 3 => match s.alloc? x.handle with
    | none => false
    | some l =>
      let e := l.entry x.granule
      (if e.housed then (if e.tier = 3 then e.node else s.node) else l.homeNode.getD s.node) == x.node
  | 7 => match s.slot? x.slot with
    | none => true
    | some w => w.reqId != x.reqId
  | 8 => s.serving.slots.any (fun w => w.2.reqId == x.reqId)
  | 9 => match s.slot? x.slot with
    | none => false
    | some w => let (h, o) := kvList w
                let st := s.peekNat h (o + 0x100 + 8 * (x.position / 16)) 1 % 4
                st == 1 || st == 2
  | 10 => match s.slot? x.slot with
    | none => false
    | some w => decide (x.position < w.promptLen + w.generated)
  | _ => false

/-- The key of a seam is in place (R242). The handle of a move or flip in a participant's part is its coordinator's, so there it is not
(log entry 118). -/
def keyHeld (s : State) (x : Seam) : Bool :=
  let a := x.actions.headD (0, 0)
  !(x.submitter == 8 && (Seam.kind a == 1 || Seam.kind a == 3)) && s.keyInPlace a

/-- A staged range lies in an allocation of the scope (R249). -/
def stagedOk (s : State) (scope : Option Nat) (h off len : Nat) : Bool :=
  match s.alloc? h with
  | none => false
  | some a => decide (off + len ≤ a.size) && (match scope with | some p => a.part == p && !a.internal | none => true)

/-- Partition of a sequence slot that is not free. -/
def slotPart (s : State) (n : Nat) : Option Nat := (s.slot? n).map (·.part)
/-- A slot belongs to the scope. -/
def slotOk (s : State) (scope : Option Nat) (n : Nat) : Bool :=
  match s.slotPart n with
  | none => false
  | some p => match scope with | some q => p == q | none => true

/-- A location lies outside what Table 8.2 gives its tier on this module: a granule of a core, a run of the large tier below the directory,
a run of the store (R248). -/
def placeBad (s : State) (tier loc : Nat) : Bool :=
  if tier = 0 then decide (65536 ≤ loc) || decide (47 ≤ loc % 64)
  else if tier = 1 then decide (s.largeUsable * 128 < loc + 128)
  else if tier = 2 then decide (s.storeUsable * 128 < loc + 128)
  else false

/-- Lenders whose granules the module holds. -/
def lenders (s : State) : List Nat := (s.tier.borrowed.map (·.1)).eraseDups

/-- The module may hold a lent granule of a node: it does, or its bounds allow one more (R232). -/
def mayBorrow (s : State) (node loc : Nat) : Bool :=
  s.tier.borrowed.contains (node, loc) ||
    ((s.lenders.contains node || decide (s.lenders.length < 15)) && decide (s.borrowedTotal < 4194304))

/-- Room for a granule at a destination (SEAM_NO_ROOM). -/
def destFree (s : State) (a : Alloc) (tier node loc : Nat) : Bool :=
  if tier = 0 then (s.freeGranules (loc / 64 % 1024)).contains (loc % 64) &&
    (baseTier a.flags == 0 || (decide (0 < s.scratchRoom a.part) && decide (0 < s.coreRoom (loc / 64))))
  else if tier = 1 then s.runFree 1 loc && s.largeAllowed a
  else if tier = 2 then s.runFree 2 loc
  else s.mayBorrow node loc && (!s.tier.borrowed.contains (node, loc) || s.lentFree.contains (node, loc))

/-- Granules that the ready parts of other modules' seams are to borrow here, not lent yet (R232). -/
def lendsPending (s : State) : List Nat :=
  (s.seams.recs.flatMap (fun (_, x) => if x.submitter = 8 ∧ x.state = 3 then
    ((x.actions.map Act.of).filter (fun w => w.kind == 1 || w.kind == 3)).map (·.location / 128) else [])).filter (fun g =>
      (Tab.find? s.tier.lent g).isNone)

/-- A granule of the large tier may be lent to a node: it is that node's already; or it is a free washed granule, the node is a neighbour,
and lending is on and within its bounds, what else is about to be lent counted (R232, R233). -/
def mayLend (s : State) (node loc : Nat) (pending : List Nat) : Bool :=
  let c := s.rd Reg.TIER_LEND_CTRL
  match Tab.find? s.tier.lent (loc / 128) with
  | some n => n == node
  | none => decide (loc % 128 = 0) && decide (loc / 128 < min s.tier.washed s.largeUsable) && s.runFree 1 loc && !pending.contains (loc / 128) &&
      bit c 31 && bit (s.ent 6 node 0 1) 1 && decide (s.lentTotal + pending.length < bits c 15 0 * 256) &&
      decide (bits c 23 16 * 65536 + pending.length < s.largeFree)

/-- A granule of this module may become the home of a node's: of a published object's where it holds a replica, of any other as a lent
one (R232, R340). -/
def mayHome (s : State) (node loc : Nat) (pending : List Nat) : Bool :=
  s.tier.replicas.any (fun r => r.location == loc && (r.tier == 1 || r.tier == 2)) || s.mayLend node loc pending

/-- Status of one action as it is prepared, 0 if it can be: scope, target, entry and press checks (R213, R247 to R251,
R274, R301). `scope` is the partition of the submitter's scope, `vf` that of a virtual function, `opened` the presses open before it. -/
def actionStatus (s : State) (scope vf : Option Nat) (port : Bool) (opened : List Act) (a : Action) (staged : List Byte) : Nat :=
  let x := Act.of a
  let vfBad : Bool := vf.isSome && ([1, 3, 6, 8, 9, 10].contains x.kind || (x.kind == 2 && (x.remote || [1, 6, 7, 8].contains x.table)))
  let portBad : Bool := port && !(x.kind == 4 || (x.kind == 5 && x.toNode))
  let owns (p : Nat) : Bool := match scope with | some q => p == q | none => true
  if vfBad || portBad then smTarget
  else match x.kind with
  | 1 => match s.alloc? x.handle with
    | none => smTarget
    | some l =>
      if !owns l.part then smTarget
      else if l.granules ≤ x.granule then smBadAction
      else if s.placeBad x.tier x.location then smBadAction
      else if !tierAllowed l.flags x.tier then smTarget
      else if !s.destFree l x.tier (if x.tier = 3 then x.node else 0) x.location then smNoRoom
      else if s.readBad l (x.granule * 65536) 65536 ∨ (l.entry x.granule).state = 3 then 0x30
      else 0
  | 2 => if s.stagedOk scope x.handle x.stagedOff x.stagedLen = false then smTarget
    else if (s.readAlloc x.handle x.stagedOff x.stagedLen).isNone then 0x32
    else if x.remote ∧ x.node ≠ s.node then 0
    else s.entryStatus x.table x.index (leNat staged) vf
  | 3 => match s.alloc? x.handle with
    | none => smTarget
    | some l =>
      if !owns l.part then smTarget
      else if l.granules ≤ x.granule ∨ (x.node = s.node ∧ s.placeBad x.tier x.location = true) then smBadAction
      else if l.published.isSome then 0
      else if !tierAllowed l.flags (if x.node = s.node then x.tier else 3) then smTarget
      else if !s.destFree l (if x.node = s.node then x.tier else 3) (if x.node = s.node then 0 else x.node) x.location then smNoRoom
      else 0
  | 4 => match s.districtOwner (districtOf x.core) with
    | none => smTarget
    | some p => if owns p then 0 else smTarget
  | 5 => if s.stagedOk scope x.handle x.stagedOff x.stagedLen = false then smTarget
    else if (x.toNode = false ∧ owns x.part = false) then smTarget
    else if (s.readAlloc x.handle x.stagedOff x.stagedLen).isNone then 0x32
    else 0
  | 6 => if !owns x.part then smTarget else s.pressStatus x.part x.slot x.origin x.handle opened
  | 7 => if s.slotOk scope x.slot then 0 else smTarget
  | 8 => if s.stagedOk scope x.handle x.stagedOff 128 = false ∨ (s.slot? x.slot).isSome then smTarget
    else if (s.readAlloc x.handle x.stagedOff 128).isNone then 0x32
    else 0
  | 9 | 10 => if s.slotOk scope x.slot then 0 else smTarget
  | 11 => match scope with
    | none => 0
    | some p => if bits (s.tenantEntry x.index) 47 40 = 0x80 + p ∨ vf.isNone then 0 else smTarget
  | _ => smBadAction

/-- The staged bytes of an action, read as it is prepared (R251). -/
def stagedOf (s : State) (a : Action) : List Byte :=
  let x := Act.of a
  if x.kind = 2 ∨ x.kind = 5 then s.peek x.handle x.stagedOff x.stagedLen
  else if x.kind = 8 then s.peek x.handle x.stagedOff 128
  else []

/-- A block of a move becomes another module's to acknowledge, or to send (R213). -/
def awaitMove (s : State) (txn k h g b : Nat) : State :=
  { s with tier := { s.tier with moveAcks := s.tier.moveAcks ++ [{ txn := txn, seam := k, handle := h, granule := g, block := b }] } }

/-- The copy of blocks of a granule that a seam moves to another node: a MOVE_DATA for each (R213, Table 14.10). -/
def sendMove (s : State) (k h g node : Nat) (blocks : List Nat) : State :=
  match s.alloc? h with
  | none => s
  | some a => blocks.foldl (fun s b =>
      let (s, t) := s.nextTxn
      (s.awaitMove t k h g b).send { node := node, part := some a.part, flow := k, op := 0x06, txn := t, args := [h, g, b]
                                     data := a.data.bytes (g * 65536 + b * 4096) 4096 }) s

/-- The copy of a granule that comes back from a lender: a READ for each block (R213, R369). -/
def fetchMove (s : State) (k h g : Nat) : State :=
  (List.range 16).foldl (fun s b =>
    let (s, l) := s.lentRequest h g (g * 65536 + b * 4096) (g * 65536 + b * 4096 + 4096) false
    l.foldl (fun s x => s.awaitMove x.2.1 k h g b) s) s

/-- What preparing an action reserves: the granule enters state moving, a press waits for quiet (R158, R213). -/
def reserve (s : State) (k : Nat) (a : Action) : State :=
  let x := Act.of a
  if x.kind = 1 then
    let s := s.updAlloc x.handle (fun l =>
      let e := l.entry x.granule
      l.setEntry x.granule { e with
        state := if e.state = 1 then 2 else e.state, moveTo := some (x.tier, if x.tier = 3 then x.node else 0, x.location), dirty := [] })
    let s := if s.lentHome x.handle x.granule then s.fetchMove k x.handle x.granule else s
    if x.tier = 3 ∧ x.node ≠ s.node then s.sendMove k x.handle x.granule x.node (List.range 16) else s
  else if x.kind = 6 then
    { s with seams := { s.seams with presses := s.seams.presses ++
      [{ seam := k, part := x.part, slot := x.slot, origin := x.origin, image := x.handle, since := s.now }] } }
  else s

/-- A slot's image as ADMIT_SEQ stages it (Table 10.2). -/
def slotOfBytes (b : List Byte) (reqId : Nat) : Slot :=
  { reqId, state := fieldAt b 8 1, flags := fieldAt b 9 1, tenant := bits (fieldAt b 0xA 2) 11 0, model := bits (fieldAt b 0xC 2) 9 0
    part := bits (fieldAt b 0xC 2) 14 10, patch := fieldAt b 0xE 2, position := fieldAt b 0x10 2, promptLen := fieldAt b 0x12 2
    maxNew := fieldAt b 0x14 2, generated := fieldAt b 0x16 2, deadlineLeg := fieldAt b 0x18 4, admittedLeg := fieldAt b 0x1C 4
    kvHead := BitVec.ofNat 64 (fieldAt b 0x20 8), spec := BitVec.ofNat 64 (fieldAt b 0x28 8), exit := BitVec.ofNat 64 (fieldAt b 0x30 8)
    predId := fieldAt b 0x38 8, input := BitVec.ofNat 64 (fieldAt b 0x40 8), inputLen := fieldAt b 0x48 4, outputLen := fieldAt b 0x4C 4
    output := BitVec.ofNat 64 (fieldAt b 0x50 8), context := bits (fieldAt b 0x58 1) 5 0, cursor := fieldAt b 0x59 1
    faultRun := fieldAt b 0x5A 1, lateLegs := fieldAt b 0x5B 1, estRows := fieldAt b 0x5C 4 }

/-- The live request that stands behind a slot image, where the module has none of that ID. -/
def reqOfSlot (x : Slot) (n : Nat) : Req :=
  { id := x.reqId, part := x.part, generate := bit x.flags 0, priority := bits x.flags 2 1, hard := bit x.flags 3
    patchValid := bit x.flags 4, widthMax := bits x.spec.toNat 14 8, tenant := x.tenant, model := x.model, patch := x.patch
    promptLen := x.promptLen, maxNew := x.maxNew, deadlineLeg := x.deadlineLeg, admittedLeg := x.admittedLeg
    inHandle := bits x.input.toNat 63 44, inOff := bits x.input.toNat 43 12, inputLen := x.inputLen
    outHandle := bits x.output.toNat 63 44, outOff := bits x.output.toNat 43 12, outputLen := x.outputLen, predId := x.predId
    slot := some n }

/-- MSG (R370): a NODE_MSG in the named partition's set, the staged message at 0x20 after its source node; discardable (R397). -/
def nodeMsg (s : State) (node p : Nat) (msg : List Byte) : State :=
  if s.partValid p then s.sendHost p 0x8041 (leBytes 2 node ++ List.replicate 14 0 ++ msg) true else s

/-- A writable granule takes its place of a committed seam (R213, R228): a lent granule is held from then on, and the place left is
released when nothing uses it any more. -/
def takeHome (s : State) (h g : Nat) (p : Place) : State :=
  match s.alloc? h with
  | none => s
  | some a =>
    let s := s.leavePlace h g (a.entry g)
    let s : State := if p.1 = 3 ∧ s.tier.borrowed.contains (p.2.1, p.2.2) = false then
        { s with tier := { s.tier with borrowed := s.tier.borrowed ++ [(p.2.1, p.2.2)] } } else s
    s.setHome h g p

/-- A seam sends the final message of a request itself (R251). -/
def sendsFinal (x : Seam) (id : Nat) : Bool :=
  (x.actions.zip x.staged).any (fun (a, b) => let w := Act.of a; w.kind == 5 && !w.toNode && fieldAt b 2 2 == 0x8011 && fieldAt b 0x10 8 == id)

/-- The effect of action `i` of a committed seam (Table 9.3), with the data and the epoch read at its preparation. -/
def applyAction (s : State) (x0 : Seam) (i : Nat) : State :=
  let staged := x0.staged.getD i []
  let ep := x0.epochs.getD i 0
  let x := Act.of (x0.actions.getD i (0, 0))
  match x.kind with
  | 1 => s.takeHome x.handle x.granule (x.tier, x.node, x.location)
  | 2 => if x.remote ∧ x.node ≠ s.node then s else s.applyEntry x.table x.index (leNat staged)
  | 3 =>
    if (match s.alloc? x.handle with | some l => l.published.isNone | none => true) then
      s.takeHome x.handle x.granule (if x.node = s.node then x.tier else 3, x.node, x.location)
    else if x.node = s.node then
      let r := match (s.alloc? x.handle).bind (·.published) with
        | some (o, v) => s.tier.replicas.find? (fun r => r.object == o && r.version == v && r.granule == x.granule && !r.making)
        | none => none
      let s : State := match r with
        | some r => { s with tier := { s.tier with replicas := s.tier.replicas.erase r } }
        | none => s
      s.updAlloc x.handle (fun l =>
        let l := l.setEntry x.granule (match r with
          | some r => { state := 1, tier := r.tier, location := r.location, use := r.use }
          | none => homedAt l x.granule (l.entry x.granule) (x.tier, 0, x.location))
        if l.dir.any (fun e => e.2.state == 3) then l else { l with homeNode := none })
    else
      let e := match s.alloc? x.handle with | some l => l.entry x.granule | none => {}
      (s.leavePlace x.handle x.granule e).updAlloc x.handle (fun l => { (l.setEntry x.granule { e with
        state := 1, tier := 3, node := x.node, location := x.location, compressed := false, allot := 0, moveTo := none, dirty := [] }) with
        homeNode := some x.node })
  | 4 =>
    if s.epoch (districtOf x.core) x.slot = ep then s.semPost x.core x.pair x.slot ep x.room x.value else s.stray x.core
  | 5 =>
    if x.toNode ∧ x.node = s.node then s.nodeMsg s.node x.part staged
    else if x.toNode then s.send { node := x.node, part := some x.part, op := 0x40, args := [x.part, staged.length], data := staged }
    else s.place x.part staged
  | 6 => s
  | 7 => match s.req? x.reqId with
    | none => s
    | some r =>
      if (s.slot? x.slot).map (·.reqId) ≠ some r.id then s
      else
        let (cls, cause) := (x0.reason).getD (0, 0)
        let s := ((s.unpickOwned x.slot r.id 0x11).dropLedger x.slot).retire r x.status cls cause (sendsFinal x0 r.id)
        if x.status = stDone then s.copyDependents r else s
  | 8 =>
    let w := slotOfBytes staged x.reqId
    let s := { s with serving := { s.serving with slots := Tab.set s.serving.slots x.slot w } }
    match s.req? x.reqId with
    | some _ => s.updReq x.reqId (fun r => { r with slot := some x.slot })
    | none => { s with serving := { s.serving with reqs := s.serving.reqs ++ [reqOfSlot w x.slot] } }
  | 9 => match s.slot? x.slot with
    | none => s
    | some w => let (h, o) := kvList w
                s.writeAlloc h (o + 0x100 + 8 * (x.position / 16)) (leBytes 8 (x.handle * 2 ^ 44 + x.page * 2 ^ 12 + 1))
  | 10 => match s.slot? x.slot with
    | none => s
    | some w => match s.req? w.reqId with
      | none => s
      | some r => s.deliver r x.slot x.position (BitVec.ofNat 32 x.value)
  | 11 => { s with serving := { s.serving with used := Tab.put 0 s.serving.used x.index (s.tenantUsed x.index + x.value) } }
  | _ => s

/-! Opening. -/

/-- Partition of a record's scope. -/
def seamScope (x : Seam) : Option Nat := x.scope.map (·.1)
/-- Partition of the virtual function a record came through (R250). -/
def seamVf (x : Seam) : Option Nat := if x.fromVf then seamScope x else none

/-- A submission that opens no record, or ends at once: its one final status (R241). -/
def neverOpened (s : State) (x : Seam) (status : Nat) : State :=
  let s := if status = 0x15 then s.bump Reg.SEAM_FULL_COUNT else s
  let x := { x with status := status, results := x.actions.map (fun _ => status) }
  (((s.bump Reg.SEAM_UNPICKED).showLast status x.scope 0).seamStatusMsg x 0).seamPortDone x

/-- No new seam is opened for a function that is disabled (R57), but for those by which the serving block ends its requests. -/
def scopeOff (s : State) (x : Seam) : Bool :=
  !(x.submitter == 0 && x.actions.any (fun a => Seam.kind a == 7)) && s.seamOff x

/-- A submission (R157, R238, R245, R248, R253, R522): the record it takes, whose later steps are the seam block's. A press stands alone and
commits at once (log entry 135). -/
def openSeam (s : State) (x : Seam) : State :=
  if s.scopeOff x then s.neverOpened x 0x12
  else match s.freeRecord with
  | none => s.neverOpened x 0x15
  | some k =>
    let s := s.openRecord k { x with results := x.actions.map (fun _ => 0) }
    let nodes := s.seamNodes x.actions
    if x.actions = [] ∨ 64 < x.actions.length ∨ x.actions.any actionBad = true ∨ 2 ≤ x.timing ∨ 15 < nodes.length ∨
        (x.timing = 1 ∧ nodes ≠ []) ∨ (seamPresses x ≠ [] ∧ (x.actions.length ≠ 1 ∨ x.timing ≠ 0)) then
      s.endSeam k smBadAction
    else s

/-! Local preparation. -/

/-- The targets a seam holds here: of a part that lends a granule, the granule lent, whose handle is the coordinator's. -/
def seamTargets (s : State) (x : Seam) : List (Nat × Nat × Nat) :=
  x.actions.flatMap (fun a =>
    if x.submitter = 8 ∧ (Seam.kind a = 1 ∨ Seam.kind a = 3) then [(5, (Act.of a).location / 128, 0)] else actionTargets s a)

/-- Another seam, or a ledger entry, holds a target this one names (R243). -/
def heldBack (s : State) (k : Nat) (x : Seam) : Bool :=
  let mine := s.seamTargets x
  s.seams.recs.any (fun (j, y) => j != k && (y.state == 3 || y.state == 4) && (s.seamTargets y).any mine.contains) ||
    mine.any (fun t => t.1 == 4 && (Tab.find? s.serving.ledger t.2.1).isSome)

/-- Presses opened before a seam and not prepared yet: what PRESS_BUSY meets (Table 5.9, log entry 55). -/
def pressesBefore (s : State) (k : Nat) (x : Seam) : List Act :=
  (s.seams.recs.filter (fun y => y.1 != k && decide (y.2.state ≤ 2) && decide (y.2.openedTime < x.openedTime))).flatMap (fun y => seamPresses y.2)

/-- Status of action `i` of a record as it is prepared, 0 if it can be. A lender tests the granules that its coordinator's actions name. -/
def prepareStatus (s : State) (k : Nat) (x : Seam) (i : Nat) : Nat :=
  let a := x.actions.getD i (0, 0)
  let w := Act.of a
  if x.submitter = 8 ∧ (w.kind = 1 ∨ w.kind = 3) then
    let mine := (((x.actions.take i).map Act.of).filter (fun v => v.kind == 1 || v.kind == 3)).map (·.location / 128)
    let pending := s.lendsPending ++ mine
    if (if w.kind = 1 then s.mayLend x.coordNode w.location pending else s.mayHome x.coordNode w.location pending) then 0 else smNoRoom
  else if x.submitter = 8 ∧ w.kind = 2 then s.entryStatus w.table w.index (leNat (x.staged.getD i [])) none
  else s.actionStatus (seamScope x) (seamVf x) (x.submitter == 7) (s.pressesBefore k x) a (if x.submitter = 8 then [] else s.stagedOf a)

/-- Prepares the actions of a record that are this module's, in order, each against what the ones before it have reserved: the state with the
reservations, or the first action that fails and its status (R239, R243). -/
def prepareAll (s : State) (k : Nat) (x : Seam) : Sum (Nat × Nat) State :=
  ((List.range x.actions.length).filter (fun i =>
      let a := x.actions.getD i (0, 0)
      x.submitter == 8 || !(Seam.kind a == 4 && (s.actionNode a).isSome))).foldl (fun r i =>
    match r with
    | .inl f => .inl f
    | .inr s =>
      let st := s.prepareStatus k x i
      if st ≠ 0 then .inl (i, st)
      else if (s.localActions x).contains i then .inr (s.reserve k (x.actions.getD i (0, 0))) else .inr s) (.inr s)

/-- A move or a flip of the seam takes large-tier space that is not washed yet: it waits for it (R236). -/
def awaitsWash (s : State) (x : Seam) : Bool :=
  x.submitter != 8 && (x.actions.map Act.of).any (fun w =>
    (w.kind == 1 || (w.kind == 3 && w.node == s.node)) && w.tier == 1 && !s.placeBad 1 w.location && decide (s.tier.washed * 128 < w.location + 128))

/-- The coordinator sends each participant its actions, with the staged entries read at its preparation (R249, Table 9.6, step 1). -/
def sendPrepares (s : State) (k : Nat) : State :=
  match s.seam? k with
  | none => s
  | some x =>
    let nodes := s.seamNodes x.actions
    let s := s.updSeam k (fun x => { x with participants := nodes.map (fun n => { node := n }) })
    let acts := x.actions.zip x.staged
    nodes.foldl (fun s n =>
      let mine := acts.filter (fun a => s.actionNode a.1 == some n)
      s.send { node := n, op := opPrepare
               args := [s.node, x.id k, mine.length, match x.scope with | some (p, i) => 128 + i * 32 + p | none => 0]
               data := mine.flatMap (fun a => leBytes 8 a.1.1.toNat ++ leBytes 8 a.1.2.toNat) ++
                 mine.flatMap (fun a => if Seam.kind a.1 = 2 then a.2 else []) }) s

/-- SEAM_LOCAL_PREPARE (R159, R242, R243, R251): once its targets are free and the image of a press is at hand, the key test, the checks and
the reservations. -/
def localPrepare (s : State) (k : Nat) : State :=
  match s.seam? k with
  | none => s
  | some x =>
    if x.state ≠ 2 ∨ s.heldBack k x = true ∨ s.awaitsWash x = true then s
    else if (seamPresses x).any (fun w => !(s.imageBelow w.part w.handle).isEmpty) then
      (seamPresses x).foldl (fun s w => s.bringUp w.part w.handle) s
    else if s.keyHeld x then
      if x.submitter = 8 then
        (s.updSeam k (fun x => { x with inPlace := true, state := 3, askedAt := s.now })).sendSystem x.coordNode opReady [x.coordNode, x.coordSeam]
      else s.endSeam k 2
    else match s.prepareAll k x with
    | .inl (i, st) =>
      let s := s.updSeam k (fun x => { x with results := x.results.set i st })
      if x.submitter = 8 then s.endPart k st opRefuse else s.endSeam k st
    | .inr s =>
      let kept := (s.localActions x).filterMap (fun i =>
        let w := Act.of (x.actions.getD i (0, 0))
        if w.kind = 2 ∧ 2 ≤ w.table then some (0x10 + w.table, w.index * entryUnits w.table * 16 / 65536) else none)
      let s := s.updSeam k (fun y => { y with
        state := 3
        waits := kept.eraseDups
        staged := if x.submitter = 8 then y.staged else x.actions.map s.stagedOf
        epochs := x.actions.map (fun a => let w := Act.of a; if w.kind = 4 then s.epoch (districtOf w.core) w.slot else 0) })
      if x.submitter = 8 then
        (s.updSeam k (fun x => { x with askedAt := s.now })).sendSystem x.coordNode opReady [x.coordNode, x.coordSeam]
      else s.sendPrepares k

/-! Commit. -/

/-- A seam in state 4 whose every action has taken effect becomes final (R239, R438). -/
def finishSeam (s : State) (k : Nat) : State :=
  match s.seam? k with
  | none => s
  | some x =>
    if x.state ≠ 4 ∨ x.waits ≠ [] ∨ s.seams.presses.any (fun w => w.seam == k) = true ∨
        x.participants.any (fun p => decide (p.phase < 3)) = true then s
    else if x.submitter = 8 then s.endPart k (if x.inPlace then 2 else 1) opDone
    else s.endSeam k 1

/-- A committed seam names a persistent thing (R260): a WRITE_ENTRY of a kept table, or a persistent allocation. -/
def keptSeam (s : State) (x : Seam) : Bool :=
  x.actions.any (fun a =>
    let w := Act.of a
    (w.kind == 2 && decide (2 ≤ w.table)) || (x.submitter != 8 && (w.kind == 1 || w.kind == 3 || w.kind == 6) && (match s.alloc? w.handle with
      | some l => l.kept
      | none => false)))

/-- No more than 32 seams that a power loss must save stand in state 4 (R260). -/
def keptRoom (s : State) (x : Seam) : Bool :=
  !s.keptSeam x || decide ((s.seams.recs.filter (fun y => y.2.state == 4 && s.keptSeam y.2)).length < 32)

/-- The conditions of R252 hold: quiet for a press, no dirty block for a move, every participant ready, and no more than 32
seams that a power loss must save in state 4 (R260). -/
def mayCommit (s : State) (x : Seam) : Bool :=
  (s.localActions x).all (fun i =>
    let w := Act.of (x.actions.getD i (0, 0))
    if w.kind = 6 then (rectDistricts w.origin (s.imgW w.handle) (s.imgH w.handle)).all (fun d => s.quiet d w.slot)
    else if w.kind = 1 then (match s.alloc? w.handle with
      | some l => (l.entry w.granule).dirty.isEmpty && !s.tier.moveAcks.any (fun m => m.handle == w.handle && m.granule == w.granule)
      | none => false)
    else true) &&
  x.participants.all (fun p => decide (1 ≤ p.phase)) && s.keptRoom x

/-- The commit point (R240): state 4 is written, every action takes effect, the participants are told (Table 9.6). -/
def commitSeam (s : State) (k : Nat) : State :=
  match s.seam? k with
  | none => s
  | some x =>
    let s := s.updSeam k (fun x => { x with state := 4, status := 1, results := x.results.map (fun _ => 1) })
    let s := (s.seams.presses.filter (fun (w : Press) => w.seam == k)).foldl (fun s w => s.pressCommit w) s
    let s := { s with seams := { s.seams with presses := s.seams.presses.map (fun (w : Press) =>
      if w.seam = k then { w with phase := 1 } else w) } }
    let s := if x.inPlace then s else
      (s.localActions x).foldl (fun s i => s.applyAction x i) s
    let s : State := { s with store := { s.store with unwritten := (s.store.unwritten ++ x.waits).eraseDups } }
    let s := x.participants.foldl (fun s p => s.sendSystem p.node opCommit [s.node, x.id k, 1]) s
    let s := s.updSeam k (fun x => { x with participants := x.participants.map (fun p => { p with phase := max p.phase 2 }) })
    s.finishSeam k

/-- Granules of this module that a part gives its coordinator's granules a home in (R213, R232). -/
def lendGranules (s : State) (x : Seam) : State :=
  (x.actions.map Act.of).foldl (fun s w =>
    if w.kind = 1 ∨ w.kind = 3 then { s with tier := { s.tier with lent := Tab.set s.tier.lent (w.location / 128) x.coordNode } } else s) s

/-- A part applies its actions once its coordinator has decided and its turn has come (Table 9.6, step 6, R260). -/
def commitPart (s : State) (k : Nat) : State :=
  match s.seam? k with
  | none => s
  | some x =>
    if x.submitter ≠ 8 ∨ x.state ≠ 3 ∨ x.decided = false ∨ s.keptRoom x = false then s
    else (if x.inPlace then s else s.lendGranules x).commitSeam k

/-- SEAM_COMMIT_POINT of a timing-0 seam, or of a part whose decision has come (R252, R260). -/
def tryCommit (s : State) (k : Nat) : State :=
  match s.seam? k with
  | none => s
  | some x =>
    if x.submitter = 8 then s.commitPart k
    else if x.state = 3 ∧ x.timing = 0 ∧ s.mayCommit x = true then s.commitSeam k else s

/-- Ends a seam unpicked. -/
def unpickSeam (s : State) (k status : Nat) : State :=
  match s.seam? k with
  | none => s
  | some x =>
    if x.submitter = 8 then s.endPart k status opDone else s.endSeam k status

/-- Timing-1 seams at step 2, in ascending seam number: those ready at step 1 commit; one that is not is timed from the first
milestone after its opening (R253). -/
def milestoneSeams (s : State) : State :=
  s.seams.recs.foldl (fun s (k, _) =>
    match s.seam? k with
    | none => s
    | some x =>
      if x.timing ≠ 1 ∨ x.submitter = 8 then s
      else if x.state = 3 ∧ x.readyAtStep1 = true ∧ s.mayCommit x = true then s.commitSeam k
      else if x.state ≤ 3 then
        match x.firstMilestone with
        | some t => if t + 100 * s.fld Reg.SEAM_CTRL 15 0 ≤ s.now then s.unpickSeam k 0x19 else s
        | none => s
      else s) s

/-- What step 1 notes of timing-1 seams: which are ready, and the first milestone each meets (R253). -/
def latchSeams (s : State) : State :=
  { s with seams := { s.seams with recs := s.seams.recs.map (fun (k, x) =>
      if x.timing = 1 then (k, { x with readyAtStep1 := x.state == 3, firstMilestone := some (x.firstMilestone.getD s.now) }) else (k, x)) } }

/-! Across modules (R257, R258). -/

/-- The record a coordinator's name belongs to: its part here. -/
def partOfName (s : State) (node id : Nat) : Option Nat :=
  (List.find? (fun (y : Nat × Seam) => y.2.submitter == 8 && y.2.coordNode == node && y.2.coordSeam == id) s.seams.recs).map (·.1)

/-- The record a seam ID names here, if its generation stands. -/
def recordOfId (s : State) (id : Nat) : Option Nat :=
  match s.seam? (id % 256) with
  | some x => if x.gen = id / 256 then some (id % 256) else none
  | none => none

end State

end Sys2Proof.Machine
end

