-- ==== Sys2Proof/Machine/Residency.lean ====
section
/-!
DEFINITION. Residency (13): choosing a place for a context, forming, evicting and demoting it (R329 to R347), and the press
of the section its next item needs (R154).
-/
namespace Sys2Proof.Machine

namespace State

/-! Figures of R331. -/

/-- Live sequences that name a context. -/
def ctxSeqs (s : State) (c : Nat) : List (Nat × Slot) :=
  if s.ctxExpert c then [] else s.serving.slots.filter (fun x => x.2.part == s.ctxPart c && x.2.model == s.ctxModel c)
/-- Priority of a context (R331). -/
def ctxPriority (s : State) (c : Nat) : Nat := (s.ctxSeqs c).foldl (fun m x => min m (slotPriority x.2)) 4
/-- A context is idle (R331). -/
def ctxIdle (s : State) (c : Nat) : Bool := (s.ctxSeqs c).isEmpty && !s.serving.items.any (fun i => i.context == c)
/-- Some placement entry of a model names this node (R307, R329). -/
def hostsExperts (s : State) (m : Nat) : Bool :=
  (List.range 128).any (fun l =>
    let e := s.entry 5 (m * 128 + l)
    bit (entAt e 0 1) 0 && (List.range (entAt e 1 1)).any (fun x => let w := entAt e (0x10 + 2 * x) 2; bit w 15 && bits w 11 0 == s.node))
/-- A context is pinned: by the catalog, or as the expert context of a model hosted here (R329). -/
def ctxPinned (s : State) (c : Nat) : Bool :=
  s.modelPinned (s.ctxModel c) || (s.ctxExpert c && s.hostsExperts (s.ctxModel c))
/-- Contexts that are not free. -/
def residents (s : State) : List Nat := (List.range 64).filter (fun c => s.ctxState c != 0)
/-- Contexts reserved for a partition. -/
def ctxMin (s : State) (p : Nat) : Nat := if s.partValid p then bits (s.ent 7 p 1 1) 2 0 else 0
/-- The module has a context number for a partition: a partition above its reserve leaves the others theirs (R331). -/
def ctxRoom (s : State) (p : Nat) : Bool :=
  let n := s.residents.length
  let kept := ((List.range 32).map (fun q => if q = p then 0 else s.ctxMin q - (s.ctxsOf q).length)).sum
  decide (n < 64) && decide ((s.ctxsOf p).length < 4) && (decide ((s.ctxsOf p).length < s.ctxMin p) || decide (n + kept < 64))

/-! What a model asks for. -/

/-- Shape and share of a model in the catalog: w, h, share_base, share_granules. -/
def modelShape (s : State) (m : Nat) : Nat × Nat × Nat × Nat :=
  let e := s.entryNow 4 m
  (bits (entAt e 1 1) 2 0 + 1, bits (entAt e 1 1) 6 4 + 1, entAt e 0x21 1, entAt e 0x22 1)

/-- A share range overlaps a valid share of a core in another slot. -/
def shareMeets (s : State) (c slot base size : Nat) : Bool :=
  (List.range 4).any (fun i => i != slot && s.slotValid c i &&
    (let r := Reg.CORE_SHARE0 c + 4 * i
     decide (s.fld r 5 0 < base + size) && decide (base < s.fld r 5 0 + s.fld r 13 8)))

/-- Places for a model in a partition: free slot and origin of a rectangle whose share range overlaps no valid share nor that
of a context being formed (R333, choice 1). -/
def places (s : State) (p m : Nat) : List (Nat × Nat) :=
  let (w, h, base, size) := s.modelShape m
  (List.range 4).flatMap (fun slot =>
    if s.residents.any (fun c => s.ctxPart c == p && s.ctxSlot c == slot) then []
    else (List.range 64).filterMap (fun o =>
      let ds := rectDistricts o w h
      let cs := rectCores o w h
      if ds.length = w * h ∧ ds.all (fun d => bit (s.partDistricts p) d) = true ∧
          cs.all (fun c => !s.slotValid c slot && !s.shareMeets c slot base size) = true ∧
          s.residents.all (fun c => s.ctxPart c != p || (s.ctx c).shareSize == 0 || size == 0 ||
            !(s.ctxDistricts c).any ds.contains || decide ((s.ctx c).shareBase + (s.ctx c).shareSize ≤ base) ||
            decide (base + size ≤ (s.ctx c).shareBase)) = true
      then some (slot, o) else none))

/-! Releasing. -/

/-- What a quiet context leaves: slot_valid cleared in every core, the epoch advanced, its plan entries, ports and share
released (R334). -/
def releaseCtx (s : State) (c : Nat) : State :=
  let x := s.ctx c
  let slot := s.ctxSlot c
  let s := (s.ctxCores c).foldl (fun s k => s.clearSlot k slot) s
  let s := (s.ctxDistricts c).foldl (fun s d => s.advanceEpoch d slot false) s
  let s := if x.seamPort = 0 then s else ((s.requestFree x.seamPort).requestFree (x.seamPort + 1)).requestFree x.batchArea
  let s := { s with serving := { s.serving with ctxs := Tab.erase s.serving.ctxs c } }
  (s.wr (Reg.SERVING_CTX c) 0).setFld (Reg.SERVING_CTX_USE c) 15 0 0

/-- The sequences held for a context end with a status, and the reason if it has one (R335, R337, R403). -/
def endHeld (s : State) (p m status : Nat) (cls cause : Nat := 0) : State :=
  (s.serving.slots.filter (fun x => x.2.state == 3 && x.2.part == p && x.2.model == m)).foldl (fun s x =>
    s.endRequest x.2.reqId status cls cause 0x10) s

/-- A context enters state evicting, or clears at once where its slot holds nothing (R334). -/
def beginEvict (s : State) (c why : Nat) (forWhom : Option (Nat × Nat)) : State :=
  let s := if s.ctxExpert c then s.owe (.hostStop (s.ctxModel c) (s.ctxPart c)) else s
  (s.updCtx c (fun x => { x with leaving := why, formsFor := forWhom })).setCtxState c 4

/-! Forming (Table 13.5). -/

/-- Section objects of a section list: handles in section order, none where the list or a section is missing or
malformed (R327). -/
def sectionImages (s : State) (list : Nat) : Option (List Nat) :=
  match s.objectHandle (list % 2 ^ 32) (list / 2 ^ 32) with
  | none => none
  | some h =>
    let n := s.peekNat h 4 1
    if s.peekNat h 0 4 ≠ 0x54534C53 ∨ zerosAt (s.peek h 5 11) 0 11 = false ∨ n = 0 then none
    else (List.range n).foldl (fun acc i =>
      match acc, s.objectHandle (s.peekNat h (16 + 8 * i) 4) (s.peekNat h (20 + 8 * i) 4) with
      | some l, some k => some (l ++ [k])
      | _, _ => none) (some [])

/-- A prefetch schedule breaks its format (R231). -/
def scheduleBad (s : State) (h setId sections : Nat) : Bool :=
  let n := s.peekNat h 4 2
  s.peekNat h 0 4 != 0x53464850 || n == 0 || decide (4096 < n) || s.peekNat h 6 1 == 0 || decide (4 < s.peekNat h 6 1) ||
    s.peekNat h 7 1 != 0 || s.peekNat h 8 8 != setId ||
    (List.range n).any (fun i =>
      let e := s.scheduleEntry h i
      decide (sections ≤ fieldAt e 0 1) || decide (2 ≤ fieldAt e 1 1) || fieldAt e 2 2 != 0 || fieldAt e 0x10 4 == 0 ||
        decide (65536 < fieldAt e 0x10 4) || !zerosAt e 0x14 12)

/-- The checks of step 2 of a formation: the images, and the schedule's handle; none if one fails (R167, R231, R327). -/
def formChecks (s : State) (p m : Nat) (expert : Bool) : Option (List Nat × Nat) :=
  let e := s.entryNow 4 m
  match s.sectionImages (entAt e (if expert then 0x10 else 8) 8) with
  | none => none
  | some imgs =>
    let n := imgs.length
    let setId := s.peekNat (imgs.headD 0) 8 8
    let okImg (h i : Nat) : Bool :=
      s.peekNat h 0 4 == 0x54415047 && s.peekNat h 0x14 1 == i && s.peekNat h 0x15 1 == n && s.peekNat h 8 8 == setId &&
        s.imgW h == bits (entAt e 1 1) 2 0 + 1 && s.imgH h == bits (entAt e 1 1) 6 4 + 1 &&
        decide (s.peekNat h 0x1D 1 ≤ entAt e 0x22 1) && s.tilingOk p h i
    if !(expert || n == entAt e 0x20 1) || !(imgs.zip (List.range n)).all (fun (h, i) => okImg h i) then none
    else if expert ∨ entAt e 0x18 8 = 0 then some (imgs, 0)
    else match s.objectHandle (entAt e 0x18 4) (entAt e 0x1C 4) with
      | none => none
      | some h => if s.scheduleBad h setId n then none else some (imgs, h)

/-- Steps 1 and 2 of a formation, a slot and rectangle obtained: context number, checks, plans. A failed check ends the
sequences held for it TILE_RECORD_BAD; without room in the plan table, or a seam record to write a plan by, the context is not formed (R182,
R335). -/
def startFormation (s : State) (p m slot origin : Nat) (expert : Bool) : State :=
  let frees := (List.range 64).filter (fun c => s.ctxState c == 0)
  match frees[s.draw.toNat % max 1 frees.length]? with
  | none => s
  | some c =>
    let s := s.drawn
    match s.formChecks p m expert with
    | none => if expert then s else s.endHeld p m stRecordBad
    | some (imgs, sched) =>
      match s.planRun imgs.length with
      | none => s
      | some plans =>
        let (w, h, base, size) := s.modelShape m
        let held := (s.serving.slots.filter (fun x => x.2.state == 3 && x.2.part == p && x.2.model == m)).map (·.2)
        let first : Slot := (held.mergeSort (fun (a b : Slot) => decide (sdiff32 a.admittedLeg s.legCount ≤ sdiff32 b.admittedLeg s.legCount))).headD ({} : Slot)
        let s := s.wr (Reg.SERVING_CTX c) (1 * 2 ^ 28 + p * 2 ^ 23 + slot * 2 ^ 21 + origin * 2 ^ 15 + b2n expert * 2 ^ 14 +
          b2n (s.modelPinned m) * 2 ^ 13 + m)
        let s := (s.setFld (Reg.SERVING_CTX_USE c) 15 0 0).updCtx c (fun _ => ({
          w := w, h := h, shareBase := base, shareSize := size, sections := imgs.length, plans := plans, images := imgs
          pressed := if first.cursor < imgs.length then first.cursor else 0, formStep := 2, formStart := s.now, schedule := sched } : Ctx))
        let (t, ok) := s.writePlans p (s.ctx c)
        if ok then t else t.releaseCtx c

/-- Two free handles in a row, from a free value on (R309). -/
def handlePair (s : State) : Option Nat :=
  let p (i : Nat) : Bool := let h := (s.draw.toNat + i) % 1048574 + 1; s.handleFree h && s.handleFree (h + 1)
  (firstFrom p 0 (2 * (s.tier.allocs.length + s.tier.freed.length) + 2)).map (fun i => (s.draw.toNat + i) % 1048574 + 1)

/-- Allocates a context's seam port, dispatch port (the next handle, 1 MiB) and batch area (R247, R279, R309), by a seam for each (R27); the flag
says that they stand. -/
def allocPorts (s : State) (c : Nat) : State × Bool :=
  let (s, ok1) := s.ownSeam
  let (s, ok2) := s.ownSeam
  let (s, ok3) := s.ownSeam
  match s.handlePair.filter (fun _ => ok1 && ok2 && ok3) with
  | none => (s, false)
  | some h =>
    let p := s.ctxPart c
    let mk (n : Nat) : Alloc := { part := p, flags := 0x06, granules := n, internal := true, uncharged := true }
    let s := ({ s with tier := { s.tier with allocs := Tab.set (Tab.set s.tier.allocs h (mk 1)) (h + 1) (mk 16) } }).drawn
    let (s, b) := s.grant (mk 1)
    (s.updCtx c (fun x => { x with seamPort := h, batchArea := b }), true)

/-- A scratchpad place lies in the share range of a context's cores. -/
def inShareRange (s : State) (c loc : Nat) : Bool :=
  let x := s.ctx c
  (s.ctxCores c).contains (loc / 64) && decide (x.shareBase ≤ loc % 64) && decide (loc % 64 < x.shareBase + x.shareSize)

/-- Granules of the block-hash table move, by a seam of the tier block, to free granules of their cores (R213, R290). -/
def moveHash (s : State) (ps : List Nat) : State :=
  let other (l : Nat) : Nat :=
    if ps.contains l then
      let c := l / 64
      match (s.freeGranules c).find? (fun g => !ps.contains (c * 64 + g)) with
      | some g => c * 64 + g
      | none => l
    else l
  let new := s.tier.hashPlaces.map other
  if new = s.tier.hashPlaces then s
  else
    let (t, ok) := s.ownSeam
    if ok then { t with tier := { t.tier with hashPlaces := new } } else t

/-- Tier-held granules within the share range of a rectangle's cores go to a lower tier that their flags allow, by seams of the tier block's
(R213, R335, step 3); replicas there are released. -/
def clearShareRange (s : State) (c : Nat) : State :=
  let s := (s.tier.replicas.filter (fun r => r.tier == 0 && s.inShareRange c r.location)).foldl (fun s r => s.releaseReplica r) s
  let homes := s.tier.allocs.flatMap (fun (h, a) => (a.dir.filter (fun x =>
    x.2.tier == 0 && x.2.state == 1 && s.inShareRange c x.2.location && !s.granuleHeld h x.1)).map (fun x => (h, x.1)))
  let s := homes.foldl (fun s x => (s.moveLower x.1 x.2).getD s) s
  s.moveHash (s.tier.hashPlaces.filter (s.inShareRange c))

/-- The share range holds no granule of the tier block: what cannot move yet, or at all, keeps the formation waiting (log entry 139). -/
def shareRangeClear (s : State) (c : Nat) : Bool :=
  (s.ctxCores c).all (fun k => (s.tierHeld k).all (fun x => !s.inShareRange c (k * 64 + x.1)))

/-- The save of a demoted model's share, if there is one (R347). -/
def saveOf (s : State) (p m : Nat) : Option Save := s.serving.saves.find? (fun v => v.part == p && v.model == m && !v.expert)

/-- Copies a save back into the share, core by core, and frees it (R347). -/
def restoreSave (s : State) (c : Nat) : State :=
  match s.saveOf (s.ctxPart c) (s.ctxModel c) with
  | none => s
  | some v =>
    let x := s.ctx c
    let n := x.shareSize * 65536
    let s := ((s.ctxCores c).zip (List.range (s.ctxCores c).length)).foldl (fun s (k, i) =>
      s.updCore k (fun q => { q with scratch := q.scratch.write (x.shareBase * 65536) (s.peek v.handle (i * n) n) })) s
    ({ s with serving := { s.serving with saves := s.serving.saves.filter (fun w => w != v) } }).requestFree v.handle

/-- Opens the press of a context's section (R157, R159): a seam of CP0 for a formation, of the serving block between
sections. -/
def openPress (s : State) (c sec submitter : Nat) : State :=
  let h := (s.ctx c).images.getD sec 0
  let w : Nat := 6 * 2 ^ 60 + s.ctxPart c * 2 ^ 51 + s.ctxSlot c * 2 ^ 49 + s.ctxOrigin c * 2 ^ 43 + h * 2 ^ 23
  let s := s.updCtx c (fun x => { x with pressed := sec })
  s.openSeam { submitter, scope := some (s.ctxPart c, s.ctxSlot c), actions := [(BitVec.ofNat 64 w, 0)], pressCtx := some c }

/-- The model of a context, or its partition, is disabled (R57). -/
def ctxDisabled (s : State) (c : Nat) : Bool :=
  let p := s.ctxPart c
  let m := s.ctxModel c
  !s.partEnabled p || !s.modelEnabled m || !s.modelServed m p || s.offBy (.partition p) || s.offBy (.model m) || s.offBy (.modelIn p m)

/-- FORMATION_MOVES_DONE (Table 13.5, steps 3 and 4): the share range is clear, the ports stand, a save is copied back, and
the first press opens; a disabled context goes no further (R337). -/
def formationMoved (s : State) (c : Nat) : State :=
  if s.ctxState c ≠ 1 ∨ (s.ctx c).formStep ≠ 2 then s
  else if s.ctxDisabled c then s.beginEvict c 0 none
  else
    let s := s.clearShareRange c
    if s.shareRangeClear c = false then s
    else
    let (s, ok) := s.allocPorts c
    if ok = false then s
    else
    let s := s.restoreSave c
    (s.updCtx c (fun x => { x with formStep := 4 })).openPress c (s.ctx c).pressed 2

/-- Largest governing length of a live request in a section. -/
def reqLength (s : State) (r : Req) (gov : Nat) : Nat :=
  s.maxLength { flags := b2n r.generate, widthMax := r.widthMax, exitEnable := r.exitEnable, model := r.model
                promptLen := r.promptLen, maxNew := r.maxNew } gov

/-- A context that enters state ready: sequences whose governing length no plan serves end NO_TILE_PLAN (Table 10.1). -/
def endUnplanned (s : State) (c : Nat) : State :=
  let x := s.ctx c
  (s.ctxSeqs c).foldl (fun s (_, w) =>
    match s.req? w.reqId with
    | none => s
    | some r =>
      if (List.range x.sections).any (fun i =>
          !s.planServes (x.images.getD i 0) (x.plans.getD i 0) (s.reqLength r (s.govOf (x.images.getD i 0)))) then
        s.endRequest r.id stNoPlan 0 0 0x10
      else s) s

/-- The load of a formation's press has ended: the context enters state ready (Table 13.5, step 6). -/
def formationReady (s : State) (c : Nat) : State :=
  if s.ctxState c ≠ 1 then s
  else if s.ctxDisabled c then s.beginEvict c 0 none
  else
    let us := (s.now - (s.ctx c).formStart) / 100
    let s := ((s.setCtxState c 2).updCtx c (fun x => { x with formStep := 5 })).bump Reg.SERVING_RES_FORMED
    let s := s.setFld Reg.SERVING_RES_FORM_TIME 15 0 (max (s.fld Reg.SERVING_RES_FORM_TIME 15 0) (min 65535 us))
    s.endUnplanned c

/-- A press of a context ended unpicked, or its load failed (R160, R337): in a formation the sequences held for it end
ABORTED, with the seam's status or the event as the cause (log entry 116), and the slot is released; between sections only a failed load
ends them, and the section is pressed again. `unpicked` is the seam's status, none after a failed load. -/
def pressFailure (s : State) (c : Nat) (unpicked : Option Nat) : State :=
  let p := s.ctxPart c
  let m := s.ctxModel c
  let (cls, cause) := match unpicked with | some status => (3, status) | none => (4, 0x0012)
  if s.ctxState c = 1 then ((s.endHeld p m stAborted cls cause).beginEvict c 0 none)
  else if unpicked.isNone then
    (s.serving.items.filter (fun i => i.context == c)).foldl (fun s i =>
      (i.seqs.filterMap (fun n => (s.slot? n).map (·.reqId))).foldl (fun s id => s.endRequest id stAborted 4 0x0012 0x10) s) s
  else s.updCtx c (fun x => { x with pressed := x.sections })

/-! Choosing (R332, R333, R345). -/

/-- Order of victims of an eviction: lowest use count, then highest number. -/
def evictBefore (s : State) (a b : Nat) : Bool :=
  let u (c : Nat) : Nat := s.fld (Reg.SERVING_CTX_USE c) 15 0
  if u a ≠ u b then decide (u a < u b) else decide (b ≤ a)
/-- Order of victims of a demotion: largest priority value, then lowest use count, then highest number. -/
def demoteBefore (s : State) (a b : Nat) : Bool :=
  if s.ctxPriority a ≠ s.ctxPriority b then decide (s.ctxPriority b < s.ctxPriority a) else s.evictBefore a b

/-- Contexts that choices 2 and 3 may draw on, busy or not: of the partition, or, where 64 are held, of another partition
above its reserve. -/
def drawable (s : State) (p : Nat) : List Nat × List Nat :=
  let ok (c : Nat) : Bool := s.ctxState c == 2 && !s.ctxPinned c
  (s.residents.filter (fun c => ok c && s.ctxPart c == p),
   if s.residents.length < 64 then []
   else s.residents.filter (fun c => ok c && s.ctxPart c != p && decide (s.ctxMin (s.ctxPart c) < (s.ctxsOf (s.ctxPart c)).length)))

/-- Granules of a context's save. -/
def saveGranules (s : State) (c : Nat) : Nat := 16 * (s.ctx c).w * (s.ctx c).h * (s.ctx c).shareSize

/-- Steps 1 of a demotion (R346): the victim places nothing more; its items not started leave the list, and their sequences are held from the
next step 4 (R264). -/
def beginDemote (s : State) (c : Nat) (forWhom : Nat × Nat) : State :=
  let s := if s.ctxExpert c then s.owe (.hostStop (s.ctxModel c) (s.ctxPart c)) else s
  let s := ((s.updCtx c (fun x => { x with leaving := 2, formsFor := some forWhom })).setCtxState c 3).bump Reg.SERVING_RES_DEMOTED
  (s.serving.items.filter (fun i => i.context == c && !i.started)).foldl (fun s i =>
    s.cutBack i false) s

/-- Finds a place for a model, or makes one (R333, R345). -/
def seekPlace (s : State) (p m best : Nat) (expert : Bool) : State :=
  let ps := if s.ctxRoom p then s.places p m else []
  match ps[s.draw.toNat % max 1 ps.length]? with
  | some (slot, o) => (s.drawn).startFormation p m slot o expert
  | none =>
    let (own, others) := s.drawable p
    let idle := ((own.filter s.ctxIdle).mergeSort s.evictBefore) ++ ((others.filter s.ctxIdle).mergeSort s.evictBefore)
    match idle.head? with
    | some c => (s.beginEvict c 1 (some (p, m)))
    | none =>
      let fits (c : Nat) : Bool :=
        decide (s.tierUsed (s.ctxPart c) + s.saveGranules c ≤ s.fld (Reg.TIER_QUOTA (s.ctxPart c)) 24 0)
      if !(own ++ others).any (fun c => decide (best < s.ctxPriority c)) then s
      else match (((own ++ others).filter fits).mergeSort s.demoteBefore).head? with
        | some c => if best < s.ctxPriority c then s.beginDemote c (p, m) else s
        | none => s

/-- Models wanted: partition, model, best priority and earliest admitted_leg of the sequences held for want of a context,
in the order formations start (R332). -/
def wanted (s : State) : List (Nat × Nat × Nat × Nat) :=
  let held := s.serving.slots.filter (fun x => x.2.state == 3 && (s.findCtx x.2.part x.2.model).isNone &&
    s.usable x.2.part x.2.model x.2.tenant false 0)
  let keys := (held.map (fun x => (x.2.part, x.2.model))).eraseDups
  let rows := keys.map (fun (p, m) =>
    let mine := held.filter (fun x => x.2.part == p && x.2.model == m)
    (p, m, mine.foldl (fun k x => min k (slotPriority x.2)) 4,
      mine.foldl (fun k x => max k ((s.legCount + 2 ^ 32 - x.2.admittedLeg) % 2 ^ 32)) 0))
  rows.mergeSort (fun a b => if a.2.2.1 ≠ b.2.2.1 then decide (a.2.2.1 < b.2.2.1) else decide (b.2.2.2 ≤ a.2.2.2))

/-- Formations under way: contexts forming, and places being cleared for one. -/
def formingCount (s : State) : Nat :=
  (s.residents.filter (fun c => s.ctxState c == 1 || (s.ctx c).formsFor.isSome)).length

/-- A model that this node hosts experts of has no expert context yet (R307, R329). -/
def expertWanted (s : State) (m : Nat) : Bool :=
  s.modelValid m && s.entNow 4 m 0x10 8 != 0 && s.hostsExperts m && !s.residents.any (fun c => s.ctxExpert c && s.ctxModel c == m)

/-- CP0's look for contexts to form, at step 5 and at each step 4 (R332): at most four at once, none twice. -/
def formWanted (s : State) : State :=
  if s.fld (Reg.FW_STATUS 0) 3 0 ≠ 1 then s
  else
    let s := s.wanted.foldl (fun s (p, m, best, _) =>
      if 4 ≤ s.formingCount ∨ (s.findCtx p m).isSome = true ∨
          s.residents.any (fun c => (s.ctx c).formsFor == some (p, m)) = true then s
      else s.seekPlace p m best false) s
    (List.range 1024).foldl (fun s m =>
      if !s.expertWanted m || decide (4 ≤ s.formingCount) then s
      else match firstFrom (fun p => s.partValid p && s.modelServed m p) 0 32 with
        | some p =>
          if s.residents.any (fun c => (s.ctx c).formsFor == some (p, m)) then s else s.seekPlace p m 4 true
        | none => s) s

/-- A place has been cleared for a formation that waits for it (R333); while CP0 is down it waits for CP0 (R185). -/
def takePlace (s : State) (who : Option (Nat × Nat)) : State :=
  match who.filter (fun _ => s.fld (Reg.FW_STATUS 0) 3 0 == 1) with
  | none => s
  | some (p, m) =>
    let held := s.serving.slots.filter (fun x => x.2.state == 3 && x.2.part == p && x.2.model == m)
    if held.isEmpty then (if s.expertWanted m then s.seekPlace p m 4 true else s)
    else if (s.findCtx p m).isSome then s
    else s.seekPlace p m (held.foldl (fun k x => min k (slotPriority x.2)) 4) false

/-! Leaving. -/

/-- The slot of a context is quiet in every district of its rectangle. -/
def ctxQuiet (s : State) (c : Nat) : Bool := (s.ctxDistricts c).all (fun d => s.quiet d (s.ctxSlot c))

/-- EVICTION_QUIET (R334). -/
def evictionQuiet (s : State) (c : Nat) : State :=
  if s.ctxState c ≠ 4 ∨ s.ctxQuiet c = false then s
  else
    let x := s.ctx c
    let s := if x.leaving = 1 then s.bump Reg.SERVING_RES_EVICTED else s
    (s.releaseCtx c).takePlace x.formsFor

/-- DEMOTION_SAVE_DONE (R346): the slot quiet and no item of it in progress, the share of every core is copied into a save
allocation and the slot is cleared. -/
def demotionSaved (s : State) (c : Nat) : State :=
  if s.ctxState c ≠ 3 ∨ s.ctxQuiet c = false ∨ s.serving.items.any (fun i => i.context == c && i.started && !i.done) = true then s
  else
    let x := s.ctx c
    let n := x.shareSize * 65536
    let (s, h, st) := s.allocate ({ part := s.ctxPart c, flags := 0x04, granules := max 1 (s.saveGranules c), internal := true } : Alloc)
    if st ≠ 0 then s
    else
      let s := ((s.ctxCores c).zip (List.range (s.ctxCores c).length)).foldl (fun s (k, i) =>
        s.writeAlloc h (i * n) ((s.core k).scratch.bytes (x.shareBase * 65536) n)) s
      let s : State := { s with serving := { s.serving with saves := s.serving.saves ++
        [({ part := s.ctxPart c, model := s.ctxModel c, handle := h, expert := s.ctxExpert c } : Save)] } }
      (s.releaseCtx c).takePlace x.formsFor

/-- Saves whose sequences have all ended are freed (R347). -/
def dropSaves (s : State) : State :=
  let gone := s.serving.saves.filter (fun v => !s.serving.slots.any (fun x => x.2.part == v.part && x.2.model == v.model))
  let s := { s with serving := { s.serving with saves := s.serving.saves.filter (fun v => !gone.contains v) } }
  gone.foldl (fun s v => s.requestFree v.handle) s

/-- At a milestone, a demoting context whose item still runs has its task aborted as a data fault without an owner; no request
ends (R346). -/
def abortDemoting (s : State) : State :=
  s.residents.foldl (fun s c =>
    if s.ctxState c = 3 ∧ s.serving.items.any (fun i => i.context == c && i.started && !i.done) = true then
      s.abortTask c (some []) 0 0 false else s) s

/-! Sections. -/

/-- The next item of a context that waits for its rectangle. -/
def nextOf (s : State) (c : Nat) : Option Item := s.serving.items.find? (fun i => i.context == c && !i.done)

/-- Presses the section the next item of each ready context needs, when none of its items runs (R154, R157). -/
def pressSections (s : State) : State :=
  s.residents.foldl (fun s c =>
    match s.nextOf c with
    | none => s
    | some i =>
      if s.ctxState c = 2 ∧ i.started = false ∧ i.section_ ≠ (s.ctx c).pressed ∧ s.pressOpen c = false ∧
          s.seams.recs.any (fun x => x.2.pressCtx == some c) = false then s.openPress c i.section_ 0
      else s) s

end State

end Sys2Proof.Machine
end

