-- ==== Sys2Proof/Machine/Firmware.lean ====
section
/-!
DEFINITION. The control processors: their states, crashes and restarts, and the update by state hand-off (R409 to R412,
R419, R420), with the rules a boot image must pass (R475).
-/
namespace Sys2Proof.Machine

namespace State

/-- State of processor `c` (Table 15.20): 0 not started; 1 running; 2 restarting; 3 handing over; 4 held. -/
def cpState (s : State) (c : Nat) : Nat := s.fld (Reg.FW_STATUS c) 3 0
/-- The processor performs its duties. -/
def cpUp (s : State) (c : Nat) : Bool := s.cpState c == 1

/-- Sets the state of a processor; every change of FW_STATUSc raises vector 33 (R398). -/
def setCp (s : State) (c v : Nat) : State :=
  if s.cpState c = v then s else (s.setFld (Reg.FW_STATUS c) 3 0 v).raiseVector 0 33

/-- Writes FW_UPDATE_STATUS; a change raises vector 33 (R398). -/
def setUpdate (s : State) (step result : Nat) : State :=
  let v := step * 16 + result
  if s.rd Reg.FW_UPDATE_STATUS = v then s else (s.wr Reg.FW_UPDATE_STATUS v).raiseVector 0 33

/-- The keep-warm load stops at once in every core that runs it, until a step 6 finds that it may run (R55). -/
def stopKeepWarm (s : State) : State := { s with power := { s.power with kwStopped := true } }

/-- The keep-warm load may run (R54, R55). -/
def keepsWarm (s : State) : Bool := s.fld Reg.POWER_KW_CTRL 0 0 == 1 && !s.power.kwStopped

/-- State of a core as CORE_STATUS shows it: with the keep-warm load on, a core that waits for the work list runs it (R45), and so does an
idle one as far as the target asks; which of the idle ones do is not given and is free (R53, R54). -/
def coreShown (s : State) (c : Nat) : Nat :=
  let v := s.coreState c
  if s.keepsWarm = false then v
  else if v = 3 ∨ (v = 0 ∧ bit (Config.freeValue (s.free + c)).toNat 0 = true) then 2 else v

/-- A frequency on the 25 MHz grid, rounded down (R462). -/
def down25 (f : Nat) : Nat := f / 25 * 25

/-- The clock in force: the lowest of f_fw and the ceilings of the clamps that are active (R462, Table 17.6). -/
def setClock (s : State) : State :=
  let f := s.fld Reg.POWER_CLOCK 26 16
  let half := down25 (f / 2)
  let c : Nat := if s.fld Reg.POWER_STATUS 24 24 = 1 ∨ s.fld Reg.POWER_STATUS 23 23 = 1 then half else f
  s.setFld Reg.POWER_CLOCK 10 0 (if s.fld Reg.POWER_STATUS 25 25 = 1 then min 800 c else c)

/-- A clamp of POWER_STATUS bit `b` engages: counted once, the ceiling in force, the keep-warm load stopped (R465, R471). -/
def engage (s : State) (b : Nat) : State := (((s.setFld Reg.POWER_STATUS b b 1).bump Reg.POWER_CLAMPS).setClock).stopKeepWarm

/-- The ceiling of Table 17.6 while CP3 is down. -/
def cp3Down (s : State) : State := if s.fld Reg.POWER_STATUS 25 25 = 1 then s else s.engage 25

/-- A processor goes down for a reload: cause 1 watchdog, 2 exception, 3 self, 4 commanded (R410, Table 15.20). -/
def reload (s : State) (c cause : Nat) : State :=
  let s := (s.setFld (Reg.FW_STATUS c) 23 16 cause).setCp c 2
  let s : State := { s with host := { s.host with downSince := Tab.set s.host.downSince c s.now } }
  if c = 3 then s.cp3Down else s

/-- Starts the first waiting restart that still has something to restart (R412). -/
def nextRestart (s : State) : Nat → State
  | 0 => s
  | fuel + 1 =>
    match s.host.restarts with
    | [] => s
    | c :: rest =>
      if s.host.restarting.isSome ∨ s.host.update.isSome then s
      else
        let s : State := { s with host := { s.host with restarts := rest } }
        if s.cpState c = 1 then ({ s with host := { s.host with restarting := some c } }).reload c 4
        else nextRestart s fuel

/-- A restart asked by CP_RESTART or FW_RESTART (R412): held, not started, restarting and already waiting processors are left
as they are. -/
def askRestart (s : State) (c : Nat) : State :=
  let st := s.cpState c
  if st = 0 ∨ st = 4 ∨ st = 2 ∨ s.host.restarts.contains c = true then s
  else ({ s with host := { s.host with restarts := s.host.restarts ++ [c] } }).nextRestart 8

/-- The update ends without success: the processors that have handed over switch back, FW_UPDATE_FAILED is raised, and the
waiting restarts run (R420). -/
def revertUpdate (s : State) (c cause : Nat) : State :=
  match s.host.update with
  | none => s
  | some u =>
    let s := if s.cpState c = 3 then s.setCp c 1 else s
    let s := (s.setUpdate 0 3).event 0x0054 2 8 none [c, u.step, cause]
    ({ s with host := { s.host with update := none } }).nextRestart 8

/-- A crash (R410, R411): CP_CRASH, then the reload, or at the third within 60 s the processor is held down. A processor that
does not run cannot crash. -/
def crash (s : State) (c cause addr : Nat) : State :=
  if s.cpState c ≠ 1 ∧ s.cpState c ≠ 3 then s
  else
    let near := ((Tab.get [] s.host.crashes c).filter (fun t => decide (s.now < t + 6000000000))) ++ [s.now]
    let s : State := { s with host := { s.host with crashes := Tab.set s.host.crashes c near } }
    let s := s.event 0x0050 2 8 none [c, cause, addr]
    let s := s.reload c cause
    if 3 ≤ near.length then (s.setCp c 4).event 0x0052 3 8 none [c] else s

/-- Plans of every resident context are computed again (R182). -/
def replanAll (s : State) : State :=
  s.residents.foldl (fun s c => if (s.ctx c).plans.isEmpty then s else (s.writePlans (s.ctxPart c) (s.ctx c)).1) s

/-- One allocation message that waited for CP1 (Table 15.15). -/
def runDeferred (s : State) (d : Nat × Nat × List Byte) : State :=
  let t := fieldAt d.2.2 2 2
  if t = 0x0020 then s.msgAlloc d.1 d.2.2 else if t = 0x0021 then s.msgFree d.1 d.2.2 else s.msgPublish d.1 d.2.2

/-- CP_RESTART_DONE (R410): the processor resumes its duties, CP_RESTARTED tells the outage in µs, and what waited for it is
taken up. -/
def restartDone (s : State) (c : Nat) : State :=
  if s.cpState c ≠ 2 then s
  else
    let us := (s.now - Tab.get s.now s.host.downSince c) / 100
    let s := s.setFld (Reg.FW_STATUS c) 31 24 (min 255 (s.fld (Reg.FW_STATUS c) 31 24 + 1))
    let s := (s.setCp c 1).event 0x0051 0 8 none [c, us]
    let s : State := { s with host := { s.host with
      downSince := Tab.erase s.host.downSince c
      restarting := if s.host.restarting = some c then none else s.host.restarting } }
    let s :=
      if c = 0 then s.replanAll
      else if c = 1 then
        let d := s.host.deferred
        d.foldl runDeferred ({ s with host := { s.host with deferred := [] } })
      else s
    s.nextRestart 8

/-! Images. -/

/-- First check of R475 that an image fails, numbered as Table 18.8 numbers them: 1 header, 2 key slot, 3 signature, 4 svn,
5 digest; 0 for a valid image. -/
def imageCheck (s : State) (m : Mem) : Nat :=
  let f (o n : Nat) : Nat := leNat (m.bytes o n)
  let zero (o n : Nat) : Bool := (m.bytes o n).all (· == 0)
  let slot := f 6 1
  let key := Tab.get [] s.enclave.romKeys slot
  let digest (o n : Nat) : Nat := leNat (sha256 (m.bytes o n))
  if f 0 4 ≠ 0x544F4F42 ∨ f 4 2 ≠ 1 ∨ zero 7 1 = false ∨ zero 0xD 3 = false ∨ zero 0x24 28 = false ∨ zero 0x80 128 = false ∨
      3 < slot ∨ 63 < f 0xC 1 ∨ f 0x10 4 % 4096 ≠ 0 ∨ 67108864 < f 0x10 4 ∨ f 0x14 4 % 4096 ≠ 0 ∨ f 0x1C 4 % 4096 ≠ 0 then 1
  else if bit s.enclave.revoked.toNat slot = true ∨ Tab.find? s.enclave.keyHashes slot ≠
      some (BitVec.ofNat 256 (leNat (sha256 key))) then 2
  else if Config.slhDsaVerify key (m.bytes 0 256) (m.bytes 0x100 7856) = false then 3
  else if f 0xC 1 < s.enclave.minSvn then 4
  else if digest (f 0x14 4) (f 0x18 4) ≠ f 0x40 32 ∨ digest (f 0x1C 4) (f 0x20 4) ≠ f 0x60 32 then 5
  else 0

/-! Updates. -/

/-- Starts an update whose image is at hand (Table 18.2 verified by the enclave in step 1). -/
def startUpdate (s : State) (u : Update) : State :=
  ({ s with host := { s.host with update := some { u with step := 1 } } }).setUpdate 1 1

/-- An update or a restart runs (R412, R483). -/
def updateBusy (s : State) : Bool :=
  s.host.update.isSome || s.host.restarting.isSome || (List.range 4).any (fun c => s.cpState c == 2)

/-- FW_IMAGE_VERIFIED (Table 18.4 of R419): step 1 ends. A refused image changes nothing; an accepted one is loaded, and the
hand-offs begin at the next milestone (log entry 20). -/
def imageVerified (s : State) : State :=
  match s.host.update with
  | none => s
  | some u =>
    if u.step ≠ 1 then s
    else
      let ok := s.imageCheck u.image == 0
      let s := match u.host with
        | some (p, q) => s.reply p 0x0060 q (if ok then 0 else 0x21) 0
        | none => s
      if ok then ({ s with host := { s.host with update := some { u with verified := true, step := 2 } } }).setUpdate 2 1
      else (({ s with host := { s.host with update := none } }).setUpdate 0 4).nextRestart 8

/-- The processor that hands over at each step of Table 15.18: steps 3 to 6 are CP3, CP1, CP2, CP0. -/
def handOffCp (step : Nat) : Nat := [3, 1, 2, 0].getD (step - 3) 0

/-- The end of the update (step 7): the new image runs, and CP1 writes it to the boot bank that does not hold the image
running until then (R419). -/
def updateDone (s : State) (u : Update) : State :=
  let old := s.rd Reg.FW_VERSION
  let bank := 1 - s.enclave.runBank
  let f (o n : Nat) : Nat := leNat (u.image.bytes o n)
  let s : State := { s with
    store := { s.store with boot := Tab.set s.store.boot bank u.image }
    enclave := { s.enclave with runBank := bank, krovkaDigest := BitVec.ofNat 256 (f 0x60 32) }
    host := { s.host with update := none } }
  let v := f 8 4
  (((s.wr Reg.FW_VERSION v).setUpdate 0 2).event 0x0053 0 8 none [old, v]).nextRestart 8

/-- A hand-off begins: at a milestone after step 6, or for CP0 after step 5 (Table 15.18). -/
def beginHandOff (s : State) : State :=
  match s.host.update with
  | none => s
  | some u =>
    if u.step < 2 ∨ 6 ≤ u.step then s
    else
      let c := handOffCp (u.step + 1)
      if s.cpState c ≠ 1 then s
      else (({ s with host := { s.host with update := some { u with step := u.step + 1 } } }).setCp c 3).setUpdate (u.step + 1) 1

/-- The processor that was handing over has resumed: the next hand-off may follow, and after the last the update is done. -/
def endHandOff (s : State) : State :=
  match s.host.update with
  | none => s
  | some u =>
    if u.step < 3 then s
    else
      let c := handOffCp u.step
      if s.cpState c ≠ 3 then s
      else
        let s := s.setCp c 1
        let u := { u with handed := c :: u.handed }
        let s : State := { s with host := { s.host with update := some u } }
        if u.step = 6 then s.updateDone u else s

/-- FW_HANDOFF_TIMEOUT (R420): the processor handing over refuses the record's format, or has not resumed within 2 ms and is
treated as crashed; the update is reverted. -/
def handOffFailed (s : State) (refused : Bool) : State :=
  match s.host.update with
  | none => s
  | some u =>
    let c := handOffCp u.step
    if u.step < 3 ∨ s.cpState c ≠ 3 then s
    else
      let s := if refused then s else s.crash c 1 0
      s.revertUpdate c (if refused then 1 else 2)

end State

end Sys2Proof.Machine
end

