-- ==== Sys2Proof/Machine/Float.lean ====
section
/-!
DEFINITION. Exact arithmetic on the values of the narrow and wide number formats, and the one place where a value is rounded
(R82, R101, R109, R118). A finite value is a sign, a magnitude and a power of two, so sums and products are exact.
-/
namespace Sys2Proof.Machine

/-- The value of an element or of an FP32 word. -/
inductive FV where
  | nan
  | inf (neg : Bool)
  /-- (−1)^neg × m × 2^e. -/
  | fin (neg : Bool) (m : Nat) (e : Int)
deriving DecidableEq, Repr, Inhabited

namespace FV

/-- +0. -/
def zero : FV := .fin false 0 0
/-- A whole number. -/
def ofInt (n : Int) : FV := .fin (decide (n < 0)) n.natAbs 0
/-- A power of two. -/
def pow2 (e : Int) : FV := .fin false 1 e

/-- The sign bit of a value. -/
def neg : FV → Bool
  | nan => false
  | inf n => n
  | fin n _ _ => n

/-- The value is a NaN. -/
def isNan : FV → Bool
  | nan => true
  | _ => false
/-- The value is finite. -/
def isFin : FV → Bool
  | fin .. => true
  | _ => false
/-- The value is infinite. -/
def isInf : FV → Bool
  | inf _ => true
  | _ => false
/-- The value is a zero. -/
def isZero : FV → Bool
  | fin _ m _ => m == 0
  | _ => false

/-- Magnitude of a value. -/
def abs : FV → FV
  | nan => nan
  | inf _ => inf false
  | fin _ m e => fin false m e
/-- The value with its sign turned. -/
def negate : FV → FV
  | nan => nan
  | inf n => inf (!n)
  | fin n m e => fin (!n) m e

/-- A finite value as a whole multiple of 2^lo, for lo no more than its exponent. -/
def scaled (n : Bool) (m : Nat) (e lo : Int) : Int :=
  let v : Int := (m * 2 ^ (e - lo).toNat : Nat)
  if n then -v else v

/-- Exact sum; the sign of a zero sum is that of round-to-nearest (IEEE 754). -/
def add : FV → FV → FV
  | nan, _ => nan
  | _, nan => nan
  | inf a, inf b => if a = b then inf a else nan
  | inf a, _ => inf a
  | _, inf b => inf b
  | fin a m e, fin b k f =>
    if m = 0 ∧ k = 0 then fin (a && b) 0 0
    else
      let lo := min e f
      let s := scaled a m e lo + scaled b k f lo
      fin (decide (s < 0)) s.natAbs lo

/-- Exact product. -/
def mul : FV → FV → FV
  | nan, _ => nan
  | _, nan => nan
  | inf a, inf b => inf (a != b)
  | inf a, fin b m _ => if m = 0 then nan else inf (a != b)
  | fin b m _, inf a => if m = 0 then nan else inf (a != b)
  | fin a m e, fin b k f => fin (a != b) (m * k) (e + f)

/-- The order of two finite or infinite values: true if the first is less. NaN is less than nothing. -/
def lt (x y : FV) : Bool :=
  match x, y with
  | nan, _ => false
  | _, nan => false
  | inf a, inf b => a && !b
  | inf a, fin .. => a
  | fin .., inf b => !b
  | fin a m e, fin b k f =>
    let lo := min e f
    decide (scaled a m e lo < scaled b k f lo)

/-- The two values are numerically equal. -/
def eq (x y : FV) : Bool := !x.isNan && !y.isNan && !x.lt y && !y.lt x

/-- Bits in a magnitude. -/
def bitLen (m : Nat) : Nat := if m = 0 then 0 else Nat.log2 m + 1

/-- A magnitude rounded to nearest-even at `p` significand bits and no finer than 2^emin. -/
def roundNE (p : Nat) (emin : Int) (m : Nat) (e : Int) : Nat × Int :=
  let drop : Int := max ((bitLen m : Int) - p) (emin - e)
  if drop ≤ 0 then (m, e)
  else
    let k := drop.toNat
    let q := m / 2 ^ k
    let r := m % 2 ^ k
    let half := 2 ^ (k - 1)
    (if half < r ∨ (r = half ∧ q % 2 = 1) then q + 1 else q, e + k)

/-- A value rounded to `p` significand bits, its exponent unbounded. -/
def roundSig (p : Nat) : FV → FV
  | fin n m e => let (q, f) := roundNE p (e - 1000000) m e; fin n q f
  | v => v

/-- floor(log2 |v|) of a finite value that is not zero. -/
def log2Floor : FV → Int
  | fin _ m e => (bitLen m : Int) - 1 + e
  | _ => 0

/-- The value of an FP32 word (Table 4.2). -/
def ofW32 (w : BitVec 32) : FV :=
  let n := w.toNat
  let s := bit n 31
  let ex := bits n 30 23
  let m := bits n 22 0
  if ex = 255 then (if m = 0 then inf s else nan)
  else if ex = 0 then fin s m (-149)
  else fin s (2 ^ 23 + m) ((ex : Int) - 150)

/-- The FP32 word of a magnitude that FP32 represents. -/
def encode32 (n : Bool) (m : Nat) (e : Int) : BitVec 32 :=
  let s := b2n n * 2 ^ 31
  if m = 0 then BitVec.ofNat 32 s
  else
    let top := (bitLen m : Int) - 1 + e
    if 127 < top then BitVec.ofNat 32 (s + 255 * 2 ^ 23)
    else
      let lo : Int := if top < -126 then -149 else top - 23
      let q := if lo ≤ e then m * 2 ^ (e - lo).toNat else m / 2 ^ (lo - e).toNat
      BitVec.ofNat 32 (s + (if top < -126 then q else (top + 127).toNat * 2 ^ 23 + (q - 2 ^ 23)))

/-- A value rounded to FP32, nearest-even, subnormals kept; `nanWord` is what a NaN becomes. -/
def toW32 (nanWord : BitVec 32) : FV → BitVec 32
  | nan => nanWord
  | inf n => BitVec.ofNat 32 (b2n n * 2 ^ 31 + 255 * 2 ^ 23)
  | fin n m e => let (q, f) := roundNE 24 (-149) m e; encode32 n q f

/-- The value after rounding to FP32. -/
def round32 (v : FV) : FV := match v with
  | nan => nan
  | v => ofW32 (toW32 0 v)

/-- A quotient rounded once to FP32: enough bits of the quotient, with the remainder kept as a last bit (R316). -/
def div32 (x y : FV) : FV :=
  match x, y with
  | fin a m e, fin b k f =>
    if k = 0 then (if m = 0 then nan else inf (a != b))
    else
      let sh := bitLen k + 32
      let q := m * 2 ^ sh / k
      let r := m * 2 ^ sh % k
      round32 (fin (a != b) (2 * q + (if r = 0 then 0 else 1)) (e - f - sh - 1))
  | inf a, fin b _ _ => inf (a != b)
  | fin a _ _, inf b => fin (a != b) 0 0
  | _, _ => nan

end FV

/-- A quiet NaN whose sign and payload are free. -/
def freeNan (v : BitVec 64) : BitVec 32 :=
  BitVec.ofNat 32 (bits v.toNat 31 31 * 2 ^ 31 + 0x7FC00000 + bits v.toNat 21 0)

end Sys2Proof.Machine
end

