-- ==== Sys2Proof/Machine/Formats.lean ====
section
/-!
DEFINITION. The narrow formats: element encodings, packing and block scales (R100 to R107), and conversion to them with its
rounding and counts (R116 to R123).
-/
namespace Sys2Proof.Machine

/-! Format codes (Table 4.1). -/

/-- Element bits of a format; ternary is packed by blocks and has none. -/
def fmtBits (f : Nat) : Nat :=
  match f with
  | 0x01 => 4 | 0x02 => 6 | 0x03 => 6 | 0x04 => 8 | 0x05 => 8 | 0x06 => 8 | 0x07 => 16 | 0x08 => 32
  | 0x09 => 8 | 0x0A => 4 | 0x0B => 2 | 0x0D => 1 | 0x0E => 3 | _ => 0
/-- The format has a block scale. -/
def fmtScaled (f : Nat) : Bool := [0x01, 0x02, 0x03, 0x04, 0x0C, 0x0D, 0x0E].contains f
/-- Usable for weights. -/
def fmtWeight (f : Nat) : Bool := decide (1 ≤ f) && decide (f ≤ 0x0E) && f != 0x08
/-- Usable for activations. -/
def fmtAct (f : Nat) : Bool := [0x01, 0x02, 0x03, 0x04, 0x05, 0x06, 0x07, 0x09, 0x0A].contains f
/-- Usable as a DRAIN output. -/
def fmtDrain (f : Nat) : Bool := decide (1 ≤ f) && decide (f ≤ 0x0A)
/-- Usable by VCVT. -/
def fmtVcvt (f : Nat) : Bool := fmtWeight f

/-- K per block of an operand pair (Table 3.4; the later row governs). -/
def kOf (wf af : Nat) : Nat :=
  if af = 0x01 ∨ af = 0x0A then (if wf = 0x0B then 256 else if wf = 0x0C ∨ wf = 0x0D then 512 else 128) else 128

/-- The MMAC is of the integer class (R108). -/
def intClass (wf af : Nat) (darn : Bool) : Bool :=
  [0x09, 0x0A, 0x0B].contains wf && [0x09, 0x0A].contains af && !darn

/-- Run length in bytes of K elements (R106). -/
def runBytes (f k : Nat) : Nat := if f = 0x0C then k / 32 * 7 else k * fmtBits f / 8

/-! Decoding (R101 to R107). -/

/-- A float element with `eb` exponent bits, `mb` mantissa bits and a bias. -/
def smallFloat (eb mb : Nat) (bias : Int) (n : Nat) : FV :=
  let s := bit n (eb + mb)
  let e := bits n (eb + mb - 1) mb
  let m := n % 2 ^ mb
  if e = 0 then .fin s m (1 - bias - mb) else .fin s (2 ^ mb + m) (e - bias - mb)

/-- A two's complement number of `w` bits. -/
def signedOf (w n : Nat) : Int := if n < 2 ^ (w - 1) then n else (n : Int) - 2 ^ w

/-- The value of an element, before its block scale (Tables 4.2, 4.3, 4.4); a negative zero decodes as zero. -/
def decodeElem (f n : Nat) : FV :=
  let v : FV :=
    match f with
    | 0x01 => smallFloat 2 1 1 n
    | 0x02 => smallFloat 2 3 1 n
    | 0x03 => smallFloat 3 2 3 n
    | 0x04 => let i := signedOf 8 n; .fin (decide (i < 0)) i.natAbs (-6)
    | 0x05 => if n % 128 = 127 then .nan else smallFloat 4 3 7 n
    | 0x06 => if bits n 6 2 = 31 then (if n % 4 = 0 then .inf (bit n 7) else .nan) else smallFloat 5 2 15 n
    | 0x07 => FV.ofW32 (BitVec.ofNat 32 (n * 65536))
    | 0x08 => FV.ofW32 (BitVec.ofNat 32 n)
    | 0x09 => FV.ofInt (signedOf 8 n)
    | 0x0A => FV.ofInt (signedOf 4 n)
    | 0x0B => FV.ofInt (signedOf 2 n)
    | 0x0D => FV.ofInt (if n % 2 = 1 then 1 else -1)
    | 0x0E => .fin (bit n 2) ([0, 1, 2, 4].getD (n % 4) 0) 0
    | _ => .nan
  if v.isZero then FV.zero else v

/-- The factor of an E8M0 scale byte (R103). -/
def scaleOf (b : Nat) : FV := if b = 255 then .nan else FV.pow2 ((b : Int) - 127)

/-- A ternary byte of `n` trits; one out of range gives zero trits (R105). -/
def trits (n b : Nat) : List Int × Nat :=
  if 3 ^ n ≤ b then (List.replicate n 0, 1) else ((List.range n).map (fun i => ((b / 3 ^ i % 3 : Nat) : Int) - 1), 0)

/-- The 32 elements of a ternary block and the bad codes met. -/
def ternaryBlock (b : List Byte) : List FV × Nat :=
  let parts := (List.range 7).map (fun i => trits (if i = 6 then 2 else 5) (b.getD i 0).toNat)
  (parts.flatMap (fun p => p.1.map FV.ofInt), (parts.map (·.2)).sum)

/-- The first `k` elements of a run, unscaled, and the bad codes met (R104, R105). -/
def runElems (f k : Nat) (b : List Byte) : List FV × Nat :=
  if f = 0x0C then
    let blocks := (List.range (k / 32)).map (fun j => ternaryBlock (sliceBytes b (7 * j) 7))
    (blocks.flatMap (·.1), (blocks.map (·.2)).sum)
  else
    let n := leNat b
    let w := fmtBits f
    ((List.range k).map (fun i => decodeElem f (n / 2 ^ (i * w) % 2 ^ w)), 0)

/-- Factor of block `j` of a run: its scale byte, or 1 for a format without block scales. -/
def runScale (f : Nat) (scales : List Byte) (j : Nat) : FV :=
  if fmtScaled f then scaleOf (scales.getD j 0).toNat else FV.pow2 0

/-! Encoding (R116 to R121). -/

/-- Magnitudes a format represents, ascending, with their codes, for the formats where the list is short: E2M1, E2M3, E3M2,
E4M3, G3. -/
def magTable (f : Nat) : List FV :=
  match f with
  | 0x01 => (List.range 8).map (fun i => (decodeElem 0x01 i).abs)
  | 0x02 => (List.range 32).map (fun i => (decodeElem 0x02 i).abs)
  | 0x03 => (List.range 32).map (fun i => (decodeElem 0x03 i).abs)
  | 0x05 => (List.range 127).map (fun i => (decodeElem 0x05 i).abs)
  | 0x06 => (List.range 124).map (fun i => (decodeElem 0x06 i).abs)
  | 0x04 => (List.range 128).map (fun i => (decodeElem 0x04 i).abs)
  | 0x09 => (List.range 128).map (fun (i : Nat) => FV.ofInt i)
  | 0x0A => (List.range 8).map (fun (i : Nat) => FV.ofInt i)
  | 0x0B => (List.range 2).map (fun (i : Nat) => FV.ofInt i)
  | 0x0C => (List.range 2).map (fun (i : Nat) => FV.ofInt i)
  | 0x0E => (List.range 4).map (fun i => FV.ofInt ([0, 1, 2, 4].getD i 0))
  | _ => []

/-- The largest finite magnitude of a format. -/
def maxFinite (f : Nat) : FV :=
  if f = 0x07 then .fin false 255 120 else if f = 0x08 then .fin false (2 ^ 24 - 1) 104 else (magTable f).getLastD FV.zero

/-- The magnitudes of a format about a finite magnitude below its largest: code and value of the largest not above it, and
of the next. -/
def neighbours (f : Nat) (v : FV) : (Nat × FV) × (Nat × FV) :=
  if f = 0x07 then
    match v with
    | .fin _ m e =>
      let top := (FV.bitLen m : Int) - 1 + e
      let lo : Int := if top < -126 then -133 else top - 7
      let q := if lo ≤ e then m * 2 ^ (e - lo).toNat else m / 2 ^ (lo - e).toNat
      let code (x : FV) : Nat := match x with
        | .fin _ a b => (FV.encode32 false a b).toNat / 65536
        | _ => 0
      let a : FV := .fin false q lo
      let b : FV := .fin false (q + 1) lo
      ((code a, a), (code b, b))
    | _ => ((0, FV.zero), (0, FV.zero))
  else
    let t := (magTable f).zip (List.range 128)
    let below := (t.filter (fun x => !v.lt x.1)).getLastD (FV.zero, 0)
    let above := (t.find? (fun x => v.lt x.1)).getD below
    ((below.2, below.1), (above.2, above.1))

/-- Midpoint of two magnitudes. -/
def midpoint (a b : FV) : FV := FV.mul (FV.add a b) (FV.pow2 (-1))

/-- Nearest-even code of a magnitude below the largest: a midway value goes to the neighbour whose code has its lowest bit 0,
and for ternary to 0 (R118). -/
def nearest (f : Nat) (v : FV) : Nat :=
  let (lo, hi) := neighbours f v
  let mid := midpoint lo.2 hi.2
  if v.lt mid then lo.1 else if mid.lt v then hi.1 else if f = 0x0C then 0 else if lo.1 % 2 = 0 then lo.1 else hi.1

/-- The element code of a sign and a magnitude code. The sign of a zero is kept in the floating formats, and G3's code 0b100 is
never made (R102). -/
def signed (f : Nat) (neg : Bool) (mag : Nat) : Nat :=
  match f with
  | 0x01 => b2n neg * 8 + mag
  | 0x02 => b2n neg * 32 + mag
  | 0x03 => b2n neg * 32 + mag
  | 0x05 => b2n neg * 128 + mag
  | 0x06 => b2n neg * 128 + mag
  | 0x07 => b2n neg * 32768 + mag
  | 0x0E => if mag = 0 then 0 else b2n neg * 4 + mag
  | 0x0C => if mag = 0 then 1 else if neg then 0 else 2
  | _ =>
    let w := fmtBits f
    if neg then (2 ^ w - mag) % 2 ^ w else mag

/-- What a conversion adds to the counters of R126: saturations, NaNs. -/
structure CvtCount where
  sat : Nat := 0
  nan : Nat := 0
deriving DecidableEq, Repr

/-- The supply of random bits of stochastic rounding; none rounds to nearest-even. -/
abbrev Supply := Option (List Nat)

/-- A finite value draws from the supply under stochastic rounding (R121). -/
def draws (f : Nat) (v : FV) : Bool :=
  match v with
  | .fin .. => f != 0x08 && v.abs.lt (maxFinite f) && (neighbours f v.abs).1.2 != v.abs && !FV.eq (neighbours f v.abs).1.2 v.abs
  | _ => false

/-- Rounds a finite value that is not beyond the largest magnitude: its code, and the supply left (R118, R121). -/
def roundElem (f : Nat) (v : FV) (sup : Supply) : Nat × Supply :=
  let a := v.abs
  if f = 0x07 ∧ FV.eq a (maxFinite f) = true then (signed f v.neg 0x7F7F, sup)
  else if f ≠ 0x07 ∧ a.lt (maxFinite f) = false then (signed f v.neg ((magTable f).length - 1), sup)
  else
    let (lo, hi) := neighbours f a
    if FV.eq lo.2 a then (signed f v.neg lo.1, sup)
    else match sup with
      | none => (signed f v.neg (nearest f a), sup)
      | some l =>
        -- floor((a − lo) / (hi − lo) × 65536) against the next 16 bits: r < f iff r × (hi − lo) < (a − lo) × 65536 rounded down
        let d := FV.add a lo.2.negate
        let g := FV.add hi.2 lo.2.negate
        let r := l.headD 0
        let up := !(FV.mul d (FV.pow2 16)).lt (FV.mul g (FV.ofInt (r + 1)))
        (signed f v.neg (if up then hi.1 else lo.1), some l.tail)

/-- Conversion of a value to a format without a block scale (R119): clamps and NaNs are counted. -/
def convertPlain (f : Nat) (v : FV) (sup : Supply) : Nat × Supply × CvtCount :=
  let isInt := [0x09, 0x0A, 0x0B].contains f
  let clampTo (neg : Bool) : Nat := signed f neg (if f = 0x07 then 0x7F7F else (magTable f).length - 1)
  match v with
  | .nan => (if isInt then 0 else if f = 0x07 then 0x7FC0 else 0x7F, sup, { nan := 1 })
  | .inf n =>
    if f = 0x06 then (b2n n * 128 + 0x7C, sup, {})
    else if f = 0x07 then (b2n n * 32768 + 0x7F80, sup, {})
    else (clampTo n, sup, { sat := 1 })
  | .fin .. =>
    if (maxFinite f).lt v.abs then (clampTo v.neg, sup, { sat := 1 })
    else let (c, sup) := roundElem f v sup; (c, sup, {})

/-- emax of a format with a block scale (R117). -/
def emaxOf (f : Nat) : Int := if f = 0x01 ∨ f = 0x02 ∨ f = 0x0E then 2 else if f = 0x03 then 4 else 0

/-- Largest magnitude of a list, NaN ignored. -/
def amaxOf (l : List FV) : FV := l.foldl (fun m v => if m.lt v.abs then v.abs else m) FV.zero

/-- floor(log2(x) + 0.5) of a magnitude that is not zero: x against the square root of 2 by squares. -/
def log2Round (x : FV) : Int :=
  let k := x.log2Floor
  let y := FV.mul x (FV.pow2 (-k))
  if (FV.mul y y).lt (FV.ofInt 2) then k else k + 1

/-- The scale byte of a block that is neither all zero nor holds a NaN or infinity (R117). -/
def scaleByte (f : Nat) (block : List FV) : Nat :=
  let e : Int :=
    if f = 0x0D then log2Round (FV.mul (block.foldl (fun s v => FV.add s v.abs) FV.zero) (FV.pow2 (-5)))
    else (amaxOf block).log2Floor - emaxOf f
  (min 254 (max 0 (e + 127))).toNat

/-- Converts a block of 32 values (R117): scale byte and codes. Binary has no code for the +0 of a block that holds a NaN or an infinity:
its elements take the bit 0 (DESIGN CHOICE, log entry 144). -/
def convertBlock (f : Nat) (block : List FV) (sup : Supply) : Nat × List Nat × Supply × CvtCount :=
  if block.any (fun v => !v.isFin) then
    (255, block.map (fun _ => if f = 0x0C then 1 else 0), sup, { nan := 1 })
  else if f ≠ 0x0D ∧ (amaxOf block).isZero = true then (0, block.map (fun _ => if f = 0x0C then 1 else 0), sup, {})
  else if f = 0x0D then
    ((if (amaxOf block).isZero then 0 else scaleByte f block), block.map (fun v => if v.neg && !v.isZero then 0 else 1), sup, {})
  else
    let e := scaleByte f block
    let (codes, sup) := block.foldl (fun (acc : List Nat × Supply) v =>
      let x := FV.mul v (FV.pow2 (127 - (e : Int)))
      let (c, sup) :=
        if (maxFinite f).lt x.abs then (signed f x.neg ((magTable f).length - 1), acc.2) else roundElem f x acc.2
      (acc.1 ++ [c], sup)) ([], sup)
    (e, codes, sup, {})

/-- Packs element codes of a format into bytes (R104, R105). -/
def packRun (f : Nat) (codes : List Nat) : List Byte :=
  if f = 0x0C then
    (List.range (codes.length / 32)).flatMap (fun j =>
      let b := (codes.drop (32 * j)).take 32
      let byte (o n : Nat) : Byte :=
        BitVec.ofNat 8 ((List.range n).foldl (fun a i => a + b.getD (o + i) 1 * 3 ^ i) 0)
      (List.range 6).map (fun k => byte (5 * k) 5) ++ [byte 30 2])
  else
    let w := fmtBits f
    leBytes ((codes.length * w + 7) / 8) ((codes.zip (List.range codes.length)).foldl (fun a c => a + c.1 % 2 ^ w * 2 ^ (c.2 * w)) 0)

/-! The rounding register (R122). -/

/-- The exclusive-or of some bits of a word. -/
def parity (w : BitVec 32) (l : List Nat) : Bool := l.foldl (fun p i => Bool.xor p (w.getLsbD i)) false

/-- One step of a 32-bit linear-feedback shift register of the polynomial x³² + x²² + x² + x + 1, in the form the module
builds it: shifting left or right, the feedback gathered (Fibonacci) or spread (Galois). The form is free. -/
def lfsrStep (w : BitVec 32) : BitVec 32 :=
  match Config.lfsrForm % 5 with
  | 0 => (w <<< 1) ||| (if parity w [31, 21, 1, 0] then 1 else 0)
  | 1 => (w >>> 1) ||| (if parity w [0, 10, 30, 31] then 0x80000000 else 0)
  | 2 => if w.getLsbD 31 then (w <<< 1) ^^^ 0x00400007 else w <<< 1
  | 3 => if w.getLsbD 0 then (w >>> 1) ^^^ 0xE0000200 else w >>> 1
  | _ => if w.getLsbD 0 then (w >>> 1) ^^^ 0x80200003 else w >>> 1

/-- `n` steps of the register. -/
def lfsrSteps : Nat → BitVec 32 → BitVec 32
  | 0, w => w
  | n + 1, w => lfsrSteps n (lfsrStep w)

/-- The random bits of `n` elements, and the register after them: 16 steps each, then the low 16 bits (R122). -/
def lfsrDraw : Nat → BitVec 32 → List Nat × BitVec 32
  | 0, w => ([], w)
  | n + 1, w =>
    let w' := lfsrSteps 16 w
    let (l, e) := lfsrDraw n w'
    (w'.toNat % 65536 :: l, e)

/-- A list in an order that free values fix, from draw `base` on: where the manual gives no order. -/
def shuffle {α : Type} (base : Nat) : Nat → List α → List α
  | 0, l => l
  | n + 1, l =>
    let i := (Config.freeValue (base + n)).toNat % max 1 l.length
    match l[i]? with
    | none => l
    | some x => x :: shuffle base n (l.eraseIdx i)

end Sys2Proof.Machine
end

