-- ==== Sys2Proof/Machine/CoreOps.lean ====
section
/-!
DEFINITION. One core at work: fetching and issuing an instruction (R63, R69 to R72), scratchpad accesses (R86, R87), tile entry
(R65), core faults (R96), taking items (R279, R341, R342), tile boundaries (R67) and the end of an item (R154, R155).
-/
namespace Sys2Proof.Machine

/-! Instruction fields (Table 3.2), of the 64-bit word as a number. -/

/-- Predicate index. -/ def iPred (w : Nat) : Nat := bits w 55 52
/-- Predicate inversion. -/ def iNeg (w : Nat) : Bool := bit w 51
/-- Destination. -/ def iD (w : Nat) : Nat := bits w 50 45
/-- First source. -/ def iA (w : Nat) : Nat := bits w 44 39
/-- Second source. -/ def iB (w : Nat) : Nat := bits w 38 33
/-- Immediate. -/ def iImm (w : Nat) : Nat := bits w 31 0
/-- Accumulator tile. -/ def iTile (w : Nat) : Nat := bits w 32 30
/-- Number of rows. -/ def iRows (w : Nat) : Nat := bits w 29 23 + 1
/-- acc. -/ def iAcc (w : Nat) : Bool := bit w 22
/-- darn. -/ def iDarn (w : Nat) : Bool := bit w 21
/-- Branch target. -/ def iTarget (w : Nat) : Nat := bits w 32 21
/-- Loop count. -/ def iCount (w : Nat) : Nat := bits w 20 0

/-- Reserved bits of format R are not 0. -/ def resR (w : Nat) : Bool := bits w 32 0 != 0
/-- The reserved bit of format I is not 0. -/ def resI (w : Nat) : Bool := bit w 32
/-- Reserved bits of format M are not 0; darn is reserved but for MMAC. -/
def resM (w : Nat) : Bool := bits w 20 0 != 0 || iDarn w

/-- What an instruction comes to at issue. -/
inductive Res where
  /-- It completes. -/
  | done (s : State)
  /-- It waits: nothing changes, and the command may come again. -/
  | wait
  /-- It completes and the next instruction is `t`. -/
  | jump (t : Nat) (s : State)
  /-- It pushes a loop and goes on, or skips its body. -/
  | skip (t : Nat) (s : State)
  /-- A core fault, with a detail. -/
  | fault (code detail : Nat)
  /-- A tile boundary; true for END. -/
  | bound (last : Bool)

/-! Registers. -/

/-- s[n]; s0 reads 0 (R66). -/
def Core.s (k : Core) (n : Nat) : W64 := if n = 0 then 0 else Tab.get 0 k.scal n
/-- Writes s[n]; a write to s0 is discarded (R66). -/
def Core.setS (k : Core) (n : Nat) (v : W64) : Core := if n = 0 then k else { k with scal := Tab.put 0 k.scal n v }
/-- p[n]; p0 reads 1 (R66). -/
def Core.p (k : Core) (n : Nat) : Bool := n == 0 || k.pred.getLsbD n
/-- Writes p[n]; a write to p0 is discarded (R66). -/
def Core.setP (k : Core) (n : Nat) (v : Bool) : Core :=
  if n = 0 then k else { k with pred := (k.pred &&& ~~~((1 : BitVec 16) <<< n)) ||| (if v then (1 : BitVec 16) <<< n else 0) }
/-- v[n]. -/
def Core.v (k : Core) (n : Nat) : BitVec 2048 := Tab.get 0 k.vec n
/-- Writes v[n]. -/
def Core.setV (k : Core) (n : Nat) (v : BitVec 2048) : Core := { k with vec := Tab.put 0 k.vec n v }

/-- Lane `i` of a vector register. -/
def lane (v : BitVec 2048) (i : Nat) : W32 := v.extractLsb' (32 * i) 32
/-- The 64 lanes. -/
def lanes (v : BitVec 2048) : List W32 := (List.range 64).map (lane v)
/-- A number of lanes from the lowest. -/
def lanesNat : List W32 → Nat
  | [] => 0
  | x :: t => x.toNat + 2 ^ 32 * lanesNat t
/-- A vector register of lanes. -/
def ofLanes (l : List W32) : BitVec 2048 := BitVec.ofNat 2048 (lanesNat l)

/-- The next instruction after `pc`, and the loop stack: the end of a body goes back to its first instruction until its passes are
used up (R70). -/
def afterPc : List (Nat × Nat × Nat) → Nat → Nat × List (Nat × Nat × Nat)
  | [], pc => (pc + 1, [])
  | (first, last, left) :: rest, pc =>
    if pc = last then (if 1 < left then (first, (first, last, left - 1) :: rest) else afterPc rest pc)
    else (pc + 1, (first, last, left) :: rest)

/-- A branch pops the loops whose body it leaves (R70). -/
def popLoops (t : Nat) : List (Nat × Nat × Nat) → List (Nat × Nat × Nat)
  | [] => []
  | (first, last, left) :: rest => if first ≤ t ∧ t ≤ last then (first, last, left) :: rest else popLoops t rest

namespace State

/-! Scratchpad. -/

/-- `n` bytes at `a` lie in the active slot's share and outside the journal (R86). -/
def inShare (s : State) (c slot a n : Nat) : Bool :=
  let v := s.rd (Reg.CORE_SHARE0 c + 4 * slot)
  let base := bits v 5 0
  decide (base * 65536 ≤ a) && decide (a + n ≤ (base + bits v 13 8) * 65536) && decide (a + n ≤ 0x2FFC00)

/-- A unit of the range is unreadable (R87). -/
def scratchBad (s : State) (c a n : Nat) : Bool :=
  (s.core c).bad.any (fun u => decide (u * 16 < a + n) && decide (a < u * 16 + 16))

/-- The fault of an access by a tile, if any: alignment, bounds, then an error met (R86, R87). -/
def accessFault (s : State) (c a n align : Nat) : Option Nat :=
  if a % align ≠ 0 then some 0x04
  else if n = 0 then none
  else if !s.inShare c (s.activeSlot c) a n then some 0x03
  else if s.scratchBad c a n then some 0x05 else none

/-- The fault of a write: units it wholly covers are rewritten and meet no error. -/
def storeFault (s : State) (c a n align : Nat) : Option Nat :=
  if a % align ≠ 0 then some 0x04
  else if n = 0 then none
  else if !s.inShare c (s.activeSlot c) a n then some 0x03
  else if (s.core c).bad.any (fun u => decide (u * 16 < a + n) && decide (a < u * 16 + 16) &&
      !(decide (a ≤ u * 16) && decide (u * 16 + 16 ≤ a + n))) then some 0x05 else none

/-- Bytes of a core's scratchpad. -/
def scratch (s : State) (c a n : Nat) : List Byte := (s.core c).scratch.bytes a n
/-- Writes a core's scratchpad; a unit wholly written is readable again. -/
def setScratch (s : State) (c a : Nat) (v : List Byte) : State :=
  s.updCore c (fun k => { k with
    scratch := k.scratch.write a v
    bad := k.bad.filter (fun u => !(decide (a ≤ u * 16) && decide (u * 16 + 16 ≤ a + v.length))) })

/-! Counters of the arithmetic (R126). -/

/-- Adds to CORE_ARITH_SAT, OVF, NAN and BADCODE; a limb that reaches its limit raises ARITH_LIMIT once a leg. The detail's number of the
limb, 0 saturation and 1 overflow, and the first of the two where one instruction reaches both, are log entry 126. -/
def countArith (s : State) (c sat ovf nan bad : Nat) : State :=
  let s := (((s.bumpSat (Reg.CORE_ARITH_SAT c) sat).bumpSat (Reg.CORE_ARITH_OVF c) ovf).bumpSat (Reg.CORE_ARITH_NAN c) nan).bumpSat
    (Reg.CORE_ARITH_BADCODE c) bad
  let k := s.core c
  let a := k.legSat + sat
  let b := k.legOvf + ovf + nan
  let ls := bits k.limitNow.toNat 15 0
  let lo := bits k.limitNow.toNat 31 16
  let hitS := decide (0 < ls) && decide (ls ≤ a)
  let hitO := decide (0 < lo) && decide (lo ≤ b)
  let s := s.updCore c (fun k => { k with legSat := a, legOvf := b, limitRaised := k.limitRaised || hitS || hitO })
  if (hitS || hitO) && !k.limitRaised then
    s.event 0x0002 1 0 (s.districtOwner (districtOf c)) [c % 32, c / 32, if hitS then 0 else 1]
  else s

/-! Items. -/

/-- Arguments of an item (Table 10.7). -/
def itemArgs (s : State) (i : Item) : Tab W64 :=
  let w (v : Nat) : W64 := BitVec.ofNat 64 v
  let x := s.ctx i.context
  [w i.plan, w i.len, w i.blocks, w (x.batchArea + i.list * 2 ^ 20), w x.seamPort, w (i.leg % 2 ^ 32),
    w (i.seqs.length + i.slipAge % 256 * 2 ^ 8 + i.section_ % 256 * 2 ^ 16 + b2n i.last * 2 ^ 24), w i.index].zip (List.range 8) |>.foldl
    (fun t p => Tab.put 0 t (p.2 + 1) p.1) []

/-- Tile entry (R65): the accumulator's contents are open. -/
def enterTile (s : State) (c pc : Nat) (args : Tab W64) : State :=
  let base := s.free
  let now := s.now
  (s.drawn 65536).updCore c (fun k => { k with
    scal := args, pred := 1, vec := [], pc := pc, loops := [], active := {}, inactive := {}, darns := [], acc := [], accBase := base
    accClass := [], boundary := none, tileStart := now })

/-- The inbox of an expert context holds a granted row (R307, R341). -/
def inboxFull (s : State) (c : Nat) : Bool := s.expert.hosted.any (fun h => h.model == s.ctxModel c && h.row.isSome)

/-- Some core of the context runs a tile of another item of it: a pattern runs the tiles of one item at a time (R154). -/
def otherRuns (s : State) (i : Item) : Bool :=
  (s.ctxCores i.context).any (fun x => s.coreState x == 1 && s.activeSlot x == s.ctxSlot i.context && (s.core x).item != some i.uid)

/-- A core may take an item: it is of the item's rectangle and has not ended it, the section is pressed, no other item of it runs and its
slot may run (R154, R158, R159, R162); a standing item runs while its inbox holds a row (R341). -/
def takeable (s : State) (c : Nat) (i : Item) : Bool :=
  !i.done && !s.otherRuns i && !i.ended.contains c && s.leg.owed.isNone && (s.ctxDistricts i.context).contains (districtOf c) && (s.ctx i.context).pressed == i.section_ &&
    s.slotValid c (s.ctxSlot i.context) && !s.pressOpen i.context && decide (s.distState (districtOf c) < 4) &&
    (!i.standing || s.inboxFull i.context)

/-- Item `j` pre-empts item `i` (R341). -/
def preempts (s : State) (j i : Item) : Bool :=
  s.ctxSlot j.context != s.ctxSlot i.context && !i.standing &&
    (j.standing || (j.seqs.any (fun n => let x := (s.slot? n).getD {}; slotPriority x == 0 && s.urgent x) &&
      !i.seqs.any (fun n => let x := (s.slot? n).getD {}; slotPriority x == 0 && s.urgent x) &&
      (i.slip || decide (s.ctxPriority j.context < s.ctxPriority i.context))))

/-- Asks for the pre-emption of the item a core runs, if one of the list pre-empts it (R341). -/
def askPreempt (s : State) (c : Nat) : State :=
  match (s.core c).item.bind s.item? with
  | none => s
  | some i =>
    match (s.serving.items.find? (fun j => j.standing && s.preempts j i && s.takeable c j)).or
        (s.serving.items.find? (fun j => s.preempts j i && s.takeable c j)) with
    | none => s
    | some j => s.updCore c (fun k => { k with preempt := some j.uid })

/-- A core starts or resumes an item (R279, R342). The stall monitor of a district none of whose cores ran counts from here. -/
def startItem (s : State) (c : Nat) (i : Item) : State :=
  let slot := s.ctxSlot i.context
  let s := if (coresOf (1 <<< districtOf c)).any (fun x => s.coreState x == 1) then s else s.markMoved c
  let pc := match Tab.find? (s.core c).resume slot with
    | some (u, pc) => if u = i.uid then pc else i.entryPc
    | none => i.entryPc
  let s := if s.activeSlot c = slot then s else (s.setFld (Reg.CORE_STATUS c) 5 4 slot).bump (Reg.CORE_CTX_SWITCH c)
  let s := (s.setCoreState c 1).updItem i.uid (fun i => { i with started := true })
  let s := s.updCore c (fun k => { k with
    item := some i.uid, preempt := none
    resume := k.resume.filter (fun r => !(r.1 == slot && (r.2.1 == i.uid || (s.item? r.2.1).isNone))) })
  (s.enterTile c pc (s.itemArgs i)).askPreempt c

/-- The core takes the first item of the list it may take, a standing item with rows first, or rests in the state given. -/
def takeNext (s : State) (c : Nat) (rest : Nat := 0) : State :=
  match (s.serving.items.find? (fun i => i.standing && s.takeable c i)).or (s.serving.items.find? (s.takeable c)) with
  | some i => s.startItem c i
  | none =>
    (s.updCore c (fun k => { k with item := none, preempt := none, boundary := none })).setCoreState c rest

/-- Cores with nothing to run take items, in core order. -/
def takeAll (s : State) (cs : List Nat) : State :=
  cs.foldl (fun s c => if s.coreState c = 1 then s else s.takeNext c (if s.coreState c = 4 then 4 else 0)) s

/-- Cores of a context that rest take items again: an item of it has ended or left the list (R154). -/
def wakeCtx (s : State) (x : Nat) : State := s.takeAll ((s.ctxCores x).filter (fun c => s.coreState c != 1 && s.coreState c != 3))

/-- Cores of the contexts that have items, and those that wait for the list (R45). -/
def workCores (s : State) : List Nat :=
  let ds := (s.serving.items.flatMap (fun i => s.ctxDistricts i.context)).eraseDups
  let cs := if ds = [] then [] else coresOf (ds.foldl (fun m d => m ||| 1 <<< d) 0)
  cs ++ (s.cores.map (·.1)).filter (fun c => s.coreState c == 3 && !cs.contains c)

/-! Core faults (R96). -/

/-- Slots of the sequences whose data the task of a context was processing when it stopped: one at least of the batches in progress; which,
where a batch has more, the manual leaves to the data and is free (log entry 50). -/
def taskOwners (s : State) (x : Nat) : List Nat × State :=
  let seqs := (s.serving.items.filter (fun i => i.context == x && i.started && !i.done)).flatMap (·.seqs)
  if seqs.length ≤ 1 then (seqs, s)
  else
    let one := s.draw.toNat % seqs.length
    let l := (seqs.zip (List.range seqs.length)).filter (fun n => n.2 == one || bit (Config.freeValue (s.free + 1 + n.2)).toNat 0)
    (l.map (·.1), s.drawn (seqs.length + 1))

/-- The task of a context is aborted for no data of its own: the requests whose data it processed end, the others are tried again. -/
def abortOwners (s : State) (x cls cause : Nat) : State :=
  let (owners, s) := s.taskOwners x
  s.abortTask x (some owners) cls cause false

/-- A fault of a slot's task met at a core: the record, which names the active slot (Table 3.11), the event, the abort, and the core's
next item if it ran the slot. -/
def coreFault (s : State) (c slot code pc : Nat) (detail : List Nat := []) : State :=
  let again := bit (s.rd (Reg.CORE_FAULT c)) 31
  let now := s.activeSlot c
  let s := (s.wr (Reg.CORE_FAULT c) (2 ^ 31 + now * 2 ^ 14 + code)).wr (Reg.CORE_FAULT_PC c) (pc % 4096)
  let s := if again then s.eventLost 0x0001 0
    else s.event 0x0001 2 0 (s.districtOwner (districtOf c)) ([c % 32, c / 32, now, code, pc % 4096] ++ detail)
  let ran : Bool := s.coreState c == 1 && now == slot
  let s := if ran then s.dropAudit c else s
  let s := match s.ctxOf (districtOf c) slot with
    | some x => s.abortOwners x 1 code
    | none => s
  let s := if ran then s.takeNext c 4 else s
  match s.ctxOf (districtOf c) slot with
  | some x => s.wakeCtx x
  | none => s

/-! Issue. -/

/-- The instruction word at an index of a slot; an index past the image's last holds 0, NOP. -/
def fetch (s : State) (c pc : Nat) : W64 := Tab.get 0 (s.slotImg c (s.activeSlot c)).instrs pc

/-- Goes on to an instruction, the one before it having completed; past 4,095 is SLOT_OVERRUN, whose recorded index is open. -/
def setPc (s : State) (c pc : Nat) (loops : List (Nat × Nat × Nat)) : State :=
  if 4095 < pc then (s.drawn).coreFault c (s.activeSlot c) 0x02 (s.draw.toNat % 4096)
  else s.updCore c (fun k => { k with pc := pc, loops := loops, moved := s.now })

/-- Goes on after an instruction. -/
def goOn (s : State) (c pc : Nat) : State :=
  let (n, l) := afterPc (s.core c).loops pc
  s.setPc c n l

/-- What an outcome makes of the state. -/
def conclude (s : State) (c pc : Nat) (r : Res) : State :=
  match r with
  | .done s => s.goOn c pc
  | .wait => s
  | .jump t s => s.setPc c t (popLoops t (s.core c).loops)
  | .skip t s => let (n, l) := afterPc (s.core c).loops t; s.setPc c n l
  | .fault code detail => s.coreFault c (s.activeSlot c) code pc (if code = 0x0A then [detail] else [])
  | .bound last => s.updCore c (fun k => { k with boundary := some (pc + 1, last), moved := s.now })

/-- Opcodes of Table 3.3; every other is reserved. -/
def opListed (op : Nat) : Bool :=
  let within (lo hi : Nat) : Bool := decide (lo ≤ op) && decide (op ≤ hi)
  within 0 6 || within 0x10 0x1F || within 0x20 0x25 || within 0x30 0x32 || within 0x40 0x4B || within 0x50 0x52 || within 0x60 0x62 ||
    within 0x70 0x75 || within 0x80 0x82 || op == 0x90

/-- Core `c` issues the instruction with opcode `op` and low bits `low`: only a core that runs a tile, is not at a boundary and
has that word at its program counter does; at a word with a reserved opcode any instruction command is that word's issue (log entry
21). A reserved encoding faults whether or not the predicate holds (R72). -/
def issue (op : Nat) (reserved : Nat → Bool) (body : Nat → Nat → State → Res) (core : BitVec 10) (low : BitVec 56) (s : State) : State :=
  let c := core.toNat
  let w := op * 2 ^ 56 + low.toNat
  let k := s.core c
  let at_ := (s.fetch c k.pc).toNat
  if s.coreState c ≠ 1 ∨ k.boundary.isSome = true then s
  else if opListed (at_ / 2 ^ 56) = false then s.coreFault c (s.activeSlot c) 0x01 k.pc
  else if at_ ≠ w then s
  else if reserved w then s.coreFault c (s.activeSlot c) 0x01 k.pc
  else if k.p (iPred w) == iNeg w then s.goOn c k.pc
  else s.conclude c k.pc (body c w s)

/-! Tile boundaries. -/

/-- A core's milestone boundary (R125, R126, R131, R134). No tracker counts as raised in the new leg yet; only those of the active slot are
copied and cleared. -/
def coreMilestone (s : State) (c : Nat) : State :=
  if (s.core c).legSeen = s.leg.count then s
  else
    let slot := s.activeSlot c
    let lim := s.reg (Reg.CORE_ARITH_LIMIT c)
    let th := s.reg (Reg.CORE_AUDIT_THRESH c)
    s.updCore c (fun k => { k with
      legSeen := s.leg.count, limitNow := lim, threshNow := th, limitRaised := false, auditRaised := false, legSat := 0, legOvf := 0
      amax := k.amax.map (fun (i, t) => if i / 8 = slot then
        (i, { current := 0, previous := (if t.raised then t.current else t.previous), raised := false }) else (i, { t with raised := false })) })

/-- Entries of a slot in the queues of a district. -/
def slotEntries (s : State) (d slot : Nat) : Nat :=
  ((coresOf (1 <<< d)).map (fun c => ((s.core c).queues.map (fun q => (q.2.filter (fun e => e.slot == slot)).length)).sum)).sum

/-- The first channel of a district that holds an entry of the slot: core, network and channel. -/
def firstResidue (s : State) (d slot : Nat) : List Nat :=
  (((coresOf (1 <<< d)).flatMap (fun c => ((s.core c).queues.filter (fun q => q.2.any (fun e => e.slot == slot))).map
    (fun q => [c, q.1 / 16, q.1 % 16]))).head?).getD []

/-- The ledger entry of a sequence whose pass ends: the rows prefilled and the tokens delivered are charged, and prompt_len for a single pass;
a page is counted where the positions the leg commits hold its first (R246, R275, R286, R287). -/
def ledgerOf (s : State) (i : Item) (w : Pass) : Ledger :=
  let x := (s.slot? w.slot).getD {}
  let tokens := w.tokens.take 9
  let rows := if slotGen x && !prefillDone x then Tab.get 0 i.rows w.slot else 0
  let next := x.position + (if slotGen x && prefillDone x then tokens.length else rows)
  { slot := w.slot, reqId := x.reqId, retireDone := w.retireDone, firstPos := w.firstPos % 65536, tokens := tokens
    pages := if slotGen x then ceilDiv next 16 - ceilDiv x.position 16 else 0
    charge := if slotGen x then rows + tokens.length else x.promptLen }

/-- The end of an item on its last core: the residue check, with an event for each district that holds an entry (log entry 127), its
ledger entries if it ends the pass, and the next section's press (R154, R155, R246). -/
def endItem (s : State) (i : Item) (work : List Pass) : State :=
  let slot := s.ctxSlot i.context
  let dirty := (s.ctxDistricts i.context).filter (fun d => decide (0 < s.slotEntries d slot))
  if dirty ≠ [] then
    let s := dirty.foldl (fun s d =>
      let found := s.firstResidue d slot
      let n := s.slotEntries d slot
      let s := s.bump (Reg.SERVING_DIST_RESIDUE d) n
      let s := (coresOf (1 <<< d)).foldl (fun s c =>
        if (s.core c).queues.isEmpty then s
        else s.updCore c (fun k => { k with queues := k.queues.map (fun q => (q.1, q.2.filter (fun e => e.slot != slot))) })) s
      s.event 0x0011 2 1 (s.districtOwner d) ([d, slot] ++ found)) s
    s.abortOwners i.context 4 0x0011
  else
    let s := s.updItem i.uid (fun i => { i with done := true })
    let s := if i.last then
      (work.filter (fun w => i.seqs.contains w.slot && (Tab.find? s.serving.ledger w.slot).isNone)).foldl (fun s w =>
        { s with serving := { s.serving with ledger := Tab.set s.serving.ledger w.slot (s.ledgerOf i w) } }) s
      else s
    s.pressSections

/-- An item's END on a core: once every core of the rectangle has run it, the item ends. A standing item has no end. -/
def coreEnded (s : State) (c : Nat) (i : Item) (work : List Pass) : State :=
  if i.standing then s
  else
    let s := s.updItem i.uid (fun i => { i with ended := i.ended ++ [c] })
    if (s.ctxCores i.context).all (fun x => ((s.item? i.uid).getD {}).ended.contains x) then s.endItem i work else s

/-- Where the core goes on in an item it leaves before its END (R342). -/
def keepPlace (s : State) (c pc : Nat) (i : Item) : State :=
  s.updCore c (fun k => { k with resume := Tab.set k.resume (s.activeSlot c) (i.uid, pc) })

/-- The sequencer's decision at a boundary, in the order of R67: a stop, a milestone stop, a pre-emption, END, or a new tile. -/
def decideNext (s : State) (c pc : Nat) (last stop : Bool) (preempt : Option Nat) (work : List Pass) (i : Item) : State :=
  let s := if last then s.coreEnded c i work else s
  let left := if last then s else s.keepPlace c pc i
  if stop then left.takeNext c (if s.leg.owed.isSome then 3 else 0)
  else match (preempt.bind s.item?).filter (s.takeable c) with
    | some j =>
      let first := !(s.ctxCores j.context).any (fun x => s.coreState x == 1 && (s.core x).item == some j.uid)
      (if first then left.bump Reg.SERVING_RES_PREEMPTS else left).startItem c j
    | none =>
      if last ∨ (i.standing = true ∧ s.inboxFull i.context = false) then left.takeNext c
      else if 4095 < pc then s.setPc c pc []
      else s.enterTile c pc (s.itemArgs i)

/-- A tile boundary (R67): its tile is counted, with what its accesses met (R81, R84, R87), and the sequencer decides; where the
item has ended or is off the list, the context's cores at rest take another. -/
def atBoundary (s : State) (c : Nat) (f : TileFacts) : State :=
  match (s.core c).boundary with
  | none => s
  | some (pc, last) =>
    let k := s.core c
    let s := ((s.bump (Reg.CORE_TILES c)).bump (Reg.CORE_BANK_STALL c) f.stalls).bumpSat (Reg.CORE_ECC_CE c) f.corrected
    let s := s.dropAudit c
    let s := if k.stop then s.keepMax Reg.LEG_OVERRUN_MAX s.leg.sub else s
    let s := (s.coreMilestone c).updCore c (fun k => { k with
      boundary := none, stop := false
      bad := k.bad ++ f.badUnits.filter (fun u => !k.bad.contains u), accBad := k.accBad ++ f.badRows.filter (fun r => !k.accBad.contains r) })
    match k.item.bind s.item? with
    | none => s.takeNext c (if k.stop = true ∧ s.leg.owed.isSome = true then 3 else 0)
    | some i =>
      let t := s.decideNext c pc last k.stop k.preempt f.passes i
      if ((t.item? i.uid).map (·.done)).getD true then t.wakeCtx i.context else t

end State

end Sys2Proof.Machine
end

