-- ==== Sys2Proof/Machine/Scalar.lean ====
section
/-!
DEFINITION. What the sequencer and scalar opcodes do at issue (Table 3.3): control, integer arithmetic, compares, scratchpad
loads and stores, and core statistics (R500).
-/
namespace Sys2Proof.Machine

/-- The instruction writes s[d] with `f s[a] s[b]`. -/
def bodyAlu (f : W64 → W64 → W64) (c w : Nat) (s : State) : Res :=
  .done (s.updCore c (fun k => k.setS (iD w) (f (k.s (iA w)) (k.s (iB w)))))

/-- NOP and FENCE: in a model that runs one instruction at a time every earlier access has completed. -/
def bodyNop (_ _ : Nat) (s : State) : Res := .done s

/-- TBOUND and END (R67): in-flight instructions have completed, and the sequencer's decision is due. -/
def bodyBound (last : Bool) (_ _ : Nat) (_ : State) : Res := .bound last

/-- BR. -/
def bodyBr (_ w : Nat) (s : State) : Res := .jump (iTarget w) s

/-- LOOP (R70): passes from s[a], or from count where a is s0; a fifth nested loop faults; 0 passes skip the body. -/
def bodyLoop (c w : Nat) (s : State) : Res :=
  let k := s.core c
  let n := if iA w = 0 then iCount w else (k.s (iA w)).toNat
  if 4 ≤ k.loops.length then .fault 0x0C 0
  else if n = 0 then .skip (iTarget w) s
  else .jump (k.pc + 1) (s.updCore c (fun k => { k with loops := (k.pc + 1, iTarget w, n) :: k.loops }))

/-- FAULT: PROGRAM_FAULT with imm 15:0 as detail. -/
def bodyFault (_ w : Nat) (_ : State) : Res := .fault 0x0A (bits (iImm w) 15 0)

/-- ADDI. -/
def bodyAddi (c w : Nat) (s : State) : Res :=
  .done (s.updCore c (fun k => k.setS (iD w) (k.s (iA w) + sext64 32 (iImm w))))

/-- MOVHI. -/
def bodyMovhi (c w : Nat) (s : State) : Res :=
  .done (s.updCore c (fun k => k.setS (iD w) (BitVec.ofNat 64 (iImm w * 2 ^ 32 + (k.s (iD w)).toNat % 2 ^ 32))))

/-- The comparison of CMP, by imm 2:0. -/
def compare (sel : Nat) (a b : W64) : Bool :=
  match sel with
  | 0 => a == b
  | 1 => a != b
  | 2 => a.ult b
  | 3 => !b.ult a
  | 4 => a.slt b
  | _ => !b.slt a

/-- CMP. -/
def bodyCmp (c w : Nat) (s : State) : Res :=
  .done (s.updCore c (fun k => k.setP (iD w) (compare (bits (iImm w) 2 0) (k.s (iA w)) (k.s (iB w)))))

/-- The operation of PLOG, by imm 1:0. -/
def plog (sel : Nat) (a b : Bool) : Bool :=
  match sel with
  | 0 => a && b
  | 1 => a || b
  | 2 => Bool.xor a b
  | _ => a && !b

/-- PLOG. -/
def bodyPlog (c w : Nat) (s : State) : Res :=
  .done (s.updCore c (fun k => k.setP (iD w) (plog (bits (iImm w) 1 0) (k.p (iA w)) (k.p (iB w)))))

/-- The scratch address s[a] + imm of LDS, STS, VLD and VST: the sum modulo 2^64, imm taken as unsigned (log entry 22). -/
def scratchAddr (s : State) (c w : Nat) : Nat := (((s.core c).s (iA w)).toNat + iImm w) % 2 ^ 64

/-- LDS. -/
def bodyLds (c w : Nat) (s : State) : Res :=
  let a := scratchAddr s c w
  match s.accessFault c a 8 8 with
  | some f => .fault f 0
  | none => .done (s.updCore c (fun k => k.setS (iD w) (BitVec.ofNat 64 (leNat (s.scratch c a 8)))))

/-- STS. -/
def bodySts (c w : Nat) (s : State) : Res :=
  let a := scratchAddr s c w
  match s.storeFault c a 8 8 with
  | some f => .fault f 0
  | none => .done (s.setScratch c a (leBytes 8 ((s.core c).s (iB w)).toNat))

/-- A selector of RDSTAT that Table 19.7 lists. -/
def statListed (n : Nat) : Bool := decide (n ≤ 0x0A) || (decide (0x10 ≤ n) && decide (n ≤ 0x14)) || (decide (0x20 ≤ n) && decide (n ≤ 0x27))

/-- The value a selector names (Table 19.7). Cycles since the milestone are those of the timebase's 10 ns at the clock in
force. -/
def statValue (s : State) (c n : Nat) : Nat :=
  match n with
  | 0x00 => s.rd (Reg.CORE_TILES c)
  | 0x01 => s.rd (Reg.CORE_BANK_STALL c)
  | 0x02 => s.rd (Reg.CORE_CTX_SWITCH c)
  | 0x03 => s.rd (Reg.CORE_ECC_CE c)
  | 0x04 => s.rd (Reg.CORE_ARITH_SAT c)
  | 0x05 => s.rd (Reg.CORE_ARITH_OVF c)
  | 0x06 => s.rd (Reg.CORE_ARITH_NAN c)
  | 0x07 => s.rd (Reg.CORE_ARITH_BADCODE c)
  | 0x08 => s.rd (Reg.CORE_AUDIT_DONE c)
  | 0x09 => s.rd (Reg.CORE_AUDIT_SKIPPED c)
  | 0x0A => s.rd (Reg.CORE_AUDIT_EXCEED c)
  | 0x10 => s.legCount
  | 0x11 => s.leg.sub * s.fld Reg.POWER_CLOCK 10 0 / 100
  | 0x12 => s.fld Reg.POWER_CLOCK 10 0
  | 0x13 => c
  | 0x14 => s.rd (Reg.CORE_STATUS c)
  | _ => ((Tab.get ({} : Amax) (s.core c).amax (s.activeSlot c * 8 + n % 8)).previous).toNat

/-- RDSTAT (R500). -/
def bodyRdstat (c w : Nat) (s : State) : Res :=
  .done (s.updCore c (fun k => k.setS (iD w) (BitVec.ofNat 64 (statValue s c (bits (iImm w) 7 0)))))

end Sys2Proof.Machine
end

