-- ==== Sys2Proof/Machine/Matrix.lean ====
section
/-!
DEFINITION. The matrix unit, the darning lane, the accumulator and the precision audit (R75 to R81, R100, R106 to R115, R127 to
R131).
-/
namespace Sys2Proof.Machine

/-- The first fault of several accesses made together: address, bytes, alignment. -/
def State.accessesFault (s : State) (c : Nat) (l : List (Nat × Nat × Nat)) : Option Nat :=
  if l.any (fun x => x.1 % x.2.2 != 0) then some 0x04
  else if l.any (fun x => x.2.1 != 0 && !s.inShare c (s.activeSlot c) x.1 x.2.1) then some 0x03
  else if l.any (fun x => x.2.1 != 0 && s.scratchBad c x.1 x.2.1) then some 0x05 else none

/-- Darning may be enabled for the pair (R112). -/
def darnPair (wf af : Nat) : Bool := [0x01, 0x0A, 0x0E, 0x0B, 0x0C, 0x0D].contains wf && (af == 0x01 || af == 0x0A)

/-- A format pair whose MMACs may be audited (R127). -/
def auditable (wf af : Nat) : Bool :=
  let ok (f : Nat) : Bool := [0x01, 0x02, 0x03, 0x05, 0x06, 0x0A, 0x0B, 0x0C, 0x0D, 0x0E].contains f
  ok wf && ok af

/-- MCFG names a pair it may not (R100, R112). -/
def mcfgBad (w : Nat) : Bool :=
  let i := iImm w
  !fmtWeight (bits i 4 0) || !fmtAct (bits i 12 8) || (bit i 16 && !darnPair (bits i 4 0) (bits i 12 8))

/-- MCFG. -/
def bodyMcfg (c w : Nat) (s : State) : Res :=
  let i := iImm w
  .done (s.updCore c (fun k => { k with wf := bits i 4 0, af := bits i 12 8, darn := bit i 16 }))

/-- MLOADW (R106): the inactive half takes the block's bytes; the darning rows are dropped (R79), and bytes out of range are
counted as they are loaded (R105, log entry 23). -/
def bodyMloadw (c w : Nat) (s : State) : Res :=
  let k := s.core c
  let a := (k.s (iA w)).toNat
  let b := (k.s (iB w)).toNat
  let kk := kOf k.wf k.af
  let n := 64 * runBytes k.wf kk
  let m := if fmtScaled k.wf then 64 * (kk / 32) else 0
  match s.accessesFault c [(a, n, 16), (if fmtScaled k.wf then b else 0, m, 4)] with
  | some f => .fault f 0
  | none =>
    let h : WHalf := { loaded := true, wf := k.wf, af := k.af, rows := kk, elems := s.scratch c a n, scales := s.scratch c b m }
    let run := runBytes k.wf kk
    let bad := ((List.range 64).map (fun i => (runElems k.wf kk (sliceBytes h.elems (i * run) run)).2)).sum
    .done ((s.updCore c (fun k => { k with inactive := h, darns := [] })).countArith c 0 0 0 bad)

/-- MSWAP: the halves change roles once the inactive one is loaded. -/
def bodyMswap (c _ : Nat) (s : State) : Res :=
  if !(s.core c).inactive.loaded then .wait
  else .done (s.updCore c (fun k => { k with active := k.inactive, inactive := k.active }))

/-- MDARN (R113): header, then one row for each valid entry. -/
def bodyMdarn (c w : Nat) (s : State) : Res :=
  let k := s.core c
  let a := (k.s (iA w)).toNat
  let slices := kOf k.wf k.af / 128
  if !k.darn then .fault 0x01 0
  else match s.accessFault c a (4 * slices) 4 with
    | some f => .fault f 0
    | none =>
      let head := s.scratch c a (4 * slices)
      let rows := (List.range (4 * slices)).filterMap (fun i =>
        let e := (head.getD i 0).toNat
        if bit e 7 then some (i / 4 * 128 + e % 128) else none)
      match s.accessFault c a (4 * slices + 64 * rows.length) 4 with
      | some f => .fault f 0
      | none =>
        if rows.eraseDups.length ≠ rows.length then .fault 0x01 0
        else .done (s.updCore c (fun k => { k with
          darns := (rows.zip (List.range rows.length)).map (fun (r, i) => (r, s.scratch c (a + 4 * slices + 64 * i) 64)) }))

/-! The accumulator. -/

/-- Word of a tile: as written in this tile of work, or a free value (R65). -/
def Core.accWord (k : Core) (tile row col : Nat) : W32 :=
  let i := tile * 8192 + row * 64 + col
  match Tab.find? k.acc i with
  | some v => v
  | none => (Config.freeValue (k.accBase + i)).setWidth 32

/-- The 64 words of a row. -/
def Core.accRow (k : Core) (tile row : Nat) : List W32 := (List.range 64).map (k.accWord tile row)

/-- Writes the words of a row; the row is readable again. -/
def Core.setAccRow (k : Core) (tile row : Nat) (v : List W32) : Core :=
  let lo := tile * 8192 + row * 64
  { k with
    acc := (List.range 64).foldl (fun t i => Tab.set t (lo + i) (v.getD i 0)) k.acc
    accBad := k.accBad.filter (fun x => x != tile * 128 + row) }

/-- Class of a tile's contents: 0 none of this tile of work, 1 floating, 2 integer. -/
def Core.classOf (k : Core) (tile : Nat) : Nat := Tab.get 0 k.accClass tile

/-! Products (R109, R110, R114). -/

/-- The sum of a list of internal values in an order that free values give, each addition rounded to the internal
precision. -/
def treeSum (base : Nat) : Nat → List FV → FV
  | 0, l => l.headD FV.zero
  | n + 1, l =>
    match l with
    | [] => FV.zero
    | [x] => x
    | _ =>
      let i := (Config.freeValue base).toNat % l.length
      let l' := l.eraseIdx i
      let j := (Config.freeValue (base + 1)).toNat % max 1 l'.length
      treeSum (base + 2) n (((FV.add (l.getD i FV.zero) (l'.getD j FV.zero)).roundSig (32 + Config.sumExtraBits)) :: l'.eraseIdx j)

/-- One operand run: elements with their block scales. -/
structure Run where
  elems : List FV := []
  scales : List FV := []

/-- A run of K elements of a format, from its bytes and scale bytes. -/
def mkRun (f k : Nat) (b sc : List Byte) : Run :=
  { elems := (runElems f k b).1, scales := (List.range (k / 32)).map (runScale f sc) }

/-- Element `i` of a run with its block scale. -/
def Run.at (r : Run) (i : Nat) : FV := FV.mul (r.elems.getD i FV.zero) (r.scales.getD (i / 32) (FV.pow2 0))

/-- An exact sum, whose zero has the sign of round-to-nearest: that of its terms where all are zeros of one sign (R107). -/
def sumExact : List FV → FV
  | [] => FV.zero
  | x :: t => t.foldl FV.add x

/-- The scaled block sums of an activation row against a weight column (R109, steps 1 and 2). -/
def blockSums (k : Nat) (x y : Run) : List FV :=
  (List.range (k / 32)).map (fun j =>
    let e := sumExact ((((x.elems.drop (32 * j)).take 32).zip ((y.elems.drop (32 * j)).take 32)).map (fun p => FV.mul p.1 p.2))
    FV.mul e (FV.mul (x.scales.getD j (FV.pow2 0)) (y.scales.getD j (FV.pow2 0))))

/-- The darning products of a row at a column (R114). -/
def darnProducts (darns : List (Nat × List Byte)) (k : Nat) (x : Run) (col : Nat) : List FV :=
  (darns.filter (fun d => decide (d.1 < k))).map (fun d => FV.mul (x.at d.1) (decodeElem 0x05 (d.2.getD col 0).toNat))

/-- One FP32 output value of a row and its counts: overflow from finite inputs, NaN (R109, R111). -/
def floatCell (base : Nat) (acc : Bool) (old : W32) (terms : List FV) : W32 × Nat × Nat :=
  let sum := treeSum base 40 terms
  let nan := freeNan (Config.freeValue (base + 127))
  let first := FV.toW32 nan sum
  let word := if acc then FV.toW32 nan (FV.add (FV.ofW32 old) (FV.ofW32 first)) else first
  let v := FV.ofW32 word
  (word, b2n (v.isInf && !sum.isInf && !(acc && (FV.ofW32 old).isInf)), b2n v.isNan)

/-- One INT32 output value and whether it saturated (R110). -/
def intCell (acc : Bool) (old : W32) (x y : Run) : W32 × Nat :=
  let sum : Int := ((x.elems.zip y.elems).foldl (fun (t : Int) p => match FV.mul p.1 p.2 with
    | .fin n m e => t + FV.scaled n m e 0
    | _ => t) 0) + (if acc then old.toInt else 0)
  if sum < -2 ^ 31 then (BitVec.ofInt 32 (-2 ^ 31), 1)
  else if 2 ^ 31 - 1 < sum then (BitVec.ofInt 32 (2 ^ 31 - 1), 1) else (BitVec.ofInt 32 sum, 0)

/-! The audit (R127 to R129). -/

/-- A start of an accumulation on a tile: it abandons an audit of the tile, may be selected, and counts. -/
def State.startAccum (s : State) (c tile : Nat) (qualifies : Bool) : State :=
  let k := s.core c
  let s := if (match k.audit with | some a => a.1 == tile | none => false) then s.dropAudit c else s
  let k := s.core c
  let pick := k.auditNext && k.audit.isNone && qualifies
  let r := s.draw.toNat
  let s := if pick then s.drawn else s
  let n := k.auditCount + 1
  let full := decide (s.fld (Reg.CORE_AUDIT_CTRL c) 16 0 ≤ n)
  s.updCore c (fun k => { k with
    audit := if pick then some (tile, r % 128, List.replicate 64 0) else k.audit
    lfsr := if pick then lfsrSteps (r / 128 % 33) k.lfsr else k.lfsr
    auditNext := (k.auditNext && !pick) || full
    auditCount := if full then 0 else n })

/-- The reference of an audited row after one more MMAC: one FMA rounding per K index, in ascending order, the darning product
of an index after its array product. -/
def auditRow (nanBase : Nat) (ref : List W32) (k : Nat) (x : Run) (cols : List Run) (darns : List (Nat × List Byte)) : List W32 :=
  (cols.zip (List.range 64)).map (fun (y, n) =>
    let nan := freeNan (Config.freeValue (nanBase + n))
    (List.range k).foldl (fun w i =>
      let w := FV.toW32 nan (FV.add (FV.mul (x.at i) (y.at i)) (FV.ofW32 w))
      (darns.filter (fun d => d.1 == i)).foldl (fun w d =>
        FV.toW32 nan (FV.add (FV.mul (x.at i) (decodeElem 0x05 (d.2.getD n 0).toNat)) (FV.ofW32 w))) w) (ref.getD n 0))

/-- Activation row `i` of an MMAC, from the scratchpad. -/
def actRun (s : State) (c w i : Nat) : Run :=
  let k := s.core c
  let kk := kOf k.wf k.af
  let run := runBytes k.af kk
  let sn := if fmtScaled k.af then kk / 32 else 0
  mkRun k.af kk (s.scratch c ((k.s (iA w)).toNat + i * run) run) (s.scratch c ((k.s (iB w)).toNat + i * sn) sn)

/-- Weight column `n` of a half of the weight store. -/
def weightRun (h : WHalf) (kk n : Nat) : Run :=
  mkRun h.wf kk (sliceBytes h.elems (n * runBytes h.wf kk) (runBytes h.wf kk)) (sliceBytes h.scales (n * (kk / 32)) (kk / 32))

/-- The active weights were loaded under the formats in force; an MMAC with others gives what is open (R106). -/
def Core.weightsFit (k : Core) : Bool := k.active.wf == k.wf && k.active.rows == kOf k.wf k.af && k.wf != 0

/-- The output of an MMAC at row `i` and column `n`, with its counts; `f` numbers its free values. -/
def mmacCell (s : State) (c w f i n : Nat) : W32 × Nat × Nat :=
  let k := s.core c
  let kk := kOf k.wf k.af
  let old := k.accWord (iTile w) i n
  if !k.weightsFit then ((Config.freeValue f).setWidth 32, 0, 0)
  else if intClass k.wf k.af k.darn then
    let (v, o) := intCell (iAcc w) old (actRun s c w i) (weightRun k.active kk n); (v, o, 0)
  else floatCell f (iAcc w) old
    (blockSums kk (actRun s c w i) (weightRun k.active kk n) ++ darnProducts (if iDarn w then k.darns else []) kk (actRun s c w i) n)

/-- MMAC (R77 to R79, R106, R108 to R112). -/
def bodyMmac (c w : Nat) (s : State) : Res :=
  let k := s.core c
  let a := (k.s (iA w)).toNat
  let b := (k.s (iB w)).toNat
  let kk := kOf k.wf k.af
  let t := iTile w
  let cls := if intClass k.wf k.af k.darn then 2 else 1
  if (iDarn w && !k.darn) || (iDarn w && k.classOf t == 2) ||
      (iAcc w && k.classOf t != 0 && k.classOf t != cls) then .fault 0x01 0
  else if !k.active.loaded then .wait
  else match s.accessesFault c [(a, iRows w * runBytes k.af kk, 16),
      (if fmtScaled k.af then b else 0, iRows w * (if fmtScaled k.af then kk / 32 else 0), 4)] with
    | some f => .fault f 0
    | none =>
      let qual := auditable k.wf k.af
      let s0 := s
      let s := if iAcc w then s else s.startAccum c t qual
      let audited : Bool := match (s.core c).audit with | some x => x.1 == t | none => false
      let s := if audited && !qual then s.dropAudit c else s
      let base := s.free
      let out := (List.range (iRows w)).map (fun i => (i, (List.range 64).map (fun n => mmacCell s0 c w (base + (i * 64 + n) * 128) i n)))
      let ovf := (out.map (fun r => (r.2.map (fun x => x.2.1)).sum)).sum
      let nan := (out.map (fun r => (r.2.map (fun x => x.2.2)).sum)).sum
      let s := (s.drawn (128 * 64 * 128 + 64)).updCore c (fun q =>
        let q := out.foldl (fun q r => q.setAccRow t r.1 (r.2.map (·.1))) q
        { q with
          accClass := Tab.set q.accClass t cls
          audit := match q.audit with
            | some (u, r, ref) =>
              if u = t ∧ r < iRows w ∧ k.weightsFit = true then
                some (u, r, auditRow (base + 128 * 64 * 128) ref kk (actRun s0 c w r) ((List.range 64).map (weightRun k.active kk))
                  (if iDarn w then k.darns else []))
              else some (u, r, ref)
            | none => none })
      .done (s.countArith c 0 ovf nan 0)

/-- MCLR: zero rows; a tile wholly cleared is of neither class. -/
def bodyMclr (c w : Nat) (s : State) : Res :=
  let k := s.core c
  let t := iTile w
  let s := s.startAccum c t (auditable k.wf k.af)
  .done (s.updCore c (fun k =>
    let k := (List.range (iRows w)).foldl (fun k r => k.setAccRow t r (List.replicate 64 0)) k
    if iRows w = 128 then { k with accClass := Tab.put 0 k.accClass t 0 } else k))

/-- AREAD: a row above 127 does not exist, and what is read there is open. -/
def bodyAread (c w : Nat) (s : State) : Res :=
  let k := s.core c
  let r := (k.s (iB w)).toNat
  if 127 < r then
    .done ((s.updCore c (fun k => k.setV (iD w) (ofLanes ((List.range 64).map (fun i => (Config.freeValue (s.free + i)).setWidth 32))))).drawn 64)
  else if k.accBad.contains (iTile w * 128 + r) then .fault 0x06 0
  else .done (s.updCore c (fun k => k.setV (iD w) (ofLanes (k.accRow (iTile w) r))))

/-- AWRITE: overwrites, or adds with one FP32 rounding. A row above 127 does not exist: the row written is open; so is a sum into an
integer tile, for which the manual states none. -/
def bodyAwrite (c w : Nat) (s : State) : Res :=
  let k := s.core c
  let n := (k.s (iB w)).toNat
  let r := if 127 < n then s.draw.toNat % 128 else n
  let t := iTile w
  let base := s.free + 1
  let s := s.drawn 65
  let hit : Bool := match k.audit with | some x => x.1 == t && x.2.1 == r | none => false
  let s := if hit then s.dropAudit c else s
  let cell (i : Nat) : W32 :=
    let v := lane (k.v (iA w)) i
    if !iAcc w then v
    else if k.classOf t = 2 then (Config.freeValue (base + i)).setWidth 32
    else FV.toW32 (freeNan (Config.freeValue (base + i))) (FV.add (FV.ofW32 (k.accWord t r i)) (FV.ofW32 v))
  let out := (List.range 64).map cell
  let fin (i : Nat) : Bool := !(FV.ofW32 (lane (k.v (iA w)) i)).isInf && !(iAcc w && (FV.ofW32 (k.accWord t r i)).isInf)
  let isF := k.classOf t != 2
  let ovf := ((List.range 64).filter (fun i => isF && (FV.ofW32 (out.getD i 0)).isInf && fin i)).length
  let nan := (out.filter (fun v => isF && (FV.ofW32 v).isNan)).length
  let s := s.updCore c (fun k =>
    let k := k.setAccRow t r out
    if k.classOf t = 0 then { k with accClass := Tab.set k.accClass t 1 } else k)
  .done (s.countArith c 0 ovf nan 0)

end Sys2Proof.Machine
end

