-- ==== Sys2Proof/Machine/TableFn.lean ====
section
/-!
DEFINITION. The functions of Table 3.5 to far more bits than their accuracy asks (R82), in fixed point with 96 bits after the point: what
a result of VTAB is held against.
-/
namespace Sys2Proof.Machine

/-- One, in fixed point. -/
def fixOne : Nat := 2 ^ 96

/-- The natural logarithm of 2: the sum of 1 ÷ (k × 2^k). -/
def fixLn2 : Nat := ((List.range' 1 96).map (fun k => fixOne / (k * 2 ^ k))).sum

/-- The arc tangent of 1 ÷ n: the alternating sum of 1 ÷ ((2k + 1) × n^(2k + 1)). -/
def fixAtan (n : Nat) : Int :=
  ((List.range 48).map (fun k => (if k % 2 = 0 then 1 else -1) * ((fixOne / ((2 * k + 1) * n ^ (2 * k + 1)) : Nat) : Int))).sum

/-- π, by Machin's formula. -/
def fixPi : Nat := (16 * fixAtan 5 - 4 * fixAtan 239).toNat

/-- The square root of a number, rounded down, found from its `k` bits above `r`. -/
def isqrt (n : Nat) : Nat → Nat → Nat
  | 0, r => r
  | k + 1, r => isqrt n k (if (r + 2 ^ k) * (r + 2 ^ k) ≤ n then r + 2 ^ k else r)

/-- Terms of the exponential's series from term `t`, of which `n` have been summed. -/
def expTerms (y : Nat) : Nat → Nat → Nat → Nat
  | 0, _, _ => 0
  | k + 1, n, t => t + expTerms y k (n + 1) (t * y / fixOne / (n + 1))

/-- 2^(x ÷ 2^96): a magnitude in fixed point from 1 to 2, and a power of two. -/
def fixPow2 (x : Int) : Nat × Int :=
  (expTerms ((x % (fixOne : Int)).toNat * fixLn2 / fixOne) 40 0 fixOne, x.fdiv (fixOne : Int))

/-- Bits of a binary logarithm, by squaring a magnitude in fixed point from 1 to 2. -/
def logBits : Nat → Nat → Nat
  | 0, _ => 0
  | k + 1, m =>
    let q := m * m / fixOne
    if 2 * fixOne ≤ q then 2 ^ k + logBits k (q / 2) else logBits k q

/-- The binary logarithm of m × 2^e, for m not 0, in units of 2^−60. -/
def fixLog2 (m : Nat) (e : Int) : Int :=
  let n := FV.bitLen m
  (e + n - 1) * 2 ^ 60 + logBits 60 (m * fixOne / 2 ^ (n - 1))

/-- A finite value in fixed point, held within ±64. -/
def fixOf (v : FV) : Int :=
  match v with
  | .fin n m e =>
    let x : Nat := if -96 ≤ e then m * 2 ^ (e + 96).toNat else m / 2 ^ (-96 - e).toNat
    let y : Int := min x (64 * fixOne)
    if n then -y else y
  | _ => 0

/-- The logistic function of x ÷ 2^96, in fixed point: e^x over 1 + e^x for x below 0, and one less that of −x for others. -/
def fixSigmoid (x : Int) : Nat :=
  let below (y : Nat) : Nat :=
    let (m, e) := fixPow2 (-((y * fixOne / fixLn2 : Nat) : Int))
    let t := m / 2 ^ (-e).toNat
    t * fixOne / (fixOne + t)
  if x < 0 then below (-x).toNat else fixOne - below x.toNat

/-- √(8 ÷ π), in fixed point. -/
def fixGelu : Nat := isqrt (8 * fixOne * fixOne / fixPi * fixOne) 98 0

/-- A number in fixed point, as a value. -/
def ofFix (x : Int) : FV := .fin (decide (x < 0)) x.natAbs (-96)

/-- A table function of a finite operand, to 2^−50 of its accuracy, and that accuracy as an absolute error (Table 3.5); none where the
table states no accuracy: the logarithm of a number not above 0. Selectors 2 and 3 are exact conditions elsewhere. -/
def tableExact (sel : Nat) (x : FV) : Option (FV × FV) :=
  let one := FV.ofInt 1
  let top (v : FV) : FV := if v.lt one then one else v
  match sel with
  | 0 =>
    match x with
    | .fin n m e =>
      if (FV.ofInt 200).lt x.abs then none
      else
        let f : Nat := if -96 ≤ e then m * 2 ^ (e + 96).toNat else m / 2 ^ (-96 - e).toNat
        let (p, q) := fixPow2 (if n then -(f : Int) else f)
        some (.fin false p (q - 96), .fin false p (q - 96 - 18))
    | _ => none
  | 1 =>
    match x with
    | .fin false m e =>
      if m = 0 then none
      else
        let l := fixLog2 m e
        let y : FV := .fin (decide (l < 0)) l.natAbs (-60)
        let near := !x.lt (FV.pow2 (-1)) && !(FV.ofInt 2).lt x
        some (y, if near then FV.pow2 (-18) else FV.mul y.abs (FV.pow2 (-18)))
    | _ => none
  | 4 => some (ofFix (fixSigmoid (fixOf x)), FV.pow2 (-16))
  | 5 => some (ofFix (2 * (fixSigmoid (fixOf (FV.mul x (FV.ofInt 2))) : Int) - fixOne), FV.pow2 (-16))
  | 6 =>
    let z := fixOf x
    let cube := (z * z / fixOne * z / fixOne) * 44715 / 1000000
    some (FV.mul x (ofFix (fixSigmoid ((z + cube) * fixGelu / fixOne |> max (-64 * fixOne) |> min (64 * fixOne)))),
      FV.mul (top x.abs) (FV.pow2 (-16)))
  | 7 => some (FV.mul x (ofFix (fixSigmoid (fixOf x))), FV.mul (top x.abs) (FV.pow2 (-16)))
  | _ => none

/-- An FP32 word is a value within an accuracy of another, give or take what the fixed point loses. -/
def within (w : BitVec 32) (y tol : FV) : Bool :=
  let v := FV.ofW32 w
  let d := (FV.add v y.negate).abs
  v.isFin && !(FV.add tol (FV.mul tol (FV.pow2 (-30)))).lt d

/-- A table function of a finite operand with selector 0, 1 or 4 to 7: the result the module gives if it is as accurate as Table 3.5 says,
else the nearest word, where one is; results without a stated accuracy, or beyond FP32's range, are the module's. -/
def tableFin (sel : Nat) (w : BitVec 32) : BitVec 32 :=
  let r := Config.tableResult sel w
  match tableExact sel (FV.ofW32 w) with
  | none => r
  | some (y, tol) =>
    let q := FV.toW32 0 y
    if within r y tol || !within q y tol then r else q

end Sys2Proof.Machine
end

