-- ==== Sys2Proof/Machine/Drain.lean ====
section
/-!
DEFINITION. DRAIN: the finishing chain (R176 to R180), conversion and the amax trackers (R116 to R122, R124), and the end of a
precision audit (R129 to R131). Also the lane functions DRAIN shares with the vector unit (R82).
-/
namespace Sys2Proof.Machine

/-! Lane functions. Each takes a free value for what the manual leaves open. -/

/-- A NaN result whose payload is open. -/
def nanOf (v : Nat) : W32 := freeNan (Config.freeValue v)

/-- FP32 sum. -/
def addW (v : Nat) (a b : W32) : W32 := FV.toW32 (nanOf v) (FV.add (FV.ofW32 a) (FV.ofW32 b))
/-- FP32 product. -/
def mulW (v : Nat) (a b : W32) : W32 := FV.toW32 (nanOf v) (FV.mul (FV.ofW32 a) (FV.ofW32 b))
/-- FP32 fused multiply-add, single rounding. -/
def fmaW (v : Nat) (a b c : W32) : W32 := FV.toW32 (nanOf v) (FV.add (FV.mul (FV.ofW32 a) (FV.ofW32 b)) (FV.ofW32 c))

/-- Maximum (or minimum): between a NaN and a number IEEE 754 has a NaN or the number, and between zeros of two signs either:
which is open (log entry 24). -/
def maxW (v : Nat) (least : Bool) (a b : W32) : W32 :=
  let x := FV.ofW32 a
  let y := FV.ofW32 b
  let pick := (Config.freeValue v).getLsbD 63
  if x.isNan && y.isNan then nanOf v
  else if x.isNan then (if pick then nanOf v else b)
  else if y.isNan then (if pick then nanOf v else a)
  else if x.lt y then (if least then a else b)
  else if y.lt x then (if least then b else a)
  else if pick then a else b

/-- 1 ÷ x of a finite x that is not zero: within the accuracy of Table 3.5, but where FP32 does not reach it. -/
def recipW (w : W32) : W32 :=
  let x := FV.ofW32 w
  let r := Config.tableResult 2 w
  let d := (FV.add (FV.mul (FV.ofW32 r) x) (FV.ofInt (-1))).abs
  let q := FV.div32 (FV.ofInt 1) x
  if (d.isFin && !(FV.pow2 (-18)).lt d) || !q.isFin then r else FV.toW32 0 q

/-- 1 ÷ √x of a finite x above zero: within the accuracy of Table 3.5. -/
def rsqrtW (w : W32) : W32 :=
  let r := Config.tableResult 3 w
  let v := FV.ofW32 r
  let sq := FV.mul (FV.mul v v) (FV.ofW32 w)
  let lo := FV.add (FV.ofInt 1) (FV.pow2 (-18)).negate
  let hi := FV.add (FV.ofInt 1) (FV.pow2 (-18))
  if v.isFin && !v.neg && !sq.lt (FV.mul lo lo) && !(FV.mul hi hi).lt sq then r
  else match FV.ofW32 w with
    | .fin _ m e =>
      let m' := if e % 2 = 0 then m else 2 * m
      let e' := if e % 2 = 0 then e else e - 1
      FV.toW32 0 (.fin false (isqrt (2 ^ 160 / max 1 m') 81 0) (-80 - e' / 2))
    | _ => r

/-- A zero whose sign is open. -/
def zeroOf (v : Nat) : W32 := if (Config.freeValue v).getLsbD 62 then 0x80000000 else 0

/-- A table function (R82, Table 3.5): its results for finite operands are as accurate as the table says and not given; for infinities it is
the limit, and NaN where there is none or the operand is NaN. -/
def tableW (v sel : Nat) (w : W32) : W32 :=
  match FV.ofW32 w with
  | .nan => nanOf v
  | .inf n =>
    (match sel with
     | 0 => if n then 0 else w
     | 1 => if n then nanOf v else w
     | 2 => if n then 0x80000000 else 0
     | 3 => if n then nanOf v else 0
     | 4 => if n then 0 else 0x3F800000
     | 5 => if n then 0xBF800000 else 0x3F800000
     | _ => if n then zeroOf v else w)
  | .fin n m _ =>
    if sel = 2 ∧ m ≠ 0 then recipW w
    else if sel = 3 ∧ m ≠ 0 ∧ n = false then rsqrtW w
    else tableFin sel w

/-! The chain record (Tables 6.5, 6.6). -/

/-- Fields of a chain operation. -/
def opCode (o : Nat) : Nat := bits o 63 60
def opVreg (o : Nat) : Nat := bits o 59 55
def opFmt (o : Nat) : Nat := bits o 54 50
def opSel (o : Nat) : Nat := bits o 49 47
def opStride (o : Nat) : Nat := bits o 37 22
def opAddr (o : Nat) : Nat := bits o 21 0

/-- Bytes an operation reads for a row. -/
def opRead (o : Nat) : Nat :=
  match opCode o with
  | 3 => 4
  | 4 => 64 * (fmtBits (opFmt o) / 8)
  | 9 => 64 * (fmtBits (opFmt o) / 8)
  | 8 => 1
  | _ => 0

/-- An operation is reserved, or a field it does not use is not 0 (R178). -/
def opBad (o : Nat) : Bool :=
  let c := opCode o
  let v := opVreg o != 0
  let f := opFmt o != 0
  let e := opSel o != 0
  let t := opStride o != 0
  let a := opAddr o != 0
  bits o 46 38 != 0 ||
    (match c with
     | 1 => f || e || t || a
     | 2 => f || e || t || a
     | 3 => v || f || e
     | 4 => v || e || !([0x05, 0x07, 0x08].contains (opFmt o))
     | 5 => v || f || t || a
     | 6 => v || f || e || t || a
     | 7 => f || e || t || a
     | 8 => f || t || decide (31 < opVreg o + 2 * opSel o + 1)
     | 9 => v || e || !([0x05, 0x07, 0x08].contains (opFmt o))
     | _ => true)

/-- A chain record. -/
structure Chain where
  fmt : Nat
  mode : Nat
  margin : Nat
  tracker : Nat
  fixedK : Nat
  count : Nat
  rowStride : Nat
  scaleStride : Nat
  scaleAddr : Nat
  flags : Nat
  colMask : Nat
  rowMask : Nat
  ops : List Nat
  spare : Bool

/-- A chain record from its 128 bytes. -/
def Chain.of (b : List Byte) : Chain :=
  let n := fieldAt b 3 1
  { fmt := fieldAt b 0 1, mode := fieldAt b 1 1 % 4, margin := bits (fieldAt b 1 1) 4 2, tracker := bits (fieldAt b 1 1) 7 5
    fixedK := fieldAt b 2 1, count := n, rowStride := fieldAt b 4 2, scaleStride := fieldAt b 6 2, scaleAddr := fieldAt b 8 4
    flags := fieldAt b 0xC 4, colMask := fieldAt b 0x10 8, rowMask := fieldAt b 0x18 16
    ops := (List.range (min 6 n)).map (fun i => fieldAt b (0x30 + 8 * i) 8)
    spare := !zerosAt b 0x28 8 || !zerosAt b 0x60 32 }

/-- The format's outputs take a scale mode (R116). -/
def scalable (f : Nat) : Bool := f == 0x05 || f == 0x06 || f == 0x09 || f == 0x0A
/-- Bytes of an output row. -/
def outRow (f : Nat) : Nat := 64 * fmtBits f / 8

/-- DRAIN raises ILLEGAL_OP (R178). -/
def Chain.bad (r : Chain) : Bool :=
  !fmtDrain r.fmt || r.mode == 3 || r.fixedK == 0x80 || decide (6 < r.count) || decide (2 ^ 22 ≤ r.scaleAddr) || decide (8 ≤ r.flags) ||
    r.spare || r.ops.any opBad || decide (2 < (r.ops.filter (fun o => opCode o == 5)).length) ||
    decide (256 < (r.ops.map opRead).sum) || (r.mode != 0 && !scalable r.fmt) || decide (r.rowStride < outRow r.fmt) ||
    (fmtScaled r.fmt && decide (r.scaleStride < 2))

/-- Row `i` is written (R179). -/
def Chain.rowOn (r : Chain) (i : Nat) : Bool := !bit r.flags 0 || bit r.rowMask i
/-- Column `i` is written (R179). -/
def Chain.colOn (r : Chain) (i : Nat) : Bool := !bit r.flags 1 || bit r.colMask i
/-- A 32-column block has an unmasked column. -/
def Chain.blockOn (r : Chain) (j : Nat) : Bool := (List.range 32).any (fun i => r.colOn (32 * j + i))

/-- The accesses of a DRAIN's chain: operands of the rows written, and what is written (R178, R180; log entry 25). -/
def Chain.reads (r : Chain) (rows : List Nat) : List (Nat × Nat × Nat) :=
  r.ops.flatMap (fun o =>
    let al := if opCode o = 3 then 4 else if opCode o = 8 then 1 else 16
    let st := if opCode o = 8 then 1 else opStride o
    if opRead o = 0 then [] else
      [(opAddr o, 0, al), (st, 0, if opCode o = 8 then 1 else al)] ++ rows.map (fun i => (opAddr o + i * st, opRead o, al)))
/-- Ranges a DRAIN writes: of a row that is written, the whole row and its scale bytes are tested, the masked columns and blocks too (log
entry 25). -/
def Chain.writes (r : Chain) (dst : Nat) (rows : List Nat) : List (Nat × Nat × Nat) :=
  rows.map (fun i => (dst + i * r.rowStride, outRow r.fmt, 1)) ++
    (if fmtScaled r.fmt then (r.scaleAddr, 0, 2) :: rows.map (fun i => (r.scaleAddr + i * r.scaleStride, 2, 1))
     else if r.mode = 0 then [] else [(r.scaleAddr, 1, 1)])

/-! The chain's arithmetic (R177). -/

/-- One operation on a row: the 64 words, and whether a PATCH map byte was out of range. -/
def chainOp (k : Core) (base o : Nat) (row : Nat) (y : List W32) : List W32 × Nat :=
  let at_ (n : Nat) : Nat := (leNat (k.scratch.bytes n 4))
  let z := y.zip (List.range 64)
  let v (n i : Nat) : W32 := lane (k.v n) i
  let a := opAddr o + row * (if opCode o = 8 then 1 else opStride o)
  let elem (i : Nat) : W32 :=
    let w := fmtBits (opFmt o) / 8
    FV.toW32 (nanOf (base + i)) (decodeElem (opFmt o) (leNat (k.scratch.bytes (a + i * w) w)))
  match opCode o with
  | 1 => (z.map (fun (x, i) => mulW (base + i) x (v (opVreg o) i)), 0)
  | 2 => (z.map (fun (x, i) => addW (base + i) x (v (opVreg o) i)), 0)
  | 3 => (z.map (fun (x, i) => mulW (base + i) x (BitVec.ofNat 32 (at_ a))), 0)
  | 4 => (z.map (fun (x, i) => addW (base + i) x (elem i)), 0)
  | 5 => (z.map (fun (x, i) => tableW (base + i) (opSel o) x), 0)
  | 6 => (z.map (fun (x, i) => maxW (base + i) false x 0), 0)
  | 7 => (z.map (fun (x, i) => maxW (base + i) true (maxW (base + i) false x (v (opVreg o) 0)) (v (opVreg o) 1)), 0)
  | 8 =>
    let m := (k.scratch.byte a).toNat
    if opSel o < m then (y, b2n (m != 0xFF))
    else (z.map (fun (x, i) =>
      fmaW (base + i) x (addW (base + i) 0x3F800000 (v (opVreg o + 2 * m) i)) (v (opVreg o + 2 * m + 1) i)), 0)
  | _ => (z.map (fun (x, i) => mulW (base + i) x (elem i)), 0)

/-- A row through the chain. -/
def chainRow (k : Core) (base : Nat) (ops : List Nat) (row : Nat) (y : List W32) : List W32 × Nat :=
  (ops.zip (List.range 6)).foldl (fun (acc : List W32 × Nat) (o, i) =>
    let (y, b) := chainOp k (base + 64 * i) o row acc.1
    (y, acc.2 + b)) (y, 0)

/-- The tracked scale exponent (R124). -/
def trackedK (f margin fixed : Nat) (prev : W32) : Int :=
  let p := FV.ofW32 prev
  let fx : Int := signedOf 8 fixed
  if !p.isFin ∨ p.isZero = true then fx
  else
    let fmax := FV.ofInt (if f = 0x05 then 448 else if f = 0x06 then 57344 else if f = 0x09 then 127 else 7)
    let x := FV.mul p (FV.pow2 margin)
    let k0 := x.log2Floor - fmax.log2Floor - 1
    let k : Int := match firstFrom (fun i => !(FV.mul fmax (FV.pow2 (k0 + i))).lt x) 0 4 with
      | some i => k0 + i
      | none => k0
    min 127 (max (-127) k)

/-- What a row's conversion gives: bytes by offset in the row, scale bytes by block, decoded values, and counts. -/
structure RowOut where
  bytes : List (Nat × List Byte) := []
  scales : List (Nat × Nat) := []
  values : List FV := []
  count : CvtCount := {}

/-- Conversion of a row (R116 to R121, R179). -/
def convertRow (r : Chain) (kexp : Int) (y : List W32) (sup : Supply) : RowOut × Supply :=
  let f := r.fmt
  if f = 0x08 then
    ({ bytes := (List.range 64).filterMap (fun i => if r.colOn i then some (4 * i, leBytes 4 (y.getD i 0).toNat) else none)
       values := y.map FV.ofW32 }, sup)
  else if fmtScaled f then
    (List.range 2).foldl (fun (acc : RowOut × Supply) j =>
      if !r.blockOn j then ({ acc.1 with values := acc.1.values ++ List.replicate 32 FV.zero }, acc.2)
      else
        let vals := (List.range 32).map (fun i => if r.colOn (32 * j + i) then FV.ofW32 (y.getD (32 * j + i) 0) else FV.zero)
        let (e, codes, sup, n) := convertBlock f vals acc.2
        let codes := (codes.zip (List.range 32)).map (fun (x, i) => if r.colOn (32 * j + i) then x else 0)
        let w := outRow f / 2
        ({ bytes := acc.1.bytes ++ [(w * j, packRun f codes)], scales := acc.1.scales ++ [(j, e)]
           values := acc.1.values ++ codes.map (fun x => FV.mul (decodeElem f x) (scaleOf e))
           count := { sat := acc.1.count.sat + n.sat, nan := acc.1.count.nan + n.nan } }, sup)) ({}, sup)
  else
    let step := (List.range 64).foldl (fun (acc : List Nat × Supply × CvtCount) i =>
      if r.colOn i then
        let (x, sup, n) := convertPlain f (FV.mul (FV.ofW32 (y.getD i 0)) (FV.pow2 (-kexp))) acc.2.1
        (acc.1 ++ [x], sup, { sat := acc.2.2.sat + n.sat, nan := acc.2.2.nan + n.nan })
      else (acc.1 ++ [0], acc.2)) (([] : List Nat), sup, ({} : CvtCount))
    let codes := step.1
    let w := fmtBits f / 8
    ({ bytes :=
         if fmtBits f < 8 then (List.range 2).filterMap (fun j =>
           if r.blockOn j then some (outRow f / 2 * j, packRun f ((codes.drop (32 * j)).take 32)) else none)
         else (List.range 64).filterMap (fun i => if r.colOn i then some (w * i, leBytes w (codes.getD i 0)) else none)
       values := codes.map (fun x => FV.mul (decodeElem f x) (FV.pow2 kexp))
       count := step.2.2 }, step.2.1)

/-- Every row of a DRAIN converted in turn. -/
def convertRows (r : Chain) (kexp : Int) : List (Nat × List W32) → Supply → List (Nat × RowOut) × Supply
  | [], sup => ([], sup)
  | (i, y) :: t, sup =>
    let (o, sup) := convertRow r kexp y sup
    let (l, sup) := convertRows r kexp t sup
    ((i, o) :: l, sup)

/-! The end of an audit (R130, R131). -/

/-- The bin of one comparison. An infinite difference over a finite divisor is bin 15 and a finite one over an infinite divisor bin 0;
where both are infinite, or the difference is of two equal infinities, the bin is open (log entry 75). -/
def errorBin (v : Nat) (m a b : FV) : Nat :=
  if a.isNan || b.isNan then 15
  else if m.isZero then (if FV.eq a b then 0 else 15)
  else if !b.isFin ∨ (!a.isFin ∧ !m.isFin) then (Config.freeValue v).toNat % 16
  else if !a.isFin then 15
  else if !m.isFin then 0
  else
    let d := (FV.add a b.negate).abs
    let lim := FV.mul m (FV.pow2 (-10))
    let q := if b.abs.lt lim then lim else b.abs
    (firstFrom (fun i => d.lt (FV.mul q (FV.pow2 ((i : Int) - 15)))) 0 15).getD 15

/-- The bins of a row's comparison, unmasked columns only. -/
def rowBins (base : Nat) (on : Nat → Bool) (a b : List FV) : List Nat :=
  let m := amaxOf b
  ((a.zip b).zip (List.range 64)).filterMap (fun ((x, y), i) => if on i then some (errorBin (base + i) m x y) else none)

/-- Adds the bins of an audited row, and compares them with the thresholds. -/
def State.endAudit (s : State) (c : Nat) (arr drn : List Nat) : State :=
  let s := arr.foldl (fun s i => s.bumpSat (Reg.CORE_HIST_ARRAY c i)) s
  let s := drn.foldl (fun s i => s.bumpSat (Reg.CORE_HIST_DRAIN c i)) s
  let s := (s.bumpSat (Reg.CORE_AUDIT_DONE c)).updCore c (fun k => { k with audit := none })
  let k := s.core c
  let th := k.threshNow.toNat
  let na := (arr.filter (fun i => decide (bits th 3 0 ≤ i))).length
  let nd := (drn.filter (fun i => decide (bits th 19 16 ≤ i))).length
  if bits th 14 8 ≤ na ∨ bits th 30 24 ≤ nd then
    let s := s.bumpSat (Reg.CORE_AUDIT_EXCEED c)
    if k.auditRaised then s
    else (s.event 0x0003 1 0 (s.districtOwner (districtOf c)) [c % 32, c / 32, s.activeSlot c, na, nd]).updCore c
      (fun k => { k with auditRaised := true })
  else s

/-! DRAIN. -/

/-- The chain record a DRAIN names. -/
def drainChain (s : State) (c w : Nat) : Chain := Chain.of (s.scratch c ((s.core c).s (iB w)).toNat 128)

/-- The rows a DRAIN passes through the chain: those its record does not mask (R179). -/
def drainRows (s : State) (c w : Nat) : List Nat := (List.range (iRows w)).filter (drainChain s c w).rowOn

/-- Row `i` of the accumulator as it enters the chain: an integer tile is converted to FP32 first (R176). -/
def drainInto (s : State) (c w i : Nat) : List W32 :=
  let k := s.core c
  if k.classOf (iTile w) = 2 then (k.accRow (iTile w) i).map (fun v => FV.toW32 0 (FV.ofInt v.toInt)) else k.accRow (iTile w) i

/-- Row `i` after the chain, with the count of map bytes out of range. -/
def drainRow (s : State) (c w i : Nat) : List W32 × Nat := chainRow (s.core c) (s.free + i * 512) (drainChain s c w).ops i (drainInto s c w i)

/-- The tracker of the active slot that a DRAIN names (R124). -/
def drainTracker (s : State) (c w : Nat) : Amax :=
  Tab.get ({} : Amax) (s.core c).amax (s.activeSlot c * 8 + (drainChain s c w).tracker)

/-- The scale exponent of a DRAIN: 0, the fixed one, or the tracked one (R116, R124). -/
def drainK (s : State) (c w : Nat) : Int :=
  let r := drainChain s c w
  if r.mode = 0 then 0 else if r.mode = 1 then signedOf 8 r.fixedK else trackedK r.fmt r.margin r.fixedK (drainTracker s c w).previous

/-- The largest magnitude of the rows' unmasked finished values, an infinity taken as the largest finite number (R124). -/
def drainPeak (s : State) (c w : Nat) : FV :=
  amaxOf ((drainRows s c w).flatMap (fun i => ((drainRow s c w i).1.zip (List.range 64)).filterMap (fun (v, j) =>
    if (drainChain s c w).colOn j then some (match FV.ofW32 v with | .inf _ => FV.ofW32 0x7F7FFFFF | x => x) else none)))

/-- The rounding draws a DRAIN uses and the rounding register after it (R120 to R122). -/
def drainDraws (s : State) (c w : Nat) : Supply × W32 :=
  let finals := (drainRows s c w).map (fun i => (i, (drainRow s c w i).1))
  if (s.slotImg c (s.activeSlot c)).stochastic then
    let n := match (convertRows (drainChain s c w) (drainK s c w) finals (some (List.replicate 8192 0))).2 with
      | some l => 8192 - l.length
      | none => 0
    let (drawn, lfsr) := lfsrDraw n (s.core c).lfsr
    (some (shuffle (s.free + 65536) n drawn), lfsr)
  else (none, (lfsrDraw 0 (s.core c).lfsr).2)

/-- The rows a DRAIN converts, each with what its conversion gives. -/
def drainOuts (s : State) (c w : Nat) : List (Nat × RowOut) :=
  (convertRows (drainChain s c w) (drainK s c w) ((drainRows s c w).map (fun i => (i, (drainRow s c w i).1))) (drainDraws s c w).1).1

/-- What a DRAIN writes to the scratchpad, in order: address and bytes (R116 to R118, R179). -/
def drainWrites (s : State) (c w : Nat) : List (Nat × List Byte) :=
  let r := drainChain s c w
  let dst := ((s.core c).s (iA w)).toNat
  (drainOuts s c w).flatMap (fun x =>
    x.2.bytes.map (fun b => (dst + x.1 * r.rowStride + b.1, b.2)) ++
      x.2.scales.map (fun b => (r.scaleAddr + x.1 * r.scaleStride + b.1, leBytes 1 b.2))) ++
    (if r.mode = 0 then [] else [(r.scaleAddr, [BitVec.ofInt 8 (drainK s c w)])])

/-- The fault a DRAIN raises at issue, if any (R178, R180). -/
def drainFault (s : State) (c w : Nat) : Option Nat :=
  let k := s.core c
  let r := drainChain s c w
  let rows := drainRows s c w
  let dst := (k.s (iA w)).toNat
  match s.accessFault c (k.s (iB w)).toNat 128 16 with
  | some f => some f
  | none =>
    if r.bad then some 0x01
    else match s.accessesFault c (r.reads rows ++ (r.writes dst rows).map (fun x => (x.1, 0, x.2.2))) with
      | some f => some f
      | none =>
        match (r.writes dst rows).findSome? (fun x => s.storeFault c x.1 x.2.1 1) with
        | some f => some f
        | none => if (List.range (iRows w)).any (fun i => k.accBad.contains (iTile w * 128 + i)) then some 0x06 else none

/-- DRAIN: writes, tracker, rounding register and counts, and the end of an audit whose row it drains. -/
def bodyDrain (c w : Nat) (s : State) : Res :=
  match drainFault s c w with
  | some f => .fault f 0
  | none =>
    let k := s.core c
    let slot := s.activeSlot c
    let r := drainChain s c w
    let rows := drainRows s c w
    let tr := drainTracker s c w
    let peak := drainPeak s c w
    let res := drainOuts s c w
    let base := s.free
    let s0 := s
    let bad := (rows.map (fun i => (drainRow s c w i).2)).sum
    let sat := (res.map (fun x => x.2.count.sat)).sum
    let nan := (res.map (fun x => x.2.count.nan)).sum
    let s := (drainWrites s c w).foldl (fun s b => s.setScratch c b.1 b.2) (s.drawn (65536 + 8192 + 128))
    let s := s.updCore c (fun q => { q with
      lfsr := (drainDraws s0 c w).2
      amax := if r.mode == 2 || bit r.flags 2 then Tab.set q.amax (slot * 8 + r.tracker)
        (if (FV.ofW32 tr.current).lt peak then { tr with current := FV.toW32 0 peak, raised := true } else tr) else q.amax })
    let s := s.countArith c sat 0 nan bad
    match k.audit with
    | some (u, ar, ref) =>
      if u = iTile w ∧ rows.contains ar = true then
        let arr := rowBins (base + 73728) r.colOn ((drainInto s0 c w ar).map FV.ofW32) (ref.map FV.ofW32)
        let val := ((res.find? (fun x => x.1 == ar)).getD (0, {})).2.values
        .done (s.endAudit c arr (rowBins (base + 73792) r.colOn val ((drainRow s0 c w ar).1.map FV.ofW32)))
      else .done s
    | none => .done s

end Sys2Proof.Machine
end

