-- ==== Sys2Proof/Machine/Vector.lean ====
section
/-!
DEFINITION. The vector unit's opcodes (R82, R123, Table 3.3).
-/
namespace Sys2Proof.Machine

/-- A field names a vector register that does not exist (R72). -/
def vBad (x : Nat) : Bool := decide (32 ≤ x)

/-- The instruction writes each lane of v[d] with `f` of a free value's number and the lanes of v[a], v[b] and v[d]. -/
def bodyLanes (f : Nat → W32 → W32 → W32 → W32) (c w : Nat) (s : State) : Res :=
  let base := s.free
  .done ((s.drawn 64).updCore c (fun k => k.setV (iD w) (ofLanes ((List.range 64).map (fun i =>
    f (base + i) (lane (k.v (iA w)) i) (lane (k.v (iB w)) i) (lane (k.v (iD w)) i))))))

/-- VLD. -/
def bodyVld (c w : Nat) (s : State) : Res :=
  let a := scratchAddr s c w
  match s.accessFault c a 256 16 with
  | some f => .fault f 0
  | none => .done (s.updCore c (fun k => k.setV (iD w) (BitVec.ofNat 2048 (leNat (s.scratch c a 256)))))

/-- VST. -/
def bodyVst (c w : Nat) (s : State) : Res :=
  let a := scratchAddr s c w
  match s.storeFault c a 256 16 with
  | some f => .fault f 0
  | none => .done (s.setScratch c a (leBytes 256 ((s.core c).v (iB w)).toNat))

/-- A sum of FP32 words in an order that free values give, each addition rounded. -/
def treeSumW (base : Nat) : Nat → List W32 → W32
  | 0, l => l.headD 0
  | n + 1, l =>
    match l with
    | [] => 0
    | [x] => x
    | _ =>
      let i := (Config.freeValue base).toNat % l.length
      let l' := l.eraseIdx i
      let j := (Config.freeValue (base + 1)).toNat % max 1 l'.length
      treeSumW (base + 3) n (addW (base + 2) (l.getD i 0) (l'.getD j 0) :: l'.eraseIdx j)

/-- The reduction of VRED: the order of the sum is open (log entry 26). -/
def reduceW (base sel : Nat) (l : List W32) : W32 :=
  if sel = 0 then treeSumW base 64 l
  else
    let l := if sel = 2 then l.map (fun v => v &&& 0x7FFFFFFF) else l
    ((l.drop 1).zip (List.range 64)).foldl (fun m (v, i) => maxW (base + i) false m v) (l.headD 0)

/-- VRED. -/
def bodyVred (c w : Nat) (s : State) : Res :=
  let base := s.free
  .done ((s.drawn 256).updCore c (fun k => k.setV (iD w) (BitVec.ofNat 2048 (reduceW base (bits (iImm w) 1 0) (lanes (k.v (iA w)))).toNat)))

/-- VTAB. -/
def bodyVtab (c w : Nat) (s : State) : Res :=
  bodyLanes (fun v a _ _ => tableW v (bits (iImm w) 2 0) a) c w s

/-- VCVT carries a format or a mode it may not (R100, R120). -/
def vcvtBad (w : Nat) : Bool :=
  let i := iImm w
  !fmtVcvt (bits i 4 0) || (bit i 8 && bit i 9) || vBad (iD w) || vBad (iA w)

/-- Codes, scale bytes and counts of 64 lanes narrowed to a format. -/
def narrow (f : Nat) (l : List W32) (sup : Supply) : List Nat × List Nat × Supply × CvtCount :=
  if fmtScaled f then
    let (e0, c0, sup, n0) := convertBlock f ((l.take 32).map FV.ofW32) sup
    let (e1, c1, sup, n1) := convertBlock f ((l.drop 32).map FV.ofW32) sup
    (c0 ++ c1, [e0, e1], sup, { sat := n0.sat + n1.sat, nan := n0.nan + n1.nan })
  else
    let (cs, sup, n) := l.foldl (fun (acc : List Nat × Supply × CvtCount) v =>
      let (x, sup, n) := convertPlain f (FV.ofW32 v) acc.2.1
      (acc.1 ++ [x], sup, { sat := acc.2.2.sat + n.sat, nan := acc.2.2.nan + n.nan })) (([] : List Nat), sup, ({} : CvtCount))
    (cs, [], sup, n)

/-- An expanded value: exact where FP32 has it; a value FP32 cannot hold is open. -/
def expandW (v : Nat) (x : FV) : W32 :=
  let w := FV.toW32 (nanOf v) x
  if x.isFin && !FV.eq (FV.ofW32 w) x then (Config.freeValue v).setWidth 32 else w

/-- VCVT (R123). -/
def bodyVcvt (c w : Nat) (s : State) : Res :=
  let i := iImm w
  let f := bits i 4 0
  let k := s.core c
  let base := s.free
  let s := s.drawn 64
  if bit i 8 then
    let b := leBytes 256 (k.v (iA w)).toNat
    let (e, bad) := runElems f 64 b
    let vals := (e.zip (List.range 64)).map (fun (x, j) => expandW (base + j) (FV.mul x (runScale f (b.drop 128) (j / 32))))
    .done ((s.updCore c (fun k => k.setV (iD w) (ofLanes vals))).countArith c 0 0 0 bad)
  else
    let l := lanes (k.v (iA w))
    let n := match (narrow f l (if bit i 9 then some (List.replicate 64 0) else none)).2.2.1 with
      | some t => 64 - t.length
      | none => 0
    let (drawn, lfsr) := lfsrDraw n k.lfsr
    let (codes, scales, _, cnt) := narrow f l (if bit i 9 then some (shuffle base n drawn) else none)
    let bytes := packRun f codes
    let all := bytes ++ List.replicate (128 - bytes.length) 0 ++ scales.map (BitVec.ofNat 8)
    .done ((s.updCore c (fun k => { k.setV (iD w) (BitVec.ofNat 2048 (leNat all)) with lfsr := lfsr })).countArith c cnt.sat 0 cnt.nan 0)

/-- VBCAST. -/
def bodyVbcast (c w : Nat) (s : State) : Res :=
  .done (s.updCore c (fun k => k.setV (iD w) (ofLanes (List.replicate 64 ((k.s (iA w)).setWidth 32)))))

/-- VMOVS. -/
def bodyVmovs (c w : Nat) (s : State) : Res :=
  .done (s.updCore c (fun k => k.setS (iD w) ((lane (k.v (iA w)) (bits (iImm w) 5 0)).setWidth 64)))

end Sys2Proof.Machine
end

