-- ==== Sys2Proof/Machine/Queues.lean ====
section
/-!
DEFINITION. The three networks, the queues and steering units (R135 to R152), semaphore pairs (R89) and work counters (R90 to
R95).
-/
namespace Sys2Proof.Machine

namespace State

/-- The output configuration of a channel of the active slot. -/
def outCfg (s : State) (c net ch : Nat) : Nat := (Tab.get 0 (s.slotImg c (s.activeSlot c)).outputs (net * 16 + ch)).toNat
/-- The input configuration of a channel of a slot. -/
def inCfg (s : State) (c slot net ch : Nat) : Nat := (Tab.get 0 (s.slotImg c slot).inputs (net * 16 + ch)).toNat
/-- The queue of an input channel, head first. -/
def chanQueue (s : State) (c net ch : Nat) : List QEntry := Tab.get [] (s.core c).queues (net * 16 + ch)
/-- Sets the queue of an input channel. -/
def setQueue (s : State) (c net ch : Nat) (q : List QEntry) : State :=
  s.updCore c (fun k => { k with queues := Tab.put [] k.queues (net * 16 + ch) q })
/-- Room for `n` more entries of a slot in an input channel (R144); a channel that the slot does not own has its hardware depth (log entry
131). -/
def chanRoom (s : State) (c slot net ch n : Nat) : Bool :=
  let v := s.inCfg c slot net ch
  let cap := if bit v 31 then chanCap v else queueDepth net
  decide ((s.chanQueue c net ch).length + n ≤ cap)

/-! Extensions (R144, R145): the entries beyond the hardware depth lie in the slot's share, one after another from the region's start and
again from there past its end; how an entry's bits lie in its bytes is log entry 130. -/

/-- Scratch address of a place of an extension region. -/
def placeAddr (s : State) (c slot net ch place : Nat) : Nat :=
  bits (s.rd (Reg.CORE_SHARE0 c + 4 * slot)) 5 0 * 65536 + (extRegion net (s.inCfg c slot net ch)).1 + place * extBytes net

/-- Data of an entry, where it lies: in hardware, or in the extension. -/
def entryData (s : State) (c net ch : Nat) (e : QEntry) : BitVec 512 :=
  match e.place with
  | none => e.data
  | some p => BitVec.ofNat 512 (leNat (s.scratch c (s.placeAddr c e.slot net ch p) (extBytes net)))

/-- An entry spills into the extension after the last one there; a unit it does not wholly write and cannot read faults the owning slot's
task (R145). -/
def spill (s : State) (c net ch : Nat) (e : QEntry) : State :=
  let q := s.chanQueue c net ch
  let n := max 1 (chanCap (s.inCfg c e.slot net ch) - queueDepth net)
  let p := match (q.getLast?).bind (·.place) with | some p => (p + 1) % n | none => 0
  let a := s.placeAddr c e.slot net ch p
  let lost := s.scratchBad c a (extBytes net) && net != 0
  let s := (s.setQueue c net ch (q ++ [{ e with place := some p }])).setScratch c a (leBytes (extBytes net) e.data.toNat)
  if lost then s.owe (.fault c e.slot 0x05) else s

/-- Puts an entry into an input channel: into hardware, or past its depth into the extension. -/
def enqueue (s : State) (c net ch : Nat) (e : QEntry) : State :=
  let q := s.chanQueue c net ch
  (if q.length < queueDepth net then s.setQueue c net ch (q ++ [e]) else s.spill c net ch e).markMoved c

/-- An entry fills a place in hardware from the extension, if it lies there; a unit it cannot read faults the owning slot's task (R145). -/
def fill (s : State) (c net ch : Nat) (e : QEntry) : QEntry × State :=
  match e.place with
  | none => (e, s)
  | some p =>
    let s' := if s.scratchBad c (s.placeAddr c e.slot net ch p) (extBytes net) then s.owe (.fault c e.slot 0x05) else s
    ({ e with data := s.entryData c net ch e, place := none }, s')

/-- Fills the first entries of a list. -/
def fillAll (s : State) (c net ch : Nat) : Nat → List QEntry → List QEntry × State
  | 0, l => (l, s)
  | _, [] => ([], s)
  | n + 1, e :: t =>
    let (e, s) := s.fill c net ch e
    let (t, s) := fillAll s c net ch n t
    (e :: t, s)

/-- Takes entries from the head of an input channel, and fills the hardware behind them. -/
def popQueue (s : State) (c net ch n : Nat) : List QEntry × State :=
  let (q, s) := s.fillAll c net ch (n + queueDepth net) (s.chanQueue c net ch)
  (q.take n, (s.setQueue c net ch (q.drop n)).markMoved c)

/-! Pushes. -/

/-- An entry pushed to an output channel of the active slot, as its own router's local port takes it in. -/
def pushed (s : State) (c net ch : Nat) (data : BitVec 512) : Flight :=
  let slot := s.activeSlot c
  { net, core := c, port := 0
    entry := { slot, epoch := s.epoch (districtOf c) slot, circuit := bits (s.outCfg c net ch) 5 0, data } }

/-- Sends entries on an output channel, in order: each needs one of the four places of the local port's transit buffer, which is the
channel's credit; none if one finds no place (R138, R141). An entry whose circuit has no valid route entry stays there (log entry 129). -/
def sendOut (s : State) (c net ch : Nat) : List (BitVec 512) → Option State
  | [] => some s
  | v :: t =>
    if s.inTransit net c 0 < 4 then
      sendOut (({ s with net := { s.net with flight := s.net.flight ++ [s.pushed c net ch v] } } : State).flow) c net ch t
    else none

/-- The output channel belongs to the active slot. -/
def ownsOut (s : State) (c net ch : Nat) : Bool := bit (s.outCfg c net ch) 31

/-- Channels a steering unit reads: network and channel (Table 5.4). -/
def steerReads (cfg : Nat) : List (Nat × Nat) :=
  if bits cfg 63 61 = 0 then []
  else
    let net := bits cfg 60 60
    [(2, bits cfg 55 52), (net, bits cfg 51 48)] ++ (if 3 ≤ bits cfg 63 61 then [(net, bits cfg 47 44)] else [])

/-- The active slot may pop from an input channel: it owns it, and no steering unit of the slot reads it (R142). -/
def mayPop (s : State) (c net ch : Nat) : Bool :=
  let slot := s.activeSlot c
  bit (s.inCfg c slot net ch) 31 &&
    !(List.range 4).any (fun u => (steerReads (Tab.get 0 (s.slotImg c slot).steer u).toNat).contains (net, ch))

end State

/-- A push (R141, R142): discarded and counted as a stray for each entry where the slot does not own the channel (log entry 132), else it
waits for credit. -/
def pushRes (s : State) (c net ch : Nat) (l : List (BitVec 512)) : Res :=
  if !s.ownsOut c net ch then .done (l.foldl (fun s _ => s.stray c) s)
  else match s.sendOut c net ch l with
    | some s => .done s
    | none => .wait

/-- A pop of `n` entries, given to `f`; it waits while the channel may not be popped or holds fewer (R141, R142). -/
def popRes (s : State) (c net ch n : Nat) (f : List QEntry → State → State) : Res :=
  if s.mayPop c net ch && decide (n ≤ (s.chanQueue c net ch).length) then
    let (l, s) := s.popQueue c net ch n
    .done (f l s)
  else .wait

/-- Channel of a queue opcode: imm 11:8. -/
def iChan (w : Nat) : Nat := bits (iImm w) 11 8

/-- QPUSH. -/
def bodyQpush (c w : Nat) (s : State) : Res :=
  pushRes s c 1 (iChan w) [BitVec.ofNat 512 (((s.core c).s (iA w)).toNat % 2 ^ 32 + iImm w % 16 * 2 ^ 32)]
/-- QPOP. -/
def bodyQpop (c w : Nat) (s : State) : Res :=
  popRes s c 1 (iChan w) 1 (fun l s => s.updCore c (fun k => k.setS (iD w) (BitVec.ofNat 64 ((l.headD {}).data.toNat % 2 ^ 36))))
/-- CPUSH. -/
def bodyCpush (c w : Nat) (s : State) : Res := pushRes s c 2 (iChan w) [BitVec.ofNat 512 (iImm w % 256)]
/-- CPOP. -/
def bodyCpop (c w : Nat) (s : State) : Res :=
  popRes s c 2 (iChan w) 1 (fun l s => s.updCore c (fun k => k.setS (iD w) (BitVec.ofNat 64 ((l.headD {}).data.toNat % 256))))
/-- VQPUSH: four flits, the lowest lanes first. -/
def bodyVqpush (c w : Nat) (s : State) : Res :=
  let v := (s.core c).v (iA w)
  pushRes s c 0 (iChan w) ((List.range 4).map (fun i => v.extractLsb' (512 * i) 512))
/-- VQPOP. -/
def bodyVqpop (c w : Nat) (s : State) : Res :=
  popRes s c 0 (iChan w) 4 (fun l s => s.updCore c (fun k => k.setV (iD w)
    (BitVec.ofNat 2048 (l.foldr (fun (e : QEntry) n => e.data.toNat + 2 ^ 512 * n) 0))))

/-! Semaphore opcodes (Table 3.6). -/

/-- Pair, room count and amount of a semaphore opcode. -/
def iPair (w : Nat) : Nat := bits (iImm w) 5 0
def iRoom (w : Nat) : Bool := bit (iImm w) 8
def iAmount (w : Nat) : Nat := bits (iImm w) 31 16

/-- SEMPOST. -/
def bodySempost (c w : Nat) (s : State) : Res :=
  if s.semOwner c (iPair w) ≠ some (s.activeSlot c) then .fault 0x08 0
  else
    let x := s.semCount c (iPair w) (iRoom w) + iAmount w
    if 65535 < x then .fault 0x07 0 else .done (s.setSemCount c (iPair w) (iRoom w) x)
/-- SEMWAIT. -/
def bodySemwait (c w : Nat) (s : State) : Res :=
  let x := s.semCount c (iPair w) (iRoom w)
  if s.semOwner c (iPair w) ≠ some (s.activeSlot c) then .fault 0x08 0
  else if x < iAmount w then .wait else .done (s.setSemCount c (iPair w) (iRoom w) (x - iAmount w))
/-- SEMTRY. -/
def bodySemtry (c w : Nat) (s : State) : Res :=
  let x := s.semCount c (iPair w) (iRoom w)
  if s.semOwner c (iPair w) ≠ some (s.activeSlot c) then .fault 0x08 0
  else if x < iAmount w then .done (s.updCore c (fun k => k.setP (iD w) false))
  else .done ((s.setSemCount c (iPair w) (iRoom w) (x - iAmount w)).updCore c (fun k => k.setP (iD w) true))

/-! Arrivals and steering. -/

namespace State

/-- Entries at a router that may be delivered there to the target a test of their route entry names, the first of each circuit: nothing
orders entries of different circuits (R139). -/
def arrivals (s : State) (net c : Nat) (target : Nat → Bool) : List Flight :=
  s.net.flight.filter (fun f => f.net == net && f.core == c && bit (s.routeOf f) 22 && target (s.routeOf f) && s.mayLeave f)

/-- The arrival that comes first, which is open where there are several, and the state it is taken in. -/
def nextArrival (s : State) (net c : Nat) (target : Nat → Bool) : Option (Flight × State) :=
  match s.arrivals net c target with
  | [] => none
  | [f] => some (f, s)
  | f :: g :: t => some ((f :: g :: t).getD (s.draw.toNat % (t.length + 2)) f, s.drawn)

/-- FLIT_ENTER_QUEUE: an entry for an input channel reaches it. It is checked against its slot's epoch (R149); while the channel is full it
stays in its transit buffer (R138). -/
def flitEnter (s : State) (c net ch : Nat) : State :=
  match s.nextArrival net c (fun e => !bit e 15 && bits e 13 8 == ch) with
  | none => s
  | some (f, s) =>
    if s.epoch (districtOf c) f.entry.slot ≠ f.entry.epoch then ((s.leave f).stray c).flow
    else if s.chanRoom c f.entry.slot net ch 1 then ((s.leave f).enqueue c net ch f.entry).flow else s

/-- SEM_POST_ARRIVAL: a scalar token for a count of a pair is applied or dropped (R139, R149, Table 3.6). -/
def semArrive (s : State) (c n : Nat) (room : Bool) : State :=
  match s.nextArrival 1 c (fun e => bit e 15 && bits e 13 8 == n && bit e 14 == room) with
  | none => s
  | some (f, s) => ((s.leave f).semPost c n f.entry.slot f.entry.epoch room (f.entry.data.toNat % 65536)).flow

/-- An output of a steering unit has room for a group. -/
def steerRoom (s : State) (c net out n : Nat) : Bool :=
  if bit out 4 then !s.ownsOut c net (out % 16) || (s.sendOut c net (out % 16) (List.replicate n 0)).isSome else s.chanRoom c (s.activeSlot c) net (out % 16) n

/-- Passes a group to an output of a steering unit; none where two outputs together find no room. -/
def steerOut (s : State) (c net out : Nat) (l : List QEntry) : Option State :=
  if bit out 4 then
    if s.ownsOut c net (out % 16) then s.sendOut c net (out % 16) (l.map (·.data)) else some (l.foldl (fun s _ => s.stray c) s)
  else some (l.foldl (fun s e => s.enqueue c net (out % 16) e) s)

/-- The groups a steering unit takes at a token, and the outputs each goes to (Table 5.5): a group with no output is discarded. -/
def steerPlan (g tok : Nat) : List (Nat × List Nat) :=
  let a := bits g 51 48
  let b := bits g 47 44
  let oa := bits g 43 39
  let ob := bits g 38 34
  let b0 := bit tok 0
  match bits g 63 61 with
  | 1 => [(a, if b0 then [oa] else [])]
  | 2 => [(a, (if b0 then [oa] else []) ++ (if bit tok 1 then [ob] else []))]
  | 3 => [(if b0 then b else a, [oa])]
  | 4 => [(a, if b0 then [] else [oa]), (b, if b0 then [oa] else [])]
  | _ => []

/-- Unit `u` of the active slot: its configuration, its network, the flits of a group, and its control channel (Table 5.4). -/
def steerCfg (s : State) (c u : Nat) : Nat := (Tab.get 0 (s.slotImg c (s.activeSlot c)).steer u).toNat
def steerNet (g : Nat) : Nat := bits g 60 60
def steerGroup (g : Nat) : Nat := if bit g 59 then 4 else 1
def steerCtl (g : Nat) : Nat := bits g 55 52

/-- The token at the head of a unit's control channel. -/
def steerToken (s : State) (c u : Nat) : Nat :=
  let ch := steerCtl (s.steerCfg c u)
  (s.entryData c 2 ch ((s.chanQueue c 2 ch).headD {})).toNat % 4

/-- A unit may fire: the active slot owns the channels it reads, its token and its groups are there, and its outputs have room (R147). -/
def steerReady (s : State) (c u : Nat) : Bool :=
  let g := s.steerCfg c u
  let plan := steerPlan g (s.steerToken c u)
  let owned (net ch : Nat) : Bool := bit (s.inCfg c (s.activeSlot c) net ch) 31
  !plan.isEmpty && !(s.chanQueue c 2 (steerCtl g)).isEmpty && owned 2 (steerCtl g) &&
    plan.all (fun p => owned (steerNet g) p.1 && decide (steerGroup g ≤ (s.chanQueue c (steerNet g) p.1).length) &&
      p.2.all (fun o => s.steerRoom c (steerNet g) o (steerGroup g)))

/-- STEERING_FIRE (R146 to R148, Table 5.5). -/
def steerFire (s : State) (c u : Nat) : State :=
  let g := s.steerCfg c u
  let net := steerNet g
  let n := steerGroup g
  let act (s : State) (p : Nat × List Nat) : Option State :=
    let (l, s) := s.popQueue c net p.1 n
    p.2.foldlM (fun s o => s.steerOut c net o l) s
  if s.steerReady c u then ((steerPlan g (s.steerToken c u)).foldlM act (s.popQueue c 2 (steerCtl g) 1).2).getD s
  else s

end State

/-! Work counters (R90 to R95). -/

/-- The issuing core's partition owns the counter. -/
def State.ownsCounter (s : State) (c n : Nat) : Bool :=
  match s.districtOwner (districtOf c) with
  | some p => s.ent 8 n 0 1 == 0x80 + p
  | none => false

/-- carm (R92). -/
def State.carm (s : State) (n limit : Nat) (reissue : Bool) : State :=
  let g := (s.fld (Reg.SERVING_CTR_CFG n) 23 20 + 1) % 16
  let own := s.fld (Reg.SERVING_CTR_CFG n) 28 24
  let s := s.wr (Reg.SERVING_CTR_CFG n) (2 ^ 31 + own * 2 ^ 24 + g * 2 ^ 20 + b2n reissue * 2 ^ 19 + limit)
  let s := s.wr (Reg.SERVING_CTR_STATE n) 0
  { s with net := { s.net with
      done := s.net.done.filter (fun i => i / 16384 != n)
      reissued := s.net.reissued.filter (fun i => i / 16384 != n) } }

/-- cfetch (R92): the result of Table 3.7 and the counter after it. -/
def State.cfetch (s : State) (n k : Nat) : Nat × State :=
  let cfg := s.rd (Reg.SERVING_CTR_CFG n)
  let g := bits cfg 23 20
  let limit := bits cfg 14 0
  let next := s.fld (Reg.SERVING_CTR_STATE n) 14 0
  let none_ := g * 2 ^ 24 + 0xFFFF
  if !bit cfg 31 then (none_, s)
  else if next < limit then
    let m := min k (limit - next)
    (g * 2 ^ 24 + m * 2 ^ 16 + next, s.setFld (Reg.SERVING_CTR_STATE n) 14 0 (next + m))
  else if bit cfg 19 then
    match firstFrom (fun i => !s.net.done.contains (n * 16384 + i) && !s.net.reissued.contains (n * 16384 + i)) 0 limit with
    | some i => (2 ^ 32 + g * 2 ^ 24 + 2 ^ 16 + i, { s with net := { s.net with reissued := s.net.reissued ++ [n * 16384 + i] } })
    | none => (none_, s)
  else (none_, s)

/-- cdone (R92, R93). -/
def State.cdone (s : State) (n gen i : Nat) : Bool × State :=
  let cfg := s.rd (Reg.SERVING_CTR_CFG n)
  if !bit cfg 31 || gen != bits cfg 23 20 then (false, s.bump (Reg.SERVING_CTR_STALE n))
  else if s.net.done.contains (n * 16384 + i) then (false, s.bump (Reg.SERVING_CTR_DUP n))
  else
    let m := s.fld (Reg.SERVING_CTR_STATE n) 30 16 + 1
    let s : State := { s with net := { s.net with done := s.net.done ++ [n * 16384 + i] } }
    let s := s.setFld (Reg.SERVING_CTR_STATE n) 30 16 m
    if m = bits cfg 14 0 then (true, (s.setFld (Reg.SERVING_CTR_STATE n) 31 31 1).setFld (Reg.SERVING_CTR_CFG n) 31 31 0) else (true, s)

/-- Counter an opcode names: s[a] bits 11:0. -/
def iCounter (s : State) (c w : Nat) : Nat := ((s.core c).s (iA w)).toNat % 4096

/-- The core runs on in an item that is no longer on the list: its task has been aborted (R95, R96). -/
def State.taskGone (s : State) (c : Nat) : Bool := (s.core c).item.any (fun u => (s.item? u).isNone)

/-- CARM; of an aborted task it arms nothing (R95). -/
def bodyCarm (c w : Nat) (s : State) : Res :=
  let n := iCounter s c w
  if !s.ownsCounter c n then .fault 0x09 0
  else if s.taskGone c then .done s
  else .done (s.carm n (bits (iImm w) 14 0) (bit (iImm w) 16))
/-- CFETCH. -/
def bodyCfetch (c w : Nat) (s : State) : Res :=
  let n := iCounter s c w
  if !s.ownsCounter c n then .fault 0x09 0
  else
    let (v, s) := s.cfetch n (bits (iImm w) 6 0)
    .done (s.updCore c (fun k => k.setS (iD w) (BitVec.ofNat 64 v)))
/-- CDONE: the bitmap has no bit for an index of 16,384 or more, and the bit tested is then open (log entry 28). -/
def bodyCdone (c w : Nat) (s : State) : Res :=
  let n := iCounter s c w
  let v := ((s.core c).s (iB w)).toNat
  if !s.ownsCounter c n then .fault 0x09 0
  else
    let i := bits v 15 0
    let (i, s) := if 16384 ≤ i then (s.draw.toNat % 16384, s.drawn) else (i, s)
    let (b, s) := s.cdone n (bits v 27 24) i
    .done (s.updCore c (fun k => k.setP (iD w) b))

end Sys2Proof.Machine
end

