-- ==== Sys2Proof/Machine/TierErr.lean ====
section
/-!
DEFINITION. Errors of the tiers and their scope (R210, R214, R225, R234, R235): unreadable units, damaged objects, lost granules.
-/
namespace Sys2Proof.Machine

namespace State

/-- TIER_DATA_LOST of a granule (Table 8.10, Table 8.12). -/
def dataLost (s : State) (h g : Nat) : State :=
  match s.alloc? h with
  | none => s
  | some a => ((s.bump (Reg.TIER_LOST a.part)).setFld Reg.TIER_ERR 2 2 1).event 0x0021 2 2 (some a.part) [h, g]

/-- The models whose catalog entries name an object, or whose sections are read from it: the only uses the module's tables show
(log entry 29). -/
def modelsUsing (s : State) (obj ver : Nat) : List Nat :=
  let key := obj + ver * 2 ^ 32
  (List.range 1024).filter (fun m => s.modelValid m &&
    ([8, 0x10, 0x18].any (fun o => s.entNow 4 m o 8 == key) ||
      s.residents.any (fun c => s.ctxModel c == m && (s.ctx c).images.any (fun h => (s.alloc? h).bind (·.published) == some (obj, ver)))))

/-- A published object is marked damaged, and firmware disables every model that uses it (Table 8.10). -/
def objectDamaged (s : State) (h : Nat) : State :=
  match s.alloc? h with
  | none => s
  | some a =>
    if a.damaged then s
    else
      let (o, v) := a.published.getD (0, 0)
      let s := (s.updAlloc h (fun a => { a with damaged := true })).setFld Reg.TIER_ERR 3 3 1
      let s := s.event 0x0022 2 2 (some a.part) [o, v]
      (s.modelsUsing o v).foldl (fun s m => s.owe (.disable (.model m))) s

/-- Ends the request that owns an allocation's data, if it is still the one it was granted for. -/
def endOwner (s : State) (a : Alloc) (cls cause : Nat) : State :=
  match a.owner with
  | some (_, id) => if (s.req? id).isSome then s.endRequest id stAborted cls cause 0x10 else s
  | none => s

/-- Nodes with a valid routing entry that are not held as lost, this one apart. -/
def askableNodes (s : State) : List Nat := (List.range 4096).filter (fun n => s.routeValid n && !s.nodeLost n && n != s.node)

/-- Asks every node that can be asked for a range of a published object, to rebuild it from the first answer; with none left to ask the object
is damaged (Table 8.10). -/
def askRebuild (s : State) (h off n : Nat) : State :=
  match s.alloc? h with
  | none => s
  | some a =>
    let (o, v) := a.published.getD (0, 0)
    let (s, t) := s.nextTxn
    let ns := s.askableNodes
    if ns = [] then s.objectDamaged h
    else
      let s := ns.foldl (fun s k => s.send { node := k, part := some a.part, op := 0x01, txn := t, args := [2, o, v, off / 16, n] }) s
      { s with tier := { s.tier with rebuilds := s.tier.rebuilds ++ [{ handle := h, off := off, len := n, txn := t, nodes := ns, since := s.now }] } }

/-- Marks 16-byte units of an allocation unreadable: the bursts of a large-tier home are poisoned (R225, R234). -/
def markBad (s : State) (h off n : Nat) : State :=
  s.updAlloc h (fun a => { a with bad := a.bad ++ (List.range' (off / 16) (n / 16)).filter (fun u => !a.bad.contains u) })

/-- A unit of an allocation's home is unreadable (R234, Table 8.10). -/
def unitLost (s : State) (h off : Nat) : State :=
  match s.alloc? h with
  | none => s
  | some a =>
    let g := off / 65536
    let b := a.unitBytes g
    let lo := off / b * b
    let s := s.countUe
    match a.published with
    | some (o, v) => if (s.replicaOf o v g).isSome then s else (s.markBad h lo b).askRebuild h lo b
    | none => ((s.markBad h lo b).endOwner a 4 0x0021).dataLost h g

/-- An error met in a replica: it is released, and reads resolve to the next source (Table 8.10). -/
def replicaLost (s : State) (r : Replica) : State := s.countUe.releaseReplica r

/-- A granule of an object gets a home again, its bytes at hand (Table 8.10). -/
def rehome (s : State) (h g : Nat) : State := (s.updAlloc h (fun a => a.setEntry g {})).touchGranule h g []

/-- The rebuild that a transaction with a node belongs to. -/
def rebuild? (s : State) (txn node : Nat) : Option Rebuild := s.tier.rebuilds.find? (fun r => r.txn == txn && r.nodes.contains node)

/-- A node that was asked for a rebuild will not answer: with none left the object is damaged. -/
def rebuildMissed (s : State) (txn node : Nat) : State :=
  match s.rebuild? txn node with
  | none => s
  | some r =>
    let ns := r.nodes.filter (· != node)
    let rest := s.tier.rebuilds.erase r
    if ns = [] then ({ s with tier := { s.tier with rebuilds := rest } }).objectDamaged r.handle
    else { s with tier := { s.tier with rebuilds := rest ++ [{ r with nodes := ns }] } }

/-- The first answer to a rebuild's READ: the unit is rewritten, and a granule whose entry was lost has its home again once nothing of it is
missing (Table 8.10). -/
def rebuildData (s : State) (txn node : Nat) (data : List Byte) : State :=
  match s.rebuild? txn node with
  | none => s
  | some r =>
    let s : State := { s with tier := { s.tier with rebuilds := s.tier.rebuilds.erase r } }
    let s := s.updAlloc r.handle (fun a => { (a.mend r.off r.len) with data := a.data.write r.off (data.take r.len) })
    let g := r.off / 65536
    match s.alloc? r.handle with
    | none => s
    | some a => if (a.entry g).state = 3 ∧ a.meetsBad (g * 65536) 65536 = false then s.rehome r.handle g else s

/-- The entry of a granule is lost in both copies of the directory: the granule enters state lost, and a published object's is rebuilt like
its home (Table 8.10). -/
def granuleLost (s : State) (h g : Nat) : State :=
  match s.alloc? h with
  | none => s
  | some a =>
    match a.published with
    | none => ((s.updAlloc h (fun a => a.setEntry g { a.entry g with state := 3, moveTo := none })).endOwner a 4 0x0021).dataLost h g
    | some (o, v) =>
      if a.homeNode.isSome ∧ a.homeHere g = false then s
      else if (s.replicaOf o v g).isSome then s.rehome h g
      else
        let s := (s.updAlloc h (fun a => a.setEntry g { a.entry g with state := 3, moveTo := none })).markBad h (g * 65536) 65536
        (List.range 16).foldl (fun s b => s.askRebuild h (g * 65536 + b * 4096) 4096) s

/-- A granule homed on a lost node, or lent by it, is lost: the owner's request ends with NODE_LOST, an allocation without an owner
raises TIER_DATA_LOST (R235, Table 14.13, step 3). -/
def granuleGone (s : State) (h g : Nat) : State :=
  match s.alloc? h with
  | none => s
  | some a =>
    let s := s.updAlloc h (fun a => a.setEntry g { a.entry g with state := 3, moveTo := none })
    if a.published.isSome then s else if a.owner.isSome then s.endOwner a 4 0x0042 else s.dataLost h g

/-- A replica that was to be made of an object homed elsewhere cannot be: it is dropped (R201). -/
def fetchFailed (s : State) (h g : Nat) : State :=
  let (o, v) := ((s.alloc? h).bind (·.published)).getD (0, 0)
  let s : State := { s with tier := { s.tier with fetches := s.tier.fetches.filter (fun f => !(f.handle == h && f.granule == g)) } }
  match s.tier.replicas.find? (fun r => r.object == o && r.version == v && r.granule == g && r.making) with
  | none => s
  | some r => ({ s with tier := { s.tier with replicas := s.tier.replicas.erase r } } : State).bump (Reg.TIER_STREAM_PREFDROP r.part)

/-- Unreadable bursts of a range of the large tier that no allocation homes: poisoned ones, and those on a failed sub-channel (R225, R507). -/
def rawBad (s : State) (loc off n : Nat) : Bool :=
  s.tier.poison.any (fun b => decide (loc * 512 + off < b * 32 + 32) && decide (b * 32 < loc * 512 + off + n)) ||
    (s.fld Reg.LPDDR_STATUS 31 28 == 3 && (List.range (n / 512 + 2)).any (fun i =>
      decide (off / 512 * 512 + i * 512 < off + n) && s.subFailed (loc + off / 512 + i)))

/-- A write of a range mends the poisoned bursts it covers whole; what merges with one cannot be done (R225). -/
def rawMerges (s : State) (loc off n : Nat) : Bool :=
  let lo := loc * 512 + off
  s.tier.poison.any (fun b => decide (lo < b * 32 + 32) && decide (b * 32 < lo + n) && !(decide (lo ≤ b * 32) && decide (b * 32 + 32 ≤ lo + n)))

/-- Writes bytes of a large-tier granule that no allocation homes, at an offset from a location. -/
def rawWrite (s : State) (loc off : Nat) (data : List Byte) : State :=
  let lo := loc * 512 + off
  { s with tier := { s.tier with
      raw := s.tier.raw.write (loc / 128 * 65536 + off) data
      poison := s.tier.poison.filter (fun b => !(decide (lo ≤ b * 32) && decide (b * 32 + 32 ≤ lo + data.length))) } }

/-- Granules of the large tier come free washed: their bytes are 0, and no burst of them is poisoned (R233, R235). -/
def washGranules (s : State) (gs : List Nat) : State :=
  { s with tier := { s.tier with
      raw := gs.foldl (fun (m : Mem) g => m.zero (g * 65536) 65536) s.tier.raw
      poison := s.tier.poison.filter (fun b => !gs.contains (b / 2048)) } }

/-- What a lost node takes from the tiers (R235, Table 14.13, step 3). -/
def tierNodeLost (s : State) (n : Nat) : State :=
  let back := Tab.keys (s.tier.lent.filter (fun x => x.2 == n))
  let s := { s with tier := { s.tier with
    replicas := s.tier.replicas.filter (fun r => !(r.tier == 3 && r.node == n))
    lent := s.tier.lent.filter (fun x => x.2 != n), recalls := Tab.erase s.tier.recalls n
    borrowed := s.tier.borrowed.filter (fun b => b.1 != n), called := s.tier.called.filter (fun b => b.1 != n) } }
  let s := s.washGranules back
  let hit := s.tier.allocs.flatMap (fun (h, a) => (a.dir.filter (fun x => x.2.tier == 3 && x.2.node == n)).map (fun x => (h, x.1)))
  let s := hit.foldl (fun s p => s.granuleGone p.1 p.2) s
  let s := (s.tier.allocs.filter (fun x => x.2.homeNode == some n)).foldl (fun s x =>
    s.updAlloc x.1 (fun a => (List.range a.granules).foldl (fun a g =>
      if a.homeHere g then a else a.setEntry g { a.entry g with state := 3, moveTo := none }) a)) s
  let s := (s.tier.rebuilds.filter (fun r => r.nodes.contains n)).foldl (fun s r => s.rebuildMissed r.txn n) s
  let s := (s.tier.fetches.filter (fun f => f.node == n)).foldl (fun s f => s.fetchFailed f.handle f.granule) s
  s.waitFailed n none

end State

end Sys2Proof.Machine
end

