-- ==== Sys2Proof/Machine/TierMove.lean ====
section
/-!
DEFINITION. Moves and replicas the tier block makes of itself: PREFETCH moves and prefetch schedules (R201, R222, R231), and the
commit of a move (R213, R214).
-/
namespace Sys2Proof.Machine

namespace State

/-- A prefetch move dropped (R201). -/
def prefDrop (s : State) (p : Nat) : State := s.bump (Reg.TIER_STREAM_PREFDROP p)

/-- A granule of the first of some cores of a partition that has room, while the partition has any that no reservation takes. -/
def freePlace (s : State) (p : Nat) (cs : List Nat) : Option Nat := if 0 < s.scratchRoom p then s.coreGranule cs else none

/-- A replica or a move into the large tier waits for washed space (R236). -/
def waitWash (s : State) (p h g : Nat) : State := { s with tier := { s.tier with unwashed := s.tier.unwashed ++ [(p, h, g)] } }

/-- Begins a replica of one granule of the published object a handle names, for partition `p`, in a scratchpad of `cs` or in the large tier;
one that cannot be made is dropped (R201, R222). A schedule's that finds no room in the scratchpads goes to the large tier instead (R231). -/
def beginReplica (s : State) (p h g : Nat) (scratch : Bool) (cs : List Nat) (schedule : Bool) : State :=
  match s.alloc? h with
  | none => s.prefDrop p
  | some a =>
    match a.published with
    | none => s.prefDrop p
    | some (o, v) =>
      let here := s.tier.replicas.filter (fun r => r.object == o && r.version == v && r.granule == g && !r.going)
      let inScratch := here.any (fun r => r.tier == 0 && r.part == p)
      let inLarge := here.any (fun r => r.tier == 1)
      let src := s.copySource p a g
      if (if scratch then inScratch else inLarge || (!schedule && inScratch)) then s
      else if !bit a.flags 6 || decide (64 ≤ here.length) || src == .nowhere || decide (134217728 ≤ s.dirUsed) then s.prefDrop p
      else match (if scratch then s.freePlace p cs else none) with
        | some l => (s.drawn).makeReplica p h g 0 l src
        | none =>
          if scratch ∧ schedule = false then s.prefDrop p
          else if inLarge then s
          else if s.quotaRoom p = false then s.prefDrop p
          else match s.largePlace with
            | some l => (s.drawn).makeReplica p h g 1 l src
            | none => if s.washing then s.waitWash p h g else s.prefDrop p

/-- Asks for a move of one writable granule to a higher tier (R201): a seam of the tier block. -/
def beginMove (s : State) (p h g t : Nat) : State :=
  match s.alloc? h with
  | none => s.prefDrop p
  | some a =>
    let e := a.entry g
    let t := if t = 0 ∧ tierAllowed a.flags 0 = false then 1 else t
    if e.state = 4 ∨ e.state = 0 ∨ (e.state = 1 ∧ tierRank e.tier ≤ tierRank t) then s
    else if e.state ≠ 1 ∨ tierAllowed a.flags t = false ∨ s.readBad a (g * 65536) 65536 = true ∨ s.freeRecord = none ∨
        (t = 1 ∧ s.largeAllowed a = false) then s.prefDrop p
    else match (if t = 0 then s.freePlace p (s.scratchOrder a g) else s.largePlace) with
      | none => if t = 1 ∧ s.washing = true then s.waitWash p h g else s.prefDrop p
      | some l =>
        let w : Nat := 1 * 2 ^ 60 + h * 2 ^ 36 + g * 2 ^ 12 + t * 2 ^ 10
        s.drawn.openSeam { submitter := 1, scope := some (p, 0), notify := 1, actions := [(BitVec.ofNat 64 w, BitVec.ofNat 64 l)] }

/-- A list that begins at its k-th element, cyclically. -/
def rotate {α : Type} (k : Nat) (l : List α) : List α := l.drop (k % max 1 l.length) ++ l.take (k % max 1 l.length)

/-- Brings a range of granules into a tier, 0 the scratchpad and 1 the large tier, for partition `p` (R201); into scratchpads granule by granule
over the cores. -/
def prefetchRange (s : State) (p h : Nat) (gs : List Nat) (scratch : Bool) (cs : List Nat) : State :=
  match s.alloc? h with
  | none => s
  | some a =>
    let scratch := scratch && tierAllowed a.flags 0
    (gs.zip (List.range gs.length)).foldl (fun s (g, k) =>
      if a.published.isSome then
        let home := a.entry g
        if a.homeHere g = true ∧ home.state = 1 ∧ tierRank home.tier ≤ (if scratch then 0 else 1) then s
        else s.beginReplica p h g scratch (rotate k cs) false
      else s.beginMove p h g (if scratch then 0 else 1)) s

/-- Replicas and moves that waited for washed space are taken up again (R236). -/
def takeUnwashed (s : State) : State :=
  let l := s.tier.unwashed
  l.foldl (fun s (p, h, g) => match s.alloc? h with
    | none => s.prefDrop p
    | some a => if a.published.isSome then s.beginReplica p h g false [] true else s.beginMove p h g 1)
    ({ s with tier := { s.tier with unwashed := [] } } : State)

/-- Takes up the queued entries of the prefetch schedules: each begins the replicas of its range (R231). An entry whose object is
not published in its version counts once. -/
def runSchedules (s : State) : State :=
  let q := s.tier.prefetch
  let s := { s with tier := { s.tier with prefetch := [] } }
  q.foldl (fun s (c, h, i) =>
    let e := s.scheduleEntry h i
    let p := s.ctxPart c
    match s.objectHandle (fieldAt e 4 4) (fieldAt e 8 4) with
    | none => s.prefDrop p
    | some k =>
      match s.alloc? k with
      | none => s.prefDrop p
      | some a =>
        if !bit a.flags 6 then s.prefDrop p
        else (List.range (fieldAt e 0x10 4)).foldl (fun s j =>
          let g := j + fieldAt e 0xC 4
          if g < a.granules then s.beginReplica p k g (fieldAt e 1 1 == 1) (rotate j (s.ctxCores c)) true else s.prefDrop p) s) s

/-- REPLICA_MADE: a replica being made becomes readable once all its bytes are there, or is dropped for an error met in its source (R201,
R222). -/
def replicaMade (s : State) (obj ver g : Nat) (failed : Bool) : State :=
  match s.tier.replicas.find? (fun r => r.object == obj && r.version == ver && r.granule == g && r.making) with
  | none => s
  | some r =>
    let waits : Bool := s.tier.fetches.any (fun f => f.granule == g && ((s.alloc? f.handle).bind (·.published)) == some (obj, ver))
    let rest := s.tier.replicas.erase r
    if failed then
      ({ s with tier := { s.tier with
          replicas := rest
          fetches := s.tier.fetches.filter (fun f => !(f.granule == g && ((s.alloc? f.handle).bind (·.published)) == some (obj, ver))) } } : State).prefDrop r.part
    else if waits then s
    else { s with tier := { s.tier with replicas := rest ++ [{ r with making := false }] } }

/-- The granule a move action names has dirty blocks at its source (R213). -/
def dirtyOf (s : State) (w : Act) : List Nat := match s.alloc? w.handle with | some a => (a.entry w.granule).dirty | none => []

/-- MOVE_COMMIT: the dirty blocks of the granules a seam moves are copied again, and the seam commits in the first cycle in which none is
dirty: at once where its destinations are on this module, and after their acknowledgements elsewhere (R213). A failed copy unpicks it, and
an error of the source is handled as one at the unit that failed (R214). -/
def moveCommit (s : State) (k : Nat) (failed : Option MoveFailure) : State :=
  match s.seam? k with
  | none => s
  | some x =>
    let moves := (x.actions.map Act.of).filter (fun w => w.kind == 1)
    if x.state ≠ 3 ∨ x.submitter = 8 ∨ moves = [] then s
    else match failed with
      | some (.source m byte) =>
        match moves[m.val]? with
        | none => s
        | some w => (s.unpickSeam k 0x30).unitLost w.handle (w.granule * 65536 + byte.val)
      | some .destination => s.unpickSeam k 0x31
      | none =>
        if s.tier.moveAcks.any (fun m => m.seam == k) then s
        else
          let again := moves.filter (fun w => w.tier == 3 && w.node != s.node && !(s.dirtyOf w).isEmpty)
          let s := again.foldl (fun s w => s.sendMove k w.handle w.granule w.node (s.dirtyOf w)) s
          let s := moves.foldl (fun s w => s.updAlloc w.handle (fun a => a.setEntry w.granule { a.entry w.granule with dirty := [] })) s
          if again = [] then s.tryCommit k else s

end State

end Sys2Proof.Machine
end

