-- ==== Sys2Proof/Machine/Streams.lean ====
section
/-!
DEFINITION. Stream engines (07): descriptors and tickets, their start, checks, far requests and completion, posts, faults and
cancellation (R187 to R206), and what an SWR into a seam port or a dispatch port begins (R247, R309).
-/
namespace Sys2Proof.Machine

namespace State

/-- Descriptors of one engine of a core. -/
def engine (s : State) (c : Nat) (write : Bool) : List Desc := (s.core c).descs.filter (fun x => x.write == write)
/-- Descriptors held by every engine (R197). -/
def streamsHeld (s : State) : Nat := (s.cores.map (fun (_, k) => k.descs.length)).sum
/-- The descriptor in a place of an engine. -/
def descAt (s : State) (c : Nat) (write : Bool) (place : Nat) : Option Desc :=
  (s.engine c write).find? (fun x => x.place == place)
/-- Takes a descriptor out of its engine. -/
def dropDesc (s : State) (c : Nat) (x : Desc) : State :=
  s.updCore c (fun k => { k with descs := k.descs.filter (fun y => !(y.write == x.write && y.place == x.place)) })
/-- Changes a descriptor. -/
def updDesc (s : State) (c : Nat) (x : Desc) (f : Desc → Desc) : State :=
  s.updCore c (fun k => { k with descs := k.descs.map (fun y => if y.write = x.write ∧ y.place = x.place then f y else y) })

end State

/-- SRD and SWR (R187, R190): the descriptor is copied in the cycle of issue; the engine holds four. Which free place it takes is not
fixed. -/
def bodyStream (write : Bool) (c w : Nat) (s : State) : Res :=
  let k := s.core c
  let a := (k.s (iA w)).toNat
  let held := s.engine c write
  match s.accessFault c a 32 32 with
  | some f => .fault f 0
  | none =>
    let free := (List.range 4).filter (fun p => !held.any (fun x => x.place == p))
    if free.isEmpty then .wait
    else
      let place := free.getD (s.draw.toNat % free.length) 0
      let q := if write then k.writeSeq else k.readSeq
      let slot := s.activeSlot c
      let b := s.scratch c a 32
      let x : Desc :=
        { seqNo := q, write := write, place := place, slot := slot, epoch := s.epoch (State.districtOf c) slot, part := s.partOf (State.districtOf c)
          item := k.item.getD 0, words := (List.range 4).map (fun i => BitVec.ofNat 64 (fieldAt b (8 * i) 8)), addr := a }
      let s := (s.drawn).updCore c (fun k => { k with
        descs := k.descs ++ [x], dead := k.dead.filter (fun t => t / 8 != q * 2 + b2n write)
        readSeq := if write then k.readSeq else (q + 1) % 4096, writeSeq := if write then (q + 1) % 4096 else k.writeSeq })
      .done (s.updCore c (fun k => k.setS (iD w) (BitVec.ofNat 64 (q * 16 + b2n write * 8 + place))))

/-- SWAIT (R190, R202): it waits while the ticket's descriptor is held or has ended without completing; a ticket of another place of the
engine than the descriptor of its number has is one of 4,096 descriptors ago. -/
def bodySwait (c w : Nat) (s : State) : Res :=
  let k := s.core c
  let t := (k.s (iA w)).toNat
  if bits t 63 16 ≠ 0 ∨ bit t 2 = true then .done s
  else if k.descs.any (fun x => x.ticket == t) || k.dead.contains t then .wait
  else .done s

namespace State

/-! Faults (R202, R203). -/

/-- A descriptor of no task in progress stops: what it has begun issues nothing more and frees its place later, and a write leaves what it
was to reach undefined (R202, R204). -/
def stopDesc (s : State) (c : Nat) (x : Desc) : State :=
  let s := s.updCore c (fun k => { k with dead := k.dead ++ [x.ticket] })
  if x.state = 1 then (if x.write then s.spoilFar x else s).updDesc c x (fun y => { y with state := 2, reqs := [] }) else s.dropDesc c x

/-- A stream fault of a descriptor: recorded, counted, raised, and the task that issued it aborted, the descriptor with it (R202 to
R204). For an error in a replica (`noEnd`) no request ends (Table 8.10). -/
def streamFault (s : State) (c : Nat) (x : Desc) (code : Nat) (noEnd : Bool := false) : State :=
  let word := 2 ^ 31 + x.part * 2 ^ 26 + x.slot * 2 ^ 24 + b2n x.write * 2 ^ 23 + c / 32 * 2 ^ 15 + c % 32 * 2 ^ 10 + code
  let s := if s.fld Reg.TIER_STREAM_FAULT 31 31 = 1 then s
    else ((s.wr Reg.TIER_STREAM_FAULT word).wr Reg.TIER_STREAM_FAULT_TAG (x.w 3 31 0)).wr Reg.TIER_STREAM_FAULT_ADDR x.addr
  let s := (s.bump (Reg.TIER_STREAM_FAULTS x.part)).event 0x0020 2 2 (some x.part) [word, x.w 3 31 0]
  match s.item? x.item with
  | none => s.stopDesc c x
  | some i =>
    if i.done then s.stopDesc c x
    else
      let data : Bool := code == 6 || code == 7 || code == 8 || code == 0x0A
      let owners := if data then some (if noEnd then [] else match x.owner with | some n => [n] | none => []) else none
      s.abortTask i.context owners 2 code data

/-- The fault a check at the start of a descriptor finds, if any (R189, Table 7.6). -/
def descFault (s : State) (c : Nat) (x : Desc) : Option Nat :=
  let k := x.kind
  if x.bad then some 1
  else if k ≠ 4 ∧ s.inShare c x.slot x.local_ x.localSpan = false then some 2
  else if k = 3 then
    if s.nodeLost x.node then some 8 else if (s.partVcs x.part).isEmpty then some 9 else none
  else if k = 2 then
    let there : Bool := match s.ctxOf (districtOf c) x.slot with
      | some n => (s.ctxCores n).contains x.farCore
      | none => false
    if there && s.inShare x.farCore x.slot x.far x.farSpan then none else some 3
  else match s.alloc? x.handle with
    | none => some 4
    | some a =>
      if a.part ≠ x.part ∨ a.freeing.isSome = true then some 4
      else if a.size < x.far + x.farSpan then some 3
      else if x.write && (a.published.isSome || a.publishing.isSome) then some 5
      else if k = 1 ∧ x.pieces.any (fun p => a.meetsLost p.1 p.2.2 && (s.readSource (some c) x.part a (p.1 / 65536)).isNone) = true then some 8
      else none

/-! Far requests. -/

/-- The node and address of a granule of an allocation that a core's request reaches on another module (R223, R369): a lent granule, a
replica a neighbour lends, or an object whose authoritative home is elsewhere. -/
def farHome (s : State) (c part : Nat) (a : Alloc) (g off : Nat) : Option (Nat × List Nat) :=
  let e := a.entry g
  match a.published with
  | none => if e.tier = 3 ∧ e.housed = true then some (e.node, [1, e.location, 0, off / 16]) else none
  | some (o, _) =>
    match s.readSource (some c) part a g with
    | some r => if r.tier = 3 then some (r.node, [1, r.location, o, off / 16]) else none
    | none =>
      if a.homeHere g then none
      else (if e.tier = 3 then some e.node else a.homeNode).map (fun n => (n, [1, e.location, o, off / 16]))

/-- Where a group of pieces goes over Causeway, if it does: node and address. -/
def farTarget (s : State) (c : Nat) (x : Desc) (far : Nat) : Option (Nat × List Nat) :=
  if x.kind = 3 then some (x.node, [0, x.handle, far / 16, 0])
  else if x.kind = 1 then (match s.alloc? x.handle with
    | some a => s.farHome c x.part a (far / 65536) (far % 65536)
    | none => none)
  else none

/-- Hands one far request to Causeway (R198, R365). What it writes to a lent granule stands in the allocation's record from then on (log entry
138). -/
def sendFar (s : State) (c : Nat) (x : Desc) (flow : Nat) (g : List (Nat × Nat × Nat)) : State :=
  match g.head?, g.getLast? with
  | some a, some z =>
    match s.farTarget c x a.1 with
    | none => s
    | some (node, addr) =>
      let n := z.1 + z.2.2 - a.1
      let (s, t) := s.nextTxn
      let r : FarReq := { txn := t, node := node, base := a.1, pieces := g.map (fun p => (p.1 - a.1, p.2.1, p.2.2)) }
      let data := if x.write then g.flatMap (fun p => s.scratch c p.2.1 p.2.2) else []
      let s := s.send { node := node, part := some x.part, flow := flow, op := if x.write then 0x03 else 0x01, txn := t, args := addr ++ [n], data := data }
      let s := if x.write ∧ x.kind = 1 then s.landBytes x.handle a.1 data else s
      s.updDesc c x (fun y => { y with reqs := y.reqs ++ [r], served := y.served ++ g.map (fun p => p.2.1) })
  | _, _ => s

/-- One far request resolves to a granule: the use count of the replica that serves it rises, or that of its home (R219). -/
def countUse (s : State) (core : Option Nat) (part h g : Nat) : State :=
  match s.alloc? h with
  | none => s
  | some a => match s.readSource core part a g with
    | some r => { s with tier := { s.tier with replicas := s.tier.replicas.map (fun y => if y = r then { y with use := min 255 (y.use + 1) } else y) } }
    | none =>
      let e := a.entry g
      if e.housed then s.updAlloc h (fun a => a.setEntry g { e with use := min 255 (e.use + 1) }) else s

/-- Raises the use counts of what a descriptor's far requests resolve to (R219). -/
def countUses (s : State) (c : Nat) (x : Desc) : State :=
  if x.kind ≠ 1 then s
  else x.requests.foldl (fun s r => s.countUse (some c) x.part x.handle ((r.headD (0, 0, 0)).1 / 65536)) s

/-- Replicas that a read descriptor's far requests resolve to: granule, tier, node and location (R222). -/
def copiesOf (s : State) (c : Nat) (x : Desc) : List (Nat × Nat × Nat × Nat) :=
  if x.kind ≠ 1 then []
  else match s.alloc? x.handle with
    | none => []
    | some a => x.granules.filterMap (fun g => (s.readSource (some c) x.part a g).map (fun r => (g, r.tier, r.node, r.location)))

/-- A write would home a granule in the large tier, where no washed space is left: it waits (R236, R453). -/
def waitsForWash (s : State) (x : Desc) : Bool :=
  x.kind == 1 && x.write && (match s.alloc? x.handle with | none => false | some a => s.homeWaits a x.granules)

/-- DESCRIPTOR_START (R191, R202): an ordered descriptor starts once every earlier one of its engine has gone; it is checked, the
granules it writes first get their homes, and its far requests leave. -/
def descStart (s : State) (c : Nat) (write : Bool) (place : Nat) : State :=
  match s.descAt c write place with
  | none => s
  | some x =>
    let earlier := (s.engine c write).takeWhile (fun y => y.place != place)
    if x.state ≠ 0 ∨ (x.ordered = true ∧ earlier ≠ []) then s
    else match s.descFault c x with
      | some f => s.streamFault c x f
      | none =>
        if s.waitsForWash x then s
        else if x.write && x.pieces.any (fun p => s.scratchBad c p.2.1 p.2.2) then s.streamFault c x 7
        else
          let others := (s.engine c write).filter (fun y => y.place != place && y.state == 1)
          let s := s.updDesc c x (fun y => { y with
            state := 1, startedAt := s.now, shared := min (others.map x.sharedWith).sum x.requests.length, copies := s.copiesOf c x })
          let s := s.countUses c x
          let s := if x.kind = 1 ∧ x.write = true then x.granules.foldl (fun s g =>
              match s.alloc? x.handle with
              | some a => if (a.entry g).state = 4 then s.touchGranule x.handle g [] else s
              | none => s) s else s
          if x.kind = 1 ∨ x.kind = 3 then
            let flow := s.draw.toNat % 256
            (Desc.group x.write x.pieces).foldl (fun s g => s.sendFar c x flow g) s.drawn
          else s

/-! Completion. -/

/-- Adds bytes moved by a partition to its counter of 64 B; what does not fill 64 is kept. -/
def countBytes (s : State) (p dir n : Nat) : State :=
  let r := Tab.get 0 s.tier.streamRest (2 * p + dir) + n
  let s := { s with tier := { s.tier with streamRest := Tab.put 0 s.tier.streamRest (2 * p + dir) (r % 64) } }
  s.bump (if dir = 0 then Reg.TIER_STREAM_RD p else Reg.TIER_STREAM_WR p) (r / 64)

/-- A seam port record written with state 1 opens its seam (R247, Table 9.1). -/
def openPortSeam (s : State) (ctx rec_ core : Nat) : State :=
  let h := (s.ctx ctx).seamPort
  let b := s.peek h (rec_ * 2048) 2048
  if fieldAt b 2 1 ≠ 1 then s
  else
    let n := fieldAt b 4 1
    let ow := fieldAt b 8 2
    s.openSeam
      { submitter := 7, scope := some (s.ctxPart ctx, s.ctxSlot ctx), timing := fieldAt b 5 1, notify := fieldAt b 0xE 2
        owner := if bit ow 15 then some (bits ow 12 0) else none, reqId := fieldAt b 0x10 8
        port := some (ctx, rec_, core, s.epoch (districtOf core) (s.ctxSlot ctx))
        actions := (List.range n).map (fun i =>
          (BitVec.ofNat 64 (fieldAt b (0x40 + 16 * i) 8), BitVec.ofNat 64 (fieldAt b (0x48 + 16 * i) 8))) }

/-- What a completed write into an allocation begins: a seam port's records, a dispatch port's block, and the output range of a
sequence (R247, R309, R403). -/
def portWritten (s : State) (c : Nat) (x : Desc) : State :=
  let lo := x.far
  let hi := x.far + x.farSpan
  match firstFrom (fun n => s.ctxState n != 0 && (s.ctx n).seamPort != 0 &&
      ((s.ctx n).seamPort == x.handle || (s.ctx n).seamPort + 1 == x.handle)) 0 64 with
  | some n =>
    if (s.ctx n).seamPort = x.handle then
      let recs := (List.range 32).filter (fun r => x.pieces.any (fun p => decide (p.1 < r * 2048 + 2048) && decide (r * 2048 < p.1 + p.2.2)))
      recs.foldl (fun s r => s.openPortSeam n r c) s
    else if lo % 4096 = 0 then
      { s with expert := { s.expert with blocks := s.expert.blocks ++
        [{ ctx := n, off := lo, core := c, epoch := s.epoch (districtOf c) x.slot, item := x.item }] } }
    else s
  | none =>
    (s.serving.reqs.filter (fun r => r.outHandle == x.handle && r.slot.isSome)).foldl (fun s r =>
      let o := 16 * r.outOff
      if lo < o + r.outputLen ∧ o < hi then
        s.updSlot (r.slot.getD 0) (fun w => { w with outBytes := max w.outBytes (min r.outputLen (hi - o)) })
      else s) s

/-- The far address and the local address of byte `k` of a transfer. -/
def byteAt (x : Desc) (k : Nat) : Nat × Nat :=
  let r := k / x.len % x.rows
  (x.far + r * x.fstride + k % x.len, x.local_ + r * x.lstride + k % x.len)

/-- Marks the 16-byte unit of a scratchpad address unreadable. -/
def spoilScratch (s : State) (c a : Nat) : State :=
  s.updCore c (fun k => { k with bad := if k.bad.contains (a / 16) then k.bad else k.bad ++ [a / 16] })

/-- The replica that serves a read of a descriptor at a far address, if one does (R223). -/
def servedBy (s : State) (c : Nat) (x : Desc) (far : Nat) : Option Replica :=
  if x.kind ≠ 1 ∨ x.write then none else (s.alloc? x.handle).bind (fun a => s.readSource (some c) x.part a (far / 65536))

/-- An uncorrectable error met at the far end of a transfer: its scope (R87, R234). -/
def farError (s : State) (c : Nat) (x : Desc) (far : Nat) : State :=
  if x.kind = 2 then s.spoilScratch x.farCore far
  else match s.servedBy c x far with
    | some r => s.replicaLost r
    | none => s.unitLost x.handle far

/-- A corrected error that a descriptor's `i`-th affected piece met at the far end: of the scratchpad its core counts it, of the large tier
TIER_CE_COUNT and the sector's sub-channel (R87, R224, R225). -/
def farCorrected (s : State) (c : Nat) (x : Desc) (i : Nat) : State :=
  if x.kind = 2 then s.bumpSat (Reg.CORE_ECC_CE x.farCore)
  else
    let far := (x.pieces.getD (i % max 1 x.pieces.length) (0, 0, 0)).1
    let at_ (tier loc : Nat) (secs : List Nat) : State :=
      if tier = 0 then s.bumpSat (Reg.CORE_ECC_CE (loc / 64)) else match secs with | k :: _ => s.countCeAt k | [] => s
    match s.servedBy c x far with
    | some r => at_ r.tier r.location (if r.tier = 1 then [r.location + far % 65536 / 512] else [])
    | none => match s.alloc? x.handle with
      | none => s
      | some a => let e := a.entry (far / 65536)
                  if x.kind = 1 ∧ e.housed = true then at_ e.tier e.location (e.sectorsOf (far % 65536) 16) else s

/-- The first byte that a descriptor reaches on a failed sub-channel of the large tier (R507). -/
def deadFar (s : State) (c : Nat) (x : Desc) : Option Nat :=
  if x.kind ≠ 1 then none
  else match s.alloc? x.handle with
    | none => none
    | some a => x.pieces.findSome? (fun p => if (s.servedBy c x p.1).isSome then none else s.deadIn a p.1 p.2.2)

/-- The data fault a descriptor meets at its far requests, if any (Table 7.6). -/
def dataFault (s : State) (c : Nat) (x : Desc) : Option Nat :=
  if x.write && x.pieces.any (fun p => s.scratchBad c p.2.1 p.2.2) then some 7
  else if x.kind = 2 then
    if !x.write && x.pieces.any (fun p => s.scratchBad x.farCore p.1 p.2.2) then some 6 else none
  else if x.kind = 1 then
    match s.alloc? x.handle with
    | none => some 4
    | some a =>
      let copy (g : Nat) : Bool := (s.readSource (some c) x.part a g).isSome
      if x.pieces.any (fun p => a.meetsLost p.1 p.2.2 && !copy (p.1 / 65536)) then some 8
      else if x.pieces.any (fun p => !copy (p.1 / 65536) && (if x.write then s.writeBad a p.1 p.2.2 else s.readBad a p.1 p.2.2)) then some 6
      else none
  else none

/-- Writes the rows of a write descriptor at their far place on this module (Table 7.3). -/
def writeFar (s : State) (c : Nat) (x : Desc) : State :=
  if x.kind = 1 then
    (x.pieces.filter (fun p => !x.served.contains p.2.1)).foldl (fun s p => s.writeAlloc x.handle p.1 (s.scratch c p.2.1 p.2.2)) s
  else if x.kind = 2 then
    (x.pieces.filter (fun p => !x.served.contains p.2.1)).foldl (fun s p => s.setScratch x.farCore p.1 (s.scratch c p.2.1 p.2.2)) s
  else s

/-- Write descriptors in progress, with their cores, that reach what a read descriptor reads: its allocation, or its far core. -/
def writing (s : State) (x : Desc) : List (Nat × Desc) :=
  s.cores.flatMap (fun (d, k) => (k.descs.filter (fun y => y.write && y.state == 1 && y.kind == x.kind &&
    (if x.kind = 1 then y.handle == x.handle else y.farCore == x.farCore))).map (fun y => (d, y)))

/-- What a read descriptor reads at a far address. -/
def readFar (s : State) (x : Desc) (a n : Nat) : List Byte := if x.kind = 1 then s.peek x.handle a n else s.scratch x.farCore a n

/-- Lands one piece of a read descriptor in local scratch: where a write that is not complete reaches what is read, each aligned 16-byte
unit is its old contents or the new, as free values choose (R193). -/
def readPiece (s : State) (c : Nat) (x : Desc) (p : Nat × Nat × Nat) : State :=
  let old := s.readFar x p.1 p.2.2
  if s.writing x = [] then s.setScratch c p.2.1 old
  else
    let new := ((s.writing x).foldl (fun s y => s.writeFar y.1 y.2) s).readFar x p.1 p.2.2
    (s.drawn (p.2.2 / 16 + 1)).setScratch c p.2.1 ((List.range p.2.2).map (fun i =>
      (if bit (Config.freeValue (s.free + ((p.1 + i) / 16 - p.1 / 16))).toNat 0 then new else old).getD i 0))

/-- Moves the data of a descriptor that no far request over Causeway moved (Table 7.3). -/
def moveData (s : State) (c : Nat) (x : Desc) : State :=
  if x.kind = 1 ∨ x.kind = 2 then
    if x.write then s.writeFar c x else (x.pieces.filter (fun p => !x.served.contains p.2.1)).foldl (fun s p => s.readPiece c x p) s
  else if x.kind = 4 then
    s.prefetchRange x.part x.handle x.granules (x.w 3 51 50 == 1) (coresOf (s.partDistricts x.part))
  else s

/-- Merged writes are applied in issue order: with the requests of a write those of the writes issued before it that one far request served
too land first (R198). -/
def landMerged (s : State) (c : Nat) (x : Desc) : State :=
  ((s.engine c true).takeWhile (fun y => y.place != x.place)).foldl (fun s y =>
    if y.state ≠ 1 ∨ y.kind ≠ 1 ∨ x.sharedWith y = 0 then s
    else
      let ps := y.pieces.filter (fun p => !y.served.contains p.2.1 && x.pieces.any (fun q => q.1 / 4096 == p.1 / 4096))
      (ps.foldl (fun s p => s.writeAlloc y.handle p.1 (s.scratch c p.2.1 p.2.2)) s).updDesc c y (fun y =>
        { y with served := y.served ++ ps.map (fun p => p.2.1) })) s

/-- The post of a completed descriptor: at once where it is local; a far post travels behind the data (R192). -/
def postDesc (s : State) (c : Nat) (x : Desc) : State :=
  let pair := x.w 0 55 50
  let room := x.w 0 49 49 == 1
  let v := x.w 0 48 33
  if !x.postOn then s
  else if x.postFar then { s with net := { s.net with farPosts := s.net.farPosts ++ [(x.farCore, pair, room, x.slot, x.epoch, v)] } }
  else s.semPost c pair x.slot x.epoch room v

/-- DESCRIPTOR_COMPLETE (R192, R198, R201, R206): a descriptor in progress with every far request answered completes, or meets an
error. -/
def descComplete (s : State) (c : Nat) (write : Bool) (place : Nat) (f : DescFacts) : State :=
  match s.descAt c write place with
  | none => s
  | some x =>
    if x.state ≠ 1 ∨ x.reqs ≠ [] then s
    else
      let s := (List.range f.farCe).foldl (fun s i => s.farCorrected c x i) s
      let s := s.bumpSat (Reg.CORE_ECC_CE c) f.localCe
      let s := if (f.dirBad || f.dirLost) && x.kind == 1 then
          { s.setFld Reg.TIER_STATUS 0 0 1 with tier := { s.tier with dirRewrite := true } } else s
      let s := if f.dirLost ∧ x.kind = 1 then s.granuleLost x.handle (x.far / 65536) else s
      match s.dataFault c x, (if x.write then f.localUe else none), (if x.kind = 1 ∨ (x.kind = 2 ∧ x.write = false) then f.farUe else none) with
      | some code, _, _ => (match s.deadFar c x with | some off => if code = 6 then s.unitLost x.handle off else s | none => s).streamFault c x code
      | none, some k, _ => (s.spoilScratch c (byteAt x k).2).streamFault c x 7
      | none, none, some k =>
        let far := (byteAt x k).1
        (s.farError c x far).streamFault c x 6 (s.servedBy c x far).isSome
      | none, none, none =>
        let merged := min f.merged x.shared
        let s := if 0 < merged ∧ x.write = true then s.landMerged c x else s
        let s := s.moveData c x
        let s := s.bump (Reg.TIER_STREAM_DESC x.part)
        let s := if x.kind = 4 then s else s.countBytes x.part (b2n x.write) x.bytes
        let s := s.bump (Reg.TIER_STREAM_MERGED x.part) merged
        let s := ((s.postDesc c x).dropDesc c x).markMoved c
        if x.kind = 1 ∧ x.write = true then s.portWritten c x else s

/-- DESCRIPTOR_SLOT_FREED (R204): the last far request of a cancelled descriptor has returned. -/
def descFreed (s : State) (c : Nat) (write : Bool) (place : Nat) : State :=
  match s.descAt c write place with
  | none => s
  | some x => if x.state = 2 then s.dropDesc c x else s

/-- FAR_POST: the oldest far post for a count of a pair reaches it (R192, R149). -/
def farPost (s : State) (c n : Nat) (room : Bool) : State :=
  match s.net.farPosts.find? (fun p => p.1 == c && p.2.1 == n && p.2.2.1 == room) with
  | none => s
  | some (a, b, r, slot, ep, v) =>
    ({ s with net := { s.net with farPosts := s.net.farPosts.erase (a, b, r, slot, ep, v) } } : State).semPost c n slot ep room v

/-! Answers over Causeway (R368, R369). -/

/-- The descriptor whose far request a transaction answers: core, descriptor, request. -/
def farReq? (s : State) (node txn : Nat) : Option (Nat × Desc × FarReq) :=
  s.cores.findSome? (fun (c, k) => k.descs.findSome? (fun x =>
    (x.reqs.find? (fun r => r.txn == txn && r.node == node)).map (fun r => (c, x, r))))

/-- Bytes of a 4 KiB block land in the record of an allocation. -/
def landBlock (s : State) (h g b : Nat) (data : List Byte) : State :=
  s.updAlloc h (fun a => { a with data := a.data.write (g * 65536 + b * 4096) (sliceBytes data 0 4096) })

/-- READ_DATA of a request of the tier block's own: a block of a granule that comes back from a lender, unless it has been written since;
a block of a replica; a host message's; or a unit that is rebuilt (R213, R222, Table 8.10). -/
def tierData (s : State) (node txn : Nat) (data : List Byte) : State :=
  match s.tier.moveAcks.find? (fun m => m.txn == txn), s.tier.fetches.find? (fun f => f.txn == txn && f.node == node) with
  | some m, _ =>
    let s : State := { s with tier := { s.tier with moveAcks := s.tier.moveAcks.erase m } }
    let dirty := match s.alloc? m.handle with | some a => (a.entry m.granule).dirty.contains m.block | none => true
    if dirty then s else s.landBlock m.handle m.granule m.block data
  | none, some f => ({ s with tier := { s.tier with fetches := s.tier.fetches.erase f } } : State).landBlock f.handle f.granule f.block data
  | none, none => (s.waitAnswered node txn data).rebuildData txn node data

/-- REFUSE of a request of the tier block's own. -/
def tierRefused (s : State) (node txn : Nat) : State :=
  match s.tier.moveAcks.find? (fun m => m.txn == txn), s.tier.fetches.find? (fun f => f.txn == txn && f.node == node) with
  | some m, _ =>
    let back := match s.alloc? m.handle with | some a => (a.entry m.granule).tier == 3 | none => false
    ({ s with tier := { s.tier with moveAcks := s.tier.moveAcks.erase m } } : State).unpickSeam m.seam (if back then 0x30 else 0x31)
  | none, some f => s.fetchFailed f.handle f.granule
  | none, none => (s.waitFailed node (some txn)).rebuildMissed txn node

/-- READ_DATA: the bytes land in local scratch; an answer nothing waits for is discarded (R204). -/
def readData (s : State) (node txn : Nat) (data : List Byte) : State :=
  match s.farReq? node txn with
  | none => s.tierData node txn data
  | some (c, x, r) =>
    if x.write then s
    else
      let s := r.pieces.foldl (fun s p => s.setScratch c p.2.1 (sliceBytes data p.1 p.2.2)) s
      s.updDesc c x (fun y => { y with reqs := y.reqs.filter (fun q => q.txn != txn) })

/-- WRITE_ACK. -/
def writeAck (s : State) (node txn : Nat) : State :=
  match s.farReq? node txn with
  | none => s.waitAnswered node txn []
  | some (c, x, _) => if x.write then s.updDesc c x (fun y => { y with reqs := y.reqs.filter (fun q => q.txn != txn) }) else s

/-- REFUSE: the descriptor's task faults REMOTE_REFUSED; what the tier block asked for itself fails. -/
def remoteRefused (s : State) (node txn : Nat) : State :=
  match s.farReq? node txn with
  | none => s.tierRefused node txn
  | some (c, x, _) => s.streamFault c x 9

/-- REMOTE_TIMEOUT (R202, Table 8.10): a far request of a REMOTE descriptor, or a rebuild's, unanswered for 200 µs. -/
def remoteTimeout (s : State) (node txn : Nat) : State :=
  match s.farReq? node txn with
  | none => match s.rebuild? txn node with
    | some r => if r.since + 20000 ≤ s.now then s.rebuildMissed txn node else s
    | none => s
  | some (c, x, _) => if x.kind = 3 ∧ x.startedAt + 20000 ≤ s.now then s.streamFault c x 0x0A else s

/-- Far requests to a lost node: their descriptors fault HOME_LOST (R202, R235). -/
def farNodeLost (s : State) (n : Nat) : State :=
  (s.cores.flatMap (fun (c, k) => (k.descs.filter (fun x => x.reqs.any (fun r => r.node == n))).map (fun x => (c, x)))).foldl
    (fun s (c, x) => match s.descAt c x.write x.place with
      | some y => if y.state = 1 ∧ y.seqNo = x.seqNo then s.streamFault c y 8 else s
      | none => s) s

end State

end Sys2Proof.Machine
end

