-- ==== Sys2Proof/Machine/Districts.lean ====
section
/-!
DEFINITION. District operations (05): epoch advances that waited (R151), stalls (R164), press outcomes (R158 to R160), wringing,
scan-in and release (R162, R163).
-/
namespace Sys2Proof.Machine

namespace State

/-- EPOCH_ADVANCE: an advance that waited for a descriptor is made once none blocks it (R151). -/
def epochAdvance (s : State) (d slot : Nat) : State :=
  match s.net.advances.find? (fun a => a.1 == d && a.2.1 == slot) with
  | none => s
  | some (_, _, abort) =>
    if s.advanceBlocked d slot then s
    else ({ s with net := { s.net with advances := s.net.advances.erase (d, slot, abort) } } : State).doAdvance d slot abort

/-- Cores of a district that run a tile. -/
def runningIn (s : State) (d : Nat) : List Nat := (coresOf (1 <<< d)).filter (fun c => s.coreState c == 1)

/-- Instant of the last movement in a district (R164). -/
def lastMoved (s : State) (d : Nat) : Nat := (coresOf (1 <<< d)).foldl (fun t c => max t (s.core c).moved) 0

/-- A district moves now: a descriptor of it stands between its first far request and its completion (R195), or the exchange holds a block
of a task of it, or one waits (R317). -/
def moving (s : State) (d : Nat) : Bool :=
  (coresOf (1 <<< d)).any (fun c => (s.core c).descs.any (fun x => x.state == 1)) ||
    s.expert.blocks.any (fun b => (s.ctxDistricts b.ctx).contains d)

/-- STALL (R164): a district in which some core runs a tile has not moved for 65,536 cycles, 40.96 µs at 1.6 GHz. -/
def stall (s : State) (d : Nat) : State :=
  let cs := s.runningIn d
  if cs = [] ∨ s.moving d = true ∨ s.now < s.lastMoved d + 4096 then s
  else
    let slots := cs.foldl (fun m c => m ||| 1 <<< s.activeSlot c) 0
    let s := (s.bump (Reg.SERVING_DIST_STALLS d)).event 0x0010 2 1 (s.districtOwner d) [d, slots]
    (s.tasksIn d).foldl (fun s c => s.abortOwners c 4 0x0010) s

/-! Presses. -/

/-- The open press of a seam. -/
def press? (s : State) (k : Nat) : Option Press := s.seams.presses.find? (fun w => w.seam == k)

/-- PRESS_COMMIT: the press commits once every district of its rectangle is quiet (R158). -/
def pressQuiet (s : State) (k : Nat) : State :=
  match s.press? k with
  | some w => if w.phase = 0 then s.tryCommit k else s
  | none => s

/-- PRESS_NOT_QUIET (R158): the wait has lasted 100 µs. -/
def pressNotQuiet (s : State) (k : Nat) : State :=
  match s.press? k with
  | none => s
  | some w =>
    if w.phase ≠ 0 ∨ s.now < w.since + 10000 then s
    else
      let ds := rectDistricts w.origin (s.imgW w.image) (s.imgH w.image)
      ((ds.foldl (fun s d => s.bump (Reg.SERVING_DIST_NOTQUIET d)) s).unpickSeam k prNotQuiet).takeAll s.workCores

/-- PRESS_LOAD_COMPLETE (R159, R160): the core records are in, or could not be read even from the image's home. -/
def pressLoadEnd (s : State) (k : Nat) (failed : Bool) : State :=
  match s.press? k with
  | none => s
  | some w =>
    if w.phase ≠ 1 then s
    else
      let ctx := firstFrom (fun c => s.ctxState c != 0 && s.ctxPart c == w.part && s.ctxSlot c == w.slot && s.ctxOrigin c == w.origin) 0 64
      let s := if failed then s else s.pressLoaded w
      let s := { s with seams := { s.seams with presses := s.seams.presses.filter (fun x => x.seam != k) } }
      let s := s.finishSeam k
      let s := if failed then
          let s := s.event 0x0012 2 1 (some w.part) [w.part, w.slot, w.origin]
          match ctx with
          | some c => s.pressFailure c none
          | none => s
        else match ctx with
          | some c => s.formationReady c
          | none => s
      s.takeAll s.workCores

/-! Raw large-tier bytes. -/

/-- The allocation's granule homed uncompressed at a large-tier granule, if there is one. -/
def largeAt (s : State) (n : Nat) : Option (Nat × Nat) :=
  s.tier.allocs.findSome? (fun (h, a) => (List.find? (fun (x : Nat × DirEntry) =>
    x.2.tier == 1 && (x.2.state == 1 || x.2.state == 2) && x.2.location == n * 128) a.dir).map (fun x => (h, x.1)))

/-- Bytes of the large tier from the start of a granule, `fuel` granules at most. -/
def largeRead (s : State) (n : Nat) : Nat → Nat → List Byte
  | 0, _ => []
  | fuel + 1, len =>
    let m := min len 65536
    let b := match s.largeAt n with
      | some (h, g) => s.peek h (g * 65536) m
      | none => s.tier.raw.bytes (n * 65536) m
    b ++ (if len ≤ 65536 then [] else largeRead s (n + 1) fuel (len - 65536))

/-- A read of `k` granules of the large tier from granule `n` on meets an unreadable burst (R225). -/
def largeBad (s : State) (n k : Nat) : Bool :=
  (List.range k).any (fun i => match s.largeAt (n + i) with
    | some (h, g) => (s.readAlloc h (g * 65536) 65536).isNone
    | none => s.rawBad ((n + i) * 128) 0 65536)

/-- Writes bytes of the large tier from the start of a granule. -/
def largeWrite (s : State) (n : Nat) : Nat → List Byte → State
  | 0, _ => s
  | fuel + 1, v =>
    let w := v.take 65536
    let s := match s.largeAt n with
      | some (h, g) => s.writeAlloc h (g * 65536) w
      | none => s.rawWrite (n * 128) 0 w
    if v.length ≤ 65536 then s else largeWrite s (n + 1) fuel (v.drop 65536)

/-! Wringing. -/

/-- An entry header of a wring record (Table 5.11). -/
def wringEntry (kind core net chan slot ep circuit tag value : Nat) : List Byte :=
  leBytes 8 (kind * 2 ^ 60 + core * 2 ^ 56 + net * 2 ^ 54 + chan % 16 * 2 ^ 50 + slot * 2 ^ 48 + ep * 2 ^ 44 + circuit % 64 * 2 ^ 38 +
    tag * 2 ^ 32 + value)

/-- A queue or transit entry of a wring record. -/
def wringQueue (kind core net chan : Nat) (e : QEntry) : List Byte :=
  let v := e.data.toNat
  if net = 0 then wringEntry kind core net chan e.slot e.epoch e.circuit 0 0 ++ leBytes 64 v
  else wringEntry kind core net chan e.slot e.epoch e.circuit (if net = 1 then bits v 35 32 else 0) (if net = 1 then v % 2 ^ 32 else v % 256)

/-- The configurations of a core's output channels that a slot owns. -/
def wringOutputs (s : State) (c i : Nat) : List (List Byte) :=
  (List.range 4).flatMap (fun k => if s.slotValid c k then (List.range 48).filterMap (fun j =>
    let v := (Tab.get 0 (s.slotImg c k).outputs j).toNat
    if bit v 31 then some (wringEntry 5 i (j / 16) (j % 16) k (s.epoch (districtOf c) k) (bits v 5 0) 0 v) else none) else [])

/-- The entries of one core of a district, in the model's order: its input channels' configuration and queues, its output channels'
configuration, its transit entries, its owned pairs, its steering units (log entry 30). -/
def wringCore (s : State) (c i : Nat) : List (List Byte) :=
  let chans := (List.range 48).flatMap (fun j =>
    let owner := (List.range 4).find? (fun k => s.slotValid c k && bit (s.inCfg c k (j / 16) (j % 16)) 31)
    (match owner with
     | some k => [wringEntry 5 i (j / 16) (j % 16) k (s.epoch (districtOf c) k) 0 0 (s.inCfg c k (j / 16) (j % 16))]
     | none => []) ++ (s.chanQueue c (j / 16) (j % 16)).map (fun e =>
      wringQueue 1 i (j / 16) (j % 16) { e with data := s.entryData c (j / 16) (j % 16) e }))
  let transit := (s.net.flight.filter (fun f => f.core == c)).map (fun f => wringQueue 2 i f.net f.port f.entry)
  let pairs := (List.range 64).filterMap (fun n => (s.semOwner c n).map (fun k =>
    wringEntry 3 i 3 n k (s.epoch (districtOf c) k) (n / 16) 0 (s.rd (Reg.CORE_SEM c n))))
  let units := (List.range 4).flatMap (fun k => if s.slotValid c k then (List.range 4).filterMap (fun u =>
    let g := (Tab.get 0 (s.slotImg c k).steer u).toNat
    if bits g 63 61 = 0 then none else some (wringEntry 4 i 3 u k (s.epoch (districtOf c) k) 0 0 (bits g 63 32))) else [])
  chans ++ s.wringOutputs c i ++ transit ++ pairs ++ units

/-- As many whole entries as fit in a number of bytes, and whether all did. -/
def fitEntries : List (List Byte) → Nat → List (List Byte) × Bool
  | [], _ => ([], true)
  | e :: t, room => if e.length ≤ room then let (l, ok) := fitEntries t (room - e.length); (e :: l, ok) else ([], false)

/-- A press of the district is still open: its seam has neither closed nor been unpicked (R161). -/
def pressWaits (s : State) (d : Nat) : Bool :=
  s.seams.recs.any (fun x => decide (x.2.state ≤ 3) && (seamPresses x.2).any (fun w =>
    (rectDistricts w.origin (s.imgW w.handle) (s.imgH w.handle)).contains d))

/-- Step 1 of a wring (R162). -/
def beginWring (s : State) (d : Nat) (w : Wring) : State :=
  let ts := s.tasksIn d
  let s := { s with net := { s.net with wrings := Tab.set s.net.wrings d { w with op := 1, aborted := !ts.isEmpty } } }
  ts.foldl (fun s c => s.abortOwners c 0 0) (s.setDistState d 4)

/-- WRING (R161, R162): a wring begins, or waits for an open press. -/
def wring (s : State) (d : Nat) : State :=
  let w : Wring := { op := 3, granule := s.fld (Reg.SERVING_DIST_WRING_ADDR d) 24 0, granules := s.fld (Reg.SERVING_DIST_WRING_CTRL d) 15 8 }
  let s := s.setFld (Reg.SERVING_DIST_WRING_STATUS d) 31 31 1
  if s.pressWaits d then { s with net := { s.net with wrings := Tab.set s.net.wrings d w } } else s.beginWring d w

/-- Sets the end of a wring or a scan-in: busy falls, with the result and the length. -/
def endWring (s : State) (d result length : Nat) : State :=
  let s := { s with net := { s.net with wrings := Tab.erase s.net.wrings d } }
  s.wr (Reg.SERVING_DIST_WRING_STATUS d) (bits (s.rd (Reg.SERVING_DIST_WRING_STATUS d)) 30 30 * 2 ^ 30 + result * 2 ^ 27 + length)

/-- Removes every queue and transit entry of a district (R162). -/
def emptyDistrict (s : State) (d : Nat) : State :=
  let s := (coresOf (1 <<< d)).foldl (fun s c => if (s.core c).queues.isEmpty then s else s.updCore c (fun k => { k with queues := [] })) s
  ({ s with net := { s.net with flight := s.net.flight.filter (fun f => districtOf f.core != d) } } : State).flow

/-- A district holds no queue and no transit entry. -/
def distEmpty (s : State) (d : Nat) : Bool :=
  !(coresOf (1 <<< d)).any (fun c => (s.core c).queues.any (fun q => !q.2.isEmpty)) && !s.net.flight.any (fun f => districtOf f.core == d)

/-- WRING_DONE (R162): once no core of the district runs a tile, its state is written and removed. -/
def wringDone (s : State) (d : Nat) : State :=
  match Tab.find? s.net.wrings d with
  | none => s
  | some w =>
    if w.op = 3 then (if s.pressWaits d then s else s.beginWring d w)
    else if w.op ≠ 1 ∨ s.runningIn d ≠ [] then s
    else
      let cs := coresOf (1 <<< d)
      let es := (cs.zip (List.range cs.length)).flatMap (fun (c, i) => s.wringCore c i)
      let (kept, all) := fitEntries es (w.granules * 65536 - 64)
      -- The mask of slots valid in any core of the district (log entry 134).
      let mask := cs.foldl (fun m c => m ||| s.fld (Reg.CORE_STATUS c) 11 8) 0
      let head := leBytes 4 0x47525747 ++ leBytes 1 d ++ leBytes 1 mask ++ leBytes 2 (s.fld (Reg.SERVING_DIST_STATUS d) 31 16) ++
        leBytes 8 s.legCount ++ leBytes 4 kept.length ++ leBytes 44 0
      let rec_ := head ++ kept.flatten
      let s := (s.largeWrite w.granule 255 rec_).emptyDistrict d
      (s.setDistState d 6).endWring d (if !all then 2 else if w.aborted then 1 else 0) (ceilDiv rec_.length 64)

/-- SCAN_IN (R163): it begins only in a district stopped and empty. -/
def scanIn (s : State) (d : Nat) : State :=
  if s.distState d ≠ 6 ∨ s.distEmpty d = false then s.endWring d 3 0
  else
    let w : Wring := { op := 2, granule := s.fld (Reg.SERVING_DIST_WRING_ADDR d) 24 0, granules := s.fld (Reg.SERVING_DIST_WRING_CTRL d) 15 8 }
    let s := { s with net := { s.net with wrings := Tab.set s.net.wrings d w } }
    (s.setDistState d 5).setFld (Reg.SERVING_DIST_WRING_STATUS d) 31 31 1

/-- One entry of a record restored into a district: what is left of the bytes, or none for a bad one. A channel's configuration is an
input's where it names a capacity, an output's where it does not (Table 5.3). -/
def restoreEntry (s : State) (d : Nat) (b : List Byte) : Option (State × List Byte) :=
  let v := fieldAt b 0 8
  let kind := bits v 63 60
  let c := (coresOf (1 <<< d)).getD (bits v 59 56) 0
  let net := bits v 55 54
  let chan := bits v 53 50
  let slot := bits v 49 48
  let ep := bits v 47 44
  let current := s.epoch d slot == ep
  if bits v 37 36 ≠ 0 ∨ kind = 0 ∨ 5 < kind then none
  else if kind ≤ 2 then
    if net = 3 then none
    else
      let n := if net = 0 then 72 else 8
      let data := if net = 0 then fieldAt b 8 64 else if net = 1 then bits v 35 32 * 2 ^ 32 + bits v 31 0 else bits v 7 0
      let e : QEntry := { slot := slot, epoch := ep, circuit := bits v 43 38, data := BitVec.ofNat 512 data }
      let s := if !current then s.stray c
        else if kind = 1 then s.enqueue c net chan e
        else { s with net := { s.net with flight := s.net.flight ++ [{ net := net, core := c, port := chan, entry := e }] } }
      some (s, b.drop n)
  else
    let w := bits v 31 0
    let img (f : SlotImg → SlotImg) : State := s.updCore c (fun k => { k with slots := Tab.set k.slots slot (f ((Tab.find? k.slots slot).getD {})) })
    some (if !current then s.stray c
      else if kind = 3 then
        let n := bits v 39 38 * 16 + chan
        (s.setSemOwner c n (some slot)).wr (Reg.CORE_SEM c n) w
      else if kind = 4 then img (fun g => { g with steer := Tab.put 0 g.steer chan (BitVec.ofNat 64 (w * 2 ^ 32)) })
      else if net = 3 then s
      else if bits w 30 22 = 0 then img (fun g => { g with outputs := Tab.put 0 g.outputs (net * 16 + chan) (BitVec.ofNat 32 w) })
      else img (fun g => { g with inputs := Tab.put 0 g.inputs (net * 16 + chan) (BitVec.ofNat 32 w) }), b.drop 8)

/-- Restores the entries of a record, `n` of them. -/
def restoreEntries (s : State) (d : Nat) : Nat → List Byte → Option State
  | 0, _ => some s
  | n + 1, b =>
    if b.length < 8 then none
    else match s.restoreEntry d b with
      | none => none
      | some (s, b) => restoreEntries s d n b

/-- SCAN_IN_COMPLETE (R163): the entries are back and the district is released; a bad record, or a buffer that
cannot be read, restores nothing and leaves it stopped. -/
def scanInDone (s : State) (d : Nat) : State :=
  match Tab.find? s.net.wrings d with
  | none => s
  | some w =>
    if w.op ≠ 2 then s
    else
      let b := s.largeRead w.granule 255 (w.granules * 65536)
      if s.largeBad w.granule w.granules then (s.countUe.setDistState d 6).endWring d 4 0
      else if fieldAt b 0 4 ≠ 0x47525747 ∨ fieldAt b 4 1 ≠ d ∨ zerosAt b 0x14 44 = false then (s.setDistState d 6).endWring d 4 0
      else match s.restoreEntries d (fieldAt b 0x10 4) (b.drop 64) with
        | none => (s.setDistState d 6).endWring d 4 0
        | some t =>
          let t := (t.setDistState d 0).endWring d 0 0
          t.takeAll (coresOf (1 <<< d))

/-- DISTRICT_RELEASE (R163): a stopped district runs again, nothing restored. -/
def releaseDistrict (s : State) (d : Nat) : State :=
  if s.distState d = 6 then (s.setDistState d 0).takeAll (coresOf (1 <<< d)) else s

/-- EVICTION_TIMEOUT (R334): an evicting slot not quiet within 100 µs; the districts concerned are wrung and the slot is then cleared. A
district whose cores have still to reach their boundaries is wrung first, and EVICTION_QUIET clears the slot after it. -/
def evictionTimeout (s : State) (c : Nat) : State :=
  if s.ctxState c ≠ 4 then s
  else
    let ds := (s.ctxDistricts c).filter (fun d => !s.quiet d (s.ctxSlot c))
    (ds.foldl (fun s d => (s.wring d).wringDone d) s).evictionQuiet c

end State

end Sys2Proof.Machine
end

