-- ==== Sys2Proof/Machine/Experts.lean ====
section
/-!
DEFINITION. The expert exchange (12): dispatch blocks, claims and windows, grants, rows and results, combining, bypasses, private
experts and their bays, and what a failure does to dispatch.
-/
namespace Sys2Proof.Machine

/-! The token tag (Table 12.2). -/

/-- Field of a tag. -/
def tagField (t : W64) (hi lo : Nat) : Nat := bits t.toNat hi lo
/-- Origin node of a tag. -/
def tagNode (t : W64) : Nat := tagField t 63 52
/-- Its sequence slot. -/
def tagSlot (t : W64) : Nat := tagField t 51 39
/-- Its position. -/
def tagPos (t : W64) : Nat := tagField t 38 23
/-- Its MoE layer. -/
def tagLayer (t : W64) : Nat := tagField t 22 16
/-- Its choice index. -/
def tagChoice (t : W64) : Nat := tagField t 15 14
/-- Its expert index. -/
def tagExpert (t : W64) : Nat := tagField t 13 8
/-- It names a private expert. -/
def tagPrivate (t : W64) : Bool := t.getLsbD 0
/-- It is a speculative candidate. -/
def tagSpec (t : W64) : Bool := t.getLsbD 1

/-- Key of the expert a tag names: model, layer and expert, or patch, layer and private expert. -/
def expertKey (model : Nat) (patch : Option Nat) (t : W64) : Nat :=
  match patch with
  | none => (model * 128 + tagLayer t) * 64 + tagExpert t
  | some n => 2 ^ 23 + (n * 128 + tagLayer t) * 8 + tagExpert t % 8

/-- Bytes of a row of in_fmt of a placement entry. -/
def inRow (e : Nat) : Nat := 64 * entAt e 6 1 * (if entAt e 3 1 = 0x07 then 2 else 1)
/-- Bytes of a row of out_fmt. -/
def outRowBytes (e : Nat) : Nat := 64 * entAt e 6 1 * (if entAt e 7 1 = 0x08 then 4 else 2)

namespace State

/-- Placement entry of a model's layer (Table 12.1). -/
def placement (s : State) (m l : Nat) : Nat := s.entry 5 (m * 128 + l)

/-- The node that hosts a shared expert; none where a choice of it is missing (Table 12.5). -/
def expertHost (s : State) (m l e : Nat) : Option Nat :=
  let v := s.placement m l
  let w := entAt v (0x10 + 2 * e) 2
  if !bit (entAt v 0 1) 0 || decide (entAt v 1 1 ≤ e) || !bit w 15 || !bit w 14 || s.expert.void.contains ((m * 128 + l) * 64 + e) ||
      s.nodeLost (bits w 11 0) || s.offBy (.expert m l e) then none
  else some (bits w 11 0)

/-- The model's expert context here, resident with no press open (R307). -/
def expertCtx (s : State) (m : Nat) : Option Nat :=
  firstFrom (fun c => s.ctxState c == 2 && s.ctxExpert c && s.ctxModel c == m && !s.pressOpen c) 0 64

/-! Blocks held. -/

/-- Changes the held block of a context at an offset. -/
def updBlock (s : State) (ctx off : Nat) (f : DispBlock → DispBlock) : State :=
  { s with expert := { s.expert with blocks := s.expert.blocks.map (fun b => if b.ctx = ctx ∧ b.off = off ∧ b.held = true then f b else b) } }

/-- The dispatch port of a context. -/
def dispPort (s : State) (ctx : Nat) : Nat := (s.ctx ctx).seamPort + 1

/-- Elements of a result row as FP32 words. -/
def resultWords (fmt : Nat) (b : List Byte) (n : Nat) : List W32 :=
  (List.range n).map (fun i => if fmt = 0x08 then BitVec.ofNat 32 (fieldAt b (4 * i) 4) else BitVec.ofNat 32 (fieldAt b (2 * i) 2 * 65536))

/-- The combined row of a token's accepted choices, in ascending choice index (R316); `v` numbers the free values of NaNs. -/
def combineRow (v width : Nat) (noRenorm : Bool) (outFmt : Nat) (l : List Choice) : List Byte :=
  if l = [] then List.replicate (width * (if outFmt = 0x08 then 4 else 2)) 0
  else
    let rows := l.map (fun x => (x.gate, resultWords outFmt x.result width))
    let gsum := FV.ofW32 (l.foldl (fun a x => addW v a x.gate) 0)
    let plain : Bool := noRenorm || !(gsum.isFin && FV.zero.lt gsum)
    (List.range width).flatMap (fun c =>
      let acc := rows.foldl (fun a (g, y) => fmaW (v + 1 + c) g (y.getD c 0) a) 0
      let w := if plain then acc else FV.toW32 (nanOf (v + 1 + c)) (FV.div32 (FV.ofW32 acc) gsum)
      if outFmt = 0x08 then leBytes 4 w.toNat else leBytes 2 (convertPlain 0x07 (FV.ofW32 w) none).1)

/-- A block whose every choice has a result or is bypassed is combined, its status written, its post made, and it leaves the
exchange (R316). -/
def finishBlock (s : State) (ctx off : Nat) : State :=
  match s.expert.blocks.find? (fun b => b.ctx == ctx && b.off == off && b.held) with
  | none => s
  | some b =>
    if b.choices.any (fun x => decide (x.state < 3)) then s
    else
      let e := s.placement (s.ctxModel ctx) b.layer
      let port := s.dispPort ctx
      let width := 64 * entAt e 6 1
      let took (i : Nat) : List Choice := b.choices.filter (fun x => x.token == i && x.state == 3)
      let base := s.free
      let s := s.drawn (256 * 32768)
      let s := (List.range b.tokens).foldl (fun s i =>
        s.writeAlloc port (b.combineOff + i * outRowBytes e)
          (combineRow (base + i * 32768) width (bit (entAt e 0 1) 1) (entAt e 7 1) (took i))) s
      let empty := ((List.range b.tokens).filter (fun i => (took i).isEmpty)).length
      let accepted := (b.choices.filter (fun x => x.state == 3)).length
      let s := s.writeAlloc port (off + 0x24) (leBytes 2 empty ++ leBytes 2 (b.choices.length - accepted))
      let s := s.writeAlloc port (off + 0x20) (leBytes 4 (2 ^ 31 + accepted))
      let s := (s.bump Reg.SERVING_EXPERT_NOCHOICE empty).bump Reg.SERVING_EXPERT_ACCEPTED accepted
      let s := if bit b.post 7 then s.semPost b.core (bits b.post 5 0) (s.ctxSlot ctx) b.epoch false 1 else s
      let s := (s.ctxDistricts ctx).foldl (fun s d => s.markMoved ((coresOf (1 <<< d)).headD 0)) s
      { s with expert := { s.expert with blocks := s.expert.blocks.erase b } }

/-- Bypasses the unsettled choices of a block that meet a test, counting each in a register (R315). -/
def bypass (s : State) (ctx off : Nat) (reg : Nat) (test : Choice → Bool) : State :=
  match s.expert.blocks.find? (fun b => b.ctx == ctx && b.off == off && b.held) with
  | none => s
  | some b =>
    let hit (x : Choice) : Bool := decide (x.state < 3) && test x
    let n := (b.choices.filter hit).length
    if n = 0 then s
    else ((s.bump reg n).updBlock ctx off (fun b => { b with
      choices := b.choices.map (fun x => if hit x then { x with state := 4 } else x) })).finishBlock ctx off

/-- The held block and the granted choice a tag names. -/
def grantedChoice (s : State) (tag : W64) : Option (DispBlock × Choice) :=
  s.expert.blocks.findSome? (fun b => if !b.held then none else
    (b.choices.find? (fun x => x.tag == tag && x.state == 2)).map (fun x => (b, x)))

/-! Results at the source (R314, R317). -/

/-- RESULT: a row for a granted choice; one of an abandoned block is dropped, and any other is late. -/
def expertResult (s : State) (tag : W64) (row : List Byte) : State :=
  match s.grantedChoice tag with
  | some (b, _) =>
    let n := outRowBytes (s.placement (s.ctxModel b.ctx) b.layer)
    (s.updBlock b.ctx b.off (fun b => { b with
      choices := b.choices.map (fun x => if x.tag = tag ∧ x.state = 2 then { x with state := 3, result := sliceBytes row 0 n } else x) })).finishBlock
      b.ctx b.off
  | none =>
    if s.expert.abandoned.contains tag then { s with expert := { s.expert with abandoned := s.expert.abandoned.erase tag } }
    else s.bump Reg.SERVING_EXPERT_LATE

/-- FAILED: the host will not compute the choice. -/
def expertFailed (s : State) (tag : W64) : State :=
  match s.grantedChoice tag with
  | some (b, _) => s.bypass b.ctx b.off Reg.SERVING_EXPERT_BYP_TIMEOUT (fun x => x.tag == tag)
  | none => { s with expert := { s.expert with abandoned := s.expert.abandoned.erase tag } }

/-- EXPERT_TIMEOUT: no result timeout_us after the claim (R317). -/
def expertTimeout (s : State) (ctx off i : Nat) : State :=
  match s.expert.blocks.find? (fun b => b.ctx == ctx && b.off == off && b.held) with
  | none => s
  | some b => match b.choices[i]? with
    | none => s
    | some x =>
      if (x.state = 1 ∨ x.state = 2) ∧ x.claimedAt + 100 * s.fld Reg.SERVING_EXPERT_CTRL 21 16 ≤ s.now then
        s.bypass ctx off Reg.SERVING_EXPERT_BYP_TIMEOUT (fun y => y.tag == x.tag)
      else s

/-! The host (R307, R311 to R314). -/

/-- A granted choice the host will not compute (Table 12.7). -/
def failHosted (s : State) (h : Hosted) : State :=
  let s := { s with expert := { s.expert with hosted := s.expert.hosted.erase h } }
  if h.node = s.node then s.expertFailed h.tag
  else s.send { node := h.node, part := some h.part, flow := tagLayer h.tag, op := 0x34, args := [h.tag.toNat] }

/-- Every granted choice not returned that meets a test is answered FAILED. -/
def failAll (s : State) (test : Hosted → Bool) : State := (s.expert.hosted.filter test).foldl failHosted s

/-- The expert context of a model hosts nothing more, or its task is aborted (R307, Table 12.7). -/
def hostStop (s : State) (model : Nat) : State := s.failAll (fun h => h.model == model)

/-- A shared expert is disabled at once (R58, Table 12.7). -/
def expertOff (s : State) (m l e : Nat) : State :=
  s.failAll (fun h => h.model == m && tagLayer h.tag == l && tagExpert h.tag == e && !tagPrivate h.tag)

/-- ROW: the row of one or more granted choices enters the inbox of the expert context, whose standing item runs (R307, R341); a
choice that will not be computed is answered FAILED. -/
def expertRow (s : State) (node : Nat) (tags : List W64) (row : List Byte) : State :=
  let s := tags.foldl (fun s t =>
    match s.expert.hosted.find? (fun h => h.node == node && h.tag == t && h.row.isNone) with
    | none => s
    | some h =>
      if (s.expertCtx h.model).isNone then s.failHosted h
      else { s with expert := { s.expert with hosted := s.expert.hosted.map (fun g =>
        if g = h then { g with row := some row } else g) } }) s
  let cs := (s.serving.items.filter (fun i => i.standing && s.inboxFull i.context)).flatMap (fun i => s.ctxCores i.context)
  (cs.foldl (fun s c => s.askPreempt c) s).takeAll cs

/-- The results a tile of a standing item has returned by its boundary (R307, R314). -/
def returnResults (s : State) (c : Nat) (results : List (W64 × List Byte)) : State :=
  match (s.core c).boundary, (s.core c).item.bind s.item? with
  | some _, some i =>
    if !i.standing then s
    else results.foldl (fun s (t, row) =>
      match s.expert.hosted.find? (fun h => h.model == s.ctxModel i.context && h.tag == t && h.row.isSome) with
      | none => s
      | some h =>
        let s := { s.bump Reg.SERVING_EXPERT_HOSTED with expert := { s.expert with hosted := s.expert.hosted.erase h } }
        let n := outRowBytes (s.placement h.model (tagLayer t))
        let row := sliceBytes row 0 n
        if h.node = s.node then s.expertResult t row
        else s.send { node := h.node, part := some h.part, flow := tagLayer t, op := 0x33, args := [t.toNat], data := row }) s
  | _, _ => s

/-- GRANT at the source: refused choices are bypassed, and the row of each token with a granted choice is sent once with its tags
(R314). A choice that has timed out since is left alone (R317). -/
def expertGrant (s : State) (node txn granted notResident : Nat) : State :=
  match s.expert.blocks.find? (fun b => b.held && b.choices.any (fun x => x.host == node && x.txn == txn && x.state != 0)) with
  | none => s
  | some b =>
    let mine := b.choices.filter (fun x => x.host == node && x.txn == txn && x.state != 0)
    let bitOf (l : Nat) (t : W64) : Bool := bit l (mine.findIdx (fun x => x.tag == t))
    let claimed (x : Choice) : Bool := x.host == node && x.txn == txn && x.state == 1
    let won := mine.filter (fun x => x.state == 1 && bitOf granted x.tag)
    let e := s.placement (s.ctxModel b.ctx) b.layer
    let s := s.updBlock b.ctx b.off (fun b => { b with
      choices := b.choices.map (fun x => if claimed x && bitOf granted x.tag then { x with state := 2 } else x) })
    let s := (won.map (·.token)).eraseDups.foldl (fun s i =>
      let tags := (won.filter (fun x => x.token == i)).map (·.tag)
      let row := s.peek (s.dispPort b.ctx) (b.off + b.rowsOff + i * inRow e) (inRow e)
      if node = s.node then s.expertRow node tags row
      else s.send { node, part := some (s.ctxPart b.ctx), flow := b.layer, op := 0x32, args := tags.map (·.toNat), data := row }) s
    let s := s.bypass b.ctx b.off Reg.SERVING_EXPERT_BYP_MISSING (fun x => claimed x && bitOf notResident x.tag)
    s.bypass b.ctx b.off Reg.SERVING_EXPERT_BYP_FULL claimed

/-- Answers the claims decided in full: one GRANT each, with a bit per tag (R312). -/
def answerClaims (s : State) : State :=
  let done := s.expert.claims.filter (fun c => c.tags.all (fun t => t.2 != 0))
  let s := { s with expert := { s.expert with claims := s.expert.claims.filter (fun c => c.tags.any (fun t => t.2 == 0)) } }
  done.foldl (fun s c =>
    let mask (v : Nat) : Nat := (c.tags.zip (List.range c.tags.length)).foldl (fun m (t, i) => if t.2 = v then m + 2 ^ i else m) 0
    let s := { s with expert := { s.expert with hosted := s.expert.hosted ++ (c.tags.filter (fun (t : W64 × Nat) => t.2 == 1)).map (fun (t : W64 × Nat) =>
      ({ node := c.node, part := c.part, model := c.model, tag := t.1 } : Hosted)) } }
    if c.node = s.node then s.expertGrant c.node c.txn (mask 1) (mask 3)
    else s.send { node := c.node, part := some c.part, flow := tagLayer ((c.tags.head?.map (·.1)).getD 0), op := 0x31, txn := c.txn, args := [mask 1, mask 3] }) s

/-- Order of a settling window's candidates (R312): a source's tag against another's. -/
def claimBefore (leg : Nat) (a b : W64) : Bool :=
  let rs := leg * 4099 % 8192
  let rn := leg % 4096
  let k (t : W64) : Nat := (tagSlot t + 8192 - rs) % 8192 * 4096 + (tagNode t + 4096 - rn) % 4096
  if tagSpec a ≠ tagSpec b then !tagSpec a
  else if k a ≠ k b then decide (k a < k b)
  else if tagPos a ≠ tagPos b then decide (tagPos a < tagPos b)
  else decide (tagChoice a ≤ tagChoice b)

/-- Capacity of an expert that this module counts (Table 12.1): of the model's layer. -/
def expertCapacity (s : State) (m l : Nat) : Nat := let v := s.placement m l; if bit (entAt v 0 1) 0 then entAt v 4 2 else 0

/-- Used count of an expert in the leg. -/
def expertUsed (s : State) (key : Nat) : Nat := Tab.get 0 s.expert.used key

/-- Settles the waiting choices of one expert (R312, R313). A choice of an expert whose context is not resident, or that is not
enabled here, is not granted. -/
def settleKey (s : State) (key : Nat) (test : Claim → Bool) : State :=
  let waits (c : Claim) (t : W64 × Nat) : Bool := t.2 == 0 && expertKey c.model c.patch t.1 == key
  let all := (s.expert.claims.filter test).flatMap (fun c => (c.tags.filter (waits c)).map (fun t => (c, t.1)))
  let order := all.mergeSort (fun a b => claimBefore s.legCount a.2 b.2)
  let s := order.foldl (fun s (c, t) =>
    let off : Bool := c.patch.isNone && s.expertHost c.model (tagLayer t) (tagExpert t) != some s.node
    let v : Nat := if (s.expertCtx c.model).isNone || off then 3
      else if s.expertUsed key < s.expertCapacity c.model (tagLayer t) then 1 else 2
    { s with expert := { s.expert with
      used := if v = 1 then Tab.put 0 s.expert.used key (s.expertUsed key + 1) else s.expert.used
      claims := s.expert.claims.map (fun d => if d.node = c.node ∧ d.txn = c.txn then
        { d with tags := d.tags.map (fun u => if u.1 = t ∧ u.2 = 0 then (t, v) else u) } else d) } }) s
  s.answerClaims

/-- EXPERT_WINDOW_SETTLE: the window of an expert ends window_cycles after it opened (R311). -/
def windowSettle (s : State) (key : Nat) : State :=
  match Tab.find? s.expert.windows key with
  | none => s
  | some t0 =>
    if t0 * 16 + s.fld Reg.SERVING_EXPERT_CTRL 11 0 ≤ s.now * 16 then
      ({ s with expert := { s.expert with windows := Tab.erase s.expert.windows key } }).settleKey key (fun _ => true)
    else s

/-- CLAIM at a host: each expert it names has its window, opened now if none waits; a window of 0 settles the claim alone (R311). -/
def expertClaim (s : State) (c : Claim) : State :=
  if c.tags = [] then s
  else
    let s := { s with expert := { s.expert with claims := s.expert.claims ++ [c] } }
    (c.tags.map (fun t => expertKey c.model c.patch t.1)).eraseDups.foldl (fun s key =>
      if s.fld Reg.SERVING_EXPERT_CTRL 11 0 = 0 then s.settleKey key (fun d => d.node == c.node && d.txn == c.txn)
      else if (Tab.find? s.expert.windows key).isSome then s
      else { s with expert := { s.expert with windows := Tab.set s.expert.windows key s.now } }) s

/-! Private experts and bays (R318, R319). -/

/-- The private expert object of a patch: handle and header, if the patch has one in the format of Table 12.6. -/
def privObject (s : State) (patch : Nat) : Option Nat :=
  if s.ent 3 patch 6 1 = 0 ∨ s.ent 3 patch 0x14 4 = 0 then none
  else match s.objectHandle (s.ent 3 patch 0x14 4) (s.ent 3 patch 0x18 4) with
    | none => none
    | some h =>
      if s.peekNat h 0 4 ≠ 0x58505850 ∨ s.peekNat h 4 2 ≠ s.ent 3 patch 2 2 ∨ s.peekNat h 6 1 ≠ s.ent 3 patch 6 1 then none else some h

/-- Range entry of a private expert in a layer; 0 where it is absent (R318). -/
def privRange (s : State) (h e l : Nat) : Nat :=
  let layers := s.peekNat h 7 1
  if l < layers then s.peekNat h (s.peekNat h 8 4 + 8 * (e * layers + l)) 8 else 0

/-- Granules of every range of a private expert. -/
def privGranules (s : State) (h e : Nat) : List Nat :=
  ((List.range (s.peekNat h 7 1)).flatMap (fun l =>
    let r := s.privRange h e l
    (List.range (bits r 47 32)).map (· + r % 2 ^ 32))).eraseDups

/-- The bay's entry of a private expert of a patch version. -/
def bayEntry (s : State) (p obj ver e : Nat) : Option BayExpert :=
  s.expert.bays.find? (fun b => b.part == p && b.object == obj && b.version == ver && b.expert == e)

/-- A private expert is resident: loaded, with every range held as a replica. -/
def bayResident (s : State) (p obj ver e : Nat) : Bool :=
  match s.bayEntry p obj ver e with
  | none => false
  | some b => b.resident && b.granules.all (fun g => s.tier.replicas.any (fun r =>
      r.object == obj && r.version == ver && r.granule == g && r.tier == 0 && r.part == p && !r.making))

/-- Shows how many private experts of a partition are resident. -/
def showBay (s : State) (p : Nat) : State :=
  s.setFld (Reg.SERVING_EXPERT_PART p) 12 8 ((s.expert.bays.filter (fun b => b.part == p && b.resident)).length)

/-- Drops a private expert from its bay, with its replicas. -/
def dropBay (s : State) (b : BayExpert) : State :=
  let mine (r : Replica) : Bool :=
    r.object == b.object && r.version == b.version && b.granules.contains r.granule && r.tier == 0 && r.part == b.part
  let s : State := { s with expert := { s.expert with bays := s.expert.bays.erase b } }
  ((s.tier.replicas.filter mine).foldl (fun s r => s.releaseReplica r) s).showBay b.part

/-- A placed or held sequence names a private expert. -/
def bayNamed (s : State) (b : BayExpert) : Bool :=
  s.serving.slots.any (fun x => x.2.part == b.part && (x.2.state == 3 || x.2.state == 4) && bit x.2.flags 4 &&
    s.ent 3 x.2.patch 0x14 4 == b.object && s.ent 3 x.2.patch 0x18 4 == b.version)

/-- Use of a private expert: of its replicas (R219). -/
def bayUse (s : State) (b : BayExpert) : Nat :=
  ((s.tier.replicas.filter (fun r => r.object == b.object && r.version == b.version && b.granules.contains r.granule && r.part == b.part)).map
    (·.use)).sum

/-- Makes room for `n` granules in a bay, the least used first, sparing those named. -/
def bayRoom (s : State) (p n : Nat) : Nat → State
  | 0 => s
  | fuel + 1 =>
    let mine := s.expert.bays.filter (fun b => b.part == p)
    if (mine.map (fun b => b.granules.length)).sum + n ≤ s.fld (Reg.SERVING_EXPERT_PART p) 7 0 then s
    else match ((mine.filter (fun b => !s.bayNamed b)).mergeSort (fun a b => decide (s.bayUse a ≤ s.bayUse b))).head? with
      | some b => bayRoom (s.dropBay b) p n fuel
      | none => s

/-- Asks the tier block to load a private expert into the bay of a partition, whole or not at all. -/
def loadPrivate (s : State) (p patch e : Nat) (gs : List Nat) (cs : List Nat) : State :=
  let obj := s.ent 3 patch 0x14 4
  let ver := s.ent 3 patch 0x18 4
  if (s.bayEntry p obj ver e).isSome then s
  else
    let s := s.bayRoom p gs.length 64
    let used := ((s.expert.bays.filter (fun b => b.part == p)).map (fun b => b.granules.length)).sum
    if s.fld (Reg.SERVING_EXPERT_PART p) 7 0 < used + gs.length then s
    else
      let (s', ok) := gs.foldl (fun (s, ok) g =>
        match s.objectHandle obj ver, s.freePlace p cs with
        | some h, some l => match (s.alloc? h).map (fun a => s.copySource p a g) with
          | none | some .nowhere => (s, false)
          | some src => (s.drawn.makeReplica p h g 0 l src, ok)
        | _, _ => (s, false)) (s, true)
      if ok then
        let b : BayExpert := { part := p, patch, object := obj, version := ver, expert := e, granules := gs }
        { s' with expert := { s'.expert with bays := s'.expert.bays ++ [b] } }
      else s

/-- Step 4's hold: a ready sequence whose private experts are not all resident asks for those the bay can take, and is held once (R319). -/
def bayHolds (s : State) : State :=
  s.serving.slots.foldl (fun s (n, x) =>
    if x.state ≠ 2 ∨ !bit x.flags 4 then s
    else
      let obj := s.ent 3 x.patch 0x14 4
      let ver := s.ent 3 x.patch 0x18 4
      let missing := (List.range (s.ent 3 x.patch 6 1)).filter (fun e => match s.privObject x.patch with
        | none => true
        | some h => s.privGranules h e != [] && !s.bayResident x.part obj ver e)
      if missing = [] ∨ s.expert.heldOnce.contains n = true then s
      else
        let s := s.updSlot n (fun x => { x with state := 3 })
        let s := match s.privObject x.patch, s.expertCtx x.model with
          | some h, some c => missing.foldl (fun (s : State) (e : Nat) =>
              let gs := s.privGranules h e
              if gs.length ≤ s.fld (Reg.SERVING_EXPERT_PART x.part) 7 0 then s.loadPrivate x.part x.patch e gs (s.ctxCores c) else s) s
          | _, _ => s
        ({ s with expert := { s.expert with heldOnce := s.expert.heldOnce ++ [n] } } : State).bump (Reg.SERVING_EXPERT_HELD x.part)) s

/-- PRIVATE_EXPERT_LOAD_DONE: a load into a bay ends; a data error leaves the expert not resident (R319). -/
def privateLoaded (s : State) (p obj ver e : Nat) (failed : Bool) : State :=
  match s.bayEntry p obj ver e with
  | none => s
  | some b =>
    if b.resident then s
    else if failed then s.dropBay b
    else if s.tier.fetches.any (fun f => b.granules.contains f.granule && (s.alloc? f.handle).bind (·.published) == some (obj, ver)) then s
    else
      let made (r : Replica) : Replica :=
        if r.object = obj ∧ r.version = ver ∧ b.granules.contains r.granule = true ∧ r.tier = 0 ∧ r.part = p then { r with making := false } else r
      let s : State := { s with
        expert := { s.expert with bays := s.expert.bays.map (fun x => if x = b then { x with resident := true } else x) }
        tier := { s.tier with replicas := s.tier.replicas.map made } }
      (s.bump (Reg.SERVING_EXPERT_BAYLOADS p)).showBay p

/-! Taking a block (R309, R310). -/

/-- Areas of the port that a held block and its combined rows take. -/
def blockAreas (s : State) (b : DispBlock) : List (Nat × Nat) :=
  [(b.off, b.size), (b.combineOff, b.tokens * outRowBytes (s.placement (s.ctxModel b.ctx) b.layer))]

/-- The block as its header gives it. -/
def readBlock (s : State) (b : DispBlock) : DispBlock :=
  let h := s.peek (s.dispPort b.ctx) b.off 64
  let n := min 1024 (fieldAt h 8 2)
  let r := s.peek (s.dispPort b.ctx) (b.off + 64) (16 * n)
  { b with
    held := true, epoch := s.epoch (districtOf b.core) (s.ctxSlot b.ctx), layer := fieldAt h 4 1, post := fieldAt h 5 1
    tokens := fieldAt h 6 2, rowsOff := fieldAt h 0xC 4, combineOff := fieldAt h 0x10 4, size := fieldAt h 0x14 4
    choices := (List.range n).map (fun i =>
      ({ tag := BitVec.ofNat 64 (fieldAt r (16 * i) 8), gate := BitVec.ofNat 32 (fieldAt r (16 * i + 8) 4), token := fieldAt r (16 * i + 12) 2 } : Choice)) }

/-- The records of a token break R309: too many or none, not consecutive, not in ascending choice index, or the last-choice flag
on another than the last. -/
def recordsBad (topK : Nat) (l : List Choice) (i : Nat) : Bool :=
  let mine := l.filter (fun x => x.token == i)
  let run := ((l.dropWhile (fun x => x.token != i)).takeWhile (fun x => x.token == i)).length
  let idx := mine.map (fun x => tagChoice x.tag)
  mine.isEmpty || decide (topK < mine.length) || run != mine.length ||
    (idx.zip (idx.drop 1)).any (fun (a, b) => decide (b ≤ a)) ||
    (mine.zip (List.range mine.length)).any (fun (x, k) => x.tag.getLsbD 2 != decide (k + 1 = mine.length))

/-- The exchange refuses a block (R310). -/
def blockBad (s : State) (b : DispBlock) : Bool :=
  let port := s.dispPort b.ctx
  let h := s.peek port b.off 64
  let n := fieldAt h 8 2
  let e := s.placement (s.ctxModel b.ctx) b.layer
  let topK := if bit (entAt e 0 1) 0 then entAt e 2 1 else 4
  let seqs := (((s.item? b.item).map (·.seqs)).getD [])
  let held := (s.expert.blocks.filter (fun x => x.ctx == b.ctx && x.held)).flatMap s.blockAreas
  let meets (x y : Nat × Nat) : Bool := decide (x.1 < y.1 + y.2) && decide (y.1 < x.1 + x.2)
  fieldAt h 0 4 != 0x4B505344 || bit b.layer 7 || bit b.post 6 || fieldAt h 0xA 2 != 0 || fieldAt h 0x18 8 != 0 || !zerosAt h 0x28 24 ||
    bits (fieldAt h 0x20 4) 30 11 != 0 || b.tokens == 0 || decide (256 < b.tokens) || n == 0 || decide (1024 < n) ||
    b.rowsOff % 64 != 0 || b.combineOff % 64 != 0 || decide (262144 < b.size) || decide (b.size < 64 + 16 * n) ||
    decide (b.size < b.rowsOff + b.tokens * inRow e) ||
    (s.blockAreas b).any (fun a => decide (1048576 < a.1 + a.2)) ||
    (s.blockAreas b).any (fun a => held.any (meets a)) ||
    b.choices.any (fun x => decide (b.tokens ≤ x.token) || bits x.tag.toNat 7 3 != 0 || tagNode x.tag != s.node || tagLayer x.tag != b.layer ||
      !seqs.contains (tagSlot x.tag)) ||
    (List.range n).any (fun i => s.peekNat port (b.off + 64 + 16 * i + 14) 2 != 0) ||
    (List.range b.tokens).any (recordsBad topK b.choices)

/-- Where a choice of a block goes: none and the counter of its bypass, or its host and, for a private one, its patch. -/
def choiceHost (s : State) (b : DispBlock) (x : Choice) : Sum Nat (Nat × Option Nat) :=
  let m := s.ctxModel b.ctx
  let t := x.tag
  if !tagPrivate t then
    match s.expertHost m b.layer (tagExpert t) with
    | some n => if n ≠ s.node ∧ s.partVcs (s.ctxPart b.ctx) = [] then .inl Reg.SERVING_EXPERT_BYP_MISSING else .inr (n, none)
    | none => .inl Reg.SERVING_EXPERT_BYP_MISSING
  else
    let q := (s.slot? (tagSlot t)).getD {}
    if !bit (entAt (s.placement m b.layer) 0 1) 0 || decide (8 ≤ tagExpert t) || !bit q.flags 4 then .inl Reg.SERVING_EXPERT_BYP_MISSING
    else match s.privObject q.patch with
      | none => .inl Reg.SERVING_EXPERT_BYP_MISSING
      | some h =>
        if s.ent 3 q.patch 6 1 ≤ tagExpert t ∨ s.privRange h (tagExpert t) b.layer = 0 then .inl Reg.SERVING_EXPERT_BYP_MISSING
        else if !s.bayResident (s.ctxPart b.ctx) (s.ent 3 q.patch 0x14 4) (s.ent 3 q.patch 0x18 4) (tagExpert t) then
          .inl Reg.SERVING_EXPERT_BYP_PRIVATE
        else .inr (s.node, some q.patch)

/-- Cuts a list into runs of at most 64. -/
def runs64 {α : Type} : Nat → List α → List (List α)
  | 0, _ => []
  | fuel + 1, l => if l.isEmpty then [] else l.take 64 :: runs64 fuel (l.drop 64)

/-- Sends the claims of a taken block: for each host and each patch, with at most 64 tags each (R311, Table 14.10). -/
def sendClaims (s : State) (b : DispBlock) (l : List (Choice × Nat × Option Nat)) : State :=
  let m := s.ctxModel b.ctx
  let p := s.ctxPart b.ctx
  (l.map (·.2)).eraseDups.foldl (fun s (dest : Nat × Option Nat) =>
    (runs64 32 ((l.filter (fun x => x.2 == dest)).map (fun x => x.1.tag))).foldl (fun s tags =>
      let (s, txn) := s.nextTxn
      let s := s.updBlock b.ctx b.off (fun b => { b with choices := b.choices.map (fun x =>
        if tags.contains x.tag then { x with state := 1, host := dest.1, txn, claimedAt := s.now } else x) })
      let s := s.bump Reg.SERVING_EXPERT_CLAIMED tags.length
      if dest.1 = s.node then s.expertClaim { node := dest.1, txn, part := p, model := m, patch := dest.2, tags := tags.map (·, 0) }
      else s.send { node := dest.1, part := some p, flow := b.layer, op := 0x30, txn,
                    args := [m, b.layer, tagExpert (tags.headD 0)] ++ tags.map (·.toNat) }) s) s

/-- EXCHANGE_TAKE_BLOCK: the oldest waiting block of a context is taken while fewer than 8 of it are held; a refused one aborts the
task (R309, R310). -/
def takeBlock (s : State) (ctx : Nat) : State :=
  match s.expert.blocks.find? (fun b => b.ctx == ctx && !b.held) with
  | none => s
  | some w =>
    if 8 ≤ (s.expert.blocks.filter (fun b => b.ctx == ctx && b.held)).length then s
    else
      let s := { s with expert := { s.expert with blocks := s.expert.blocks.erase w } }
      let b := s.readBlock w
      if s.blockBad b then
        (s.event 0x0013 2 4 (some (s.ctxPart ctx)) [ctx, w.off]).abortOwners ctx 4 0x0013
      else
        let s := { s with expert := { s.expert with
          blocks := s.expert.blocks ++ [b], abandoned := s.expert.abandoned.filter (fun t => !b.choices.any (fun x => x.tag == t)) } }
        let dests := b.choices.map (fun x => (x, s.choiceHost b x))
        let s := s.sendClaims b (dests.filterMap (fun (x, d) => match d with | .inr h => some (x, h) | .inl _ => none))
        let missing (reg : Nat) (x : Choice) : Bool := x.state == 0 && dests.any (fun (y, d) => y.tag == x.tag &&
          (match d with | .inl r => r == reg | .inr _ => false))
        let s := s.bypass ctx w.off Reg.SERVING_EXPERT_BYP_MISSING (missing Reg.SERVING_EXPERT_BYP_MISSING)
        s.bypass ctx w.off Reg.SERVING_EXPERT_BYP_PRIVATE (missing Reg.SERVING_EXPERT_BYP_PRIVATE)

/-! Loss of a node (Table 12.7). -/

/-- What the loss of a node does to dispatch: its claims and rows are dropped, choices awaiting it are bypassed, and placement
words naming it are invalid until rewritten. -/
def expertsNodeLost (s : State) (n : Nat) : State :=
  let words := s.tables.flatMap (fun (k, v) =>
    if k / 2 ^ 20 = 5 then ((List.range 64).filter (fun e => let w := entAt v.toNat (0x10 + 2 * e) 2; bit w 15 && bits w 11 0 == n)).map
      (fun e => k % 2 ^ 20 * 64 + e) else [])
  let s := { s with expert := { s.expert with
    claims := s.expert.claims.filter (fun c => c.node != n), hosted := s.expert.hosted.filter (fun h => h.node != n)
    void := (s.expert.void ++ words).eraseDups } }
  (s.expert.blocks.filter (·.held)).foldl (fun s b =>
    s.bypass b.ctx b.off Reg.SERVING_EXPERT_BYP_TIMEOUT (fun x => x.host == n && (x.state == 1 || x.state == 2))) s

end State

end Sys2Proof.Machine
end

