-- ==== Sys2Proof/Machine/Leg.lean ====
section
/-!
DEFINITION. Sharing milestones (R35 to R41, R373 to R375, R514): timing flits and messages, the MILE_IN edge, phase, lock and holdover.
-/
namespace Sys2Proof.Machine

/-- A timing payload (Table 14.11). -/
def timingPayload (type hops source period milestone correction : Nat) : List Byte :=
  leBytes 1 type ++ leBytes 1 hops ++ leBytes 2 source ++ leBytes 2 period ++ leBytes 2 0 ++ leBytes 8 milestone ++
    leBytes 4 correction ++ leBytes 4 0

namespace State

/-- Ports of a broadcast tree's entry: those it is forwarded on (Table 14.7). -/
def treeOut (s : State) (t : Nat) : List Nat :=
  if bit (s.ent 6 (4096 + t) 0 1) 0 then (List.range 16).filter (bit (s.ent 6 (4096 + t) 2 2)) else []

/-- The port by which a tree's packets arrive; none for its root or an entry not valid. -/
def treeIn (s : State) (t : Nat) : Option Nat :=
  let v := s.ent 6 (4096 + t) 1 1
  if bit (s.ent 6 (4096 + t) 0 1) 0 && !bit v 7 then some (bits v 3 0) else none

/-- Sends a timing flit on a port that carries flits; it is neither sequenced nor retried (R373). -/
def sendTiming (s : State) (p : Nat) (payload : List Byte) : State :=
  (s.putFlit p { kind := 3, payload }).1

/-- The milestone timing flits of a source: on every ready out port of tree 0, with the time from the instant to their sending, which is
open (R374). -/
def sendMilestone (s : State) : State :=
  if s.fld Reg.LEG_SYNC 1 0 ≠ 1 then s
  else ((s.treeOut 0).filter s.portReady).foldl (fun s p =>
    (s.sendTiming p (timingPayload 0 0 s.node s.period s.legCount (s.draw.toNat % 2 ^ 32))).drawn) s

/-- MILE_OUT is high for 1.0 µs from each milestone instant (R37). -/
def mileOut (s : State) : Bool := s.leg.running && s.leg.counted && decide (s.leg.sub < 100)

/-- A reference has come, with the offset of the module from its source in ns: the offset is shown, the next leg corrected by at most
1 µs, and lock taken within 20 ns and lost beyond (R39, R40, Table 2.6). -/
def reference (s : State) (offset : Int) : State :=
  let o := max (-32767) (min 32767 offset)
  let s := s.setFld Reg.LEG_SYNC_STATUS 23 8 (o % 65536).toNat
  let near : Bool := decide (-20 ≤ offset) && decide (offset ≤ 20)
  let s := { s with leg := { s.leg with missed := 0, phase := if near then 0 else max (-100) (min 100 ((-offset).tdiv 10)) } }
  let s := s.setFld Reg.LEG_SYNC_STATUS 1 1 0
  if near = false then s.setFld Reg.LEG_SYNC_STATUS 0 0 0
  else if s.fld Reg.LEG_SYNC_STATUS 0 0 = 0 then
    let s := s.setFld Reg.LEG_SYNC_STATUS 0 0 1
    s.event 0x0031 0 5 none [s.rd Reg.LEG_SYNC_STATUS]
  else s

/-- The module's own instant for the milestone a message has just told of lies behind it: less than half a leg has passed since (log
entry 125). -/
def instantPast (s : State) : Bool := s.leg.counted && decide (2 * s.leg.sub ≤ s.period * 100)

/-- A follower adopts the number and the period of the leg that begins at a milestone, at that milestone (R38): at once where the instant
is past, else when it comes. A period outside 125 to 16,000 is a reserved encoding, and the period in force stays. -/
def adopt (s : State) (milestone period : Nat) : State :=
  let legal := decide (125 ≤ period) && decide (period ≤ 16000)
  let s := if legal then s else s.setFld Reg.LEG_ERR 0 0 1
  if s.instantPast then
    let s := if s.leg.count = BitVec.ofNat 64 milestone then s
      else ({ s with leg := { s.leg with count := BitVec.ofNat 64 milestone } } : State).setFld Reg.LEG_SYNC_STATUS 31 24
        (s.fld Reg.LEG_SYNC_STATUS 31 24 + 1)
    if legal then s.setFld Reg.LEG_PERIOD 13 0 period else s
  else { s with leg := { s.leg with carried := some (milestone, if legal then some period else none) } }

/-- TIMING_MESSAGE on a port (R35, R38, R374): taken on tree 0's in-port, forwarded on its out ports with this module's delay and
residence, and adopted by a follower. `offset` is the module's offset from the source as the message shows it, in ns, and `residence` the
time until it is forwarded, in 1/16 ns. -/
def timingMessage (s : State) (port hops source period milestone correction : Nat) (offset : Int) (residence : Nat) : State :=
  if s.treeIn 0 ≠ some port then s
  else
    let delay := s.fld (Reg.CAUSEWAY_PORT_DELAY port) 15 0 * 4
    let s := ((s.treeOut 0).filter s.portReady).foldl (fun s p =>
      s.sendTiming p (timingPayload 0 (hops + 1) source period milestone (correction + delay + residence))) s
    if !s.follows then s
    else
      let s := ({ s with leg := { s.leg with messageSeen := true } } : State).adopt milestone period
      if s.fld Reg.LEG_SYNC 1 0 = 3 then s.reference offset else s

/-- MILE_IN_EDGE (R35, R37, R514): a rising edge, `raw` ns before the module's own instant, is taken with the fixed input delay of 4 ns
subtracted; the last two edges give the leg its length, and without timing messages the period. Ignored but in mode 0b10. -/
def mileInEdge (s : State) (raw : Int) : State :=
  if s.fld Reg.LEG_SYNC 1 0 ≠ 2 then s
  else
    let gap := s.leg.lastEdge.map (fun t => s.now - t)
    let s := { s with leg := { s.leg with lastEdge := some s.now, edgeGap := gap, edgeLen := gap } }
    let s := match gap with
      | some g => if s.leg.messageSeen then s else s.setFld Reg.LEG_PERIOD 13 0 (max 125 (min 16000 ((g + 50) / 100)))
      | none => s
    s.reference (raw + 4)

/-- HOLDOVER_ENTRY (R40): a follower that has missed three references in a row. -/
def holdoverEntry (s : State) : State :=
  if !s.follows ∨ s.leg.missed < 3 ∨ s.fld Reg.LEG_SYNC_STATUS 1 1 = 1 then s
  else
    let s := (s.setFld Reg.LEG_SYNC_STATUS 1 1 1).setFld Reg.LEG_SYNC_STATUS 0 0 0
    let s := { s with leg := { s.leg with phase := 0 } }
    s.event 0x0030 2 5 none [s.rd Reg.LEG_SYNC_STATUS]

/-- The synchronisation mode is set (R36, Table 2.6). -/
def setSyncMode (s : State) (m : Nat) : State :=
  let s := s.setFld Reg.LEG_SYNC 1 0 m
  let s := { s with leg := { s.leg with messageSeen := false, missed := 0, phase := 0, lastEdge := none, edgeGap := none, edgeLen := none, carried := none } }
  ((s.setFld Reg.LEG_SYNC_STATUS 0 0 (b2n (m == 1))).setFld Reg.LEG_SYNC_STATUS 1 1 0).setFld Reg.LEG_SYNC_STATUS 23 8 0

end State

end Sys2Proof.Machine
end

