-- ==== Sys2Proof/Machine/Broadcast.lean ====
section
/-!
DEFINITION. Weight broadcast over a tree (R338 to R340, R371, R372), as reader and as receiver.
-/
namespace Sys2Proof.Machine

namespace State

/-- The broadcast of an object version on a tree. -/
def broadcast? (s : State) (tree obj ver : Nat) : Option Broadcast :=
  s.cause.broadcasts.find? (fun b => b.tree == tree && b.object == obj && b.version == ver)

/-- Changes the broadcast of an object version on a tree. -/
def updBroadcast (s : State) (tree obj ver : Nat) (f : Broadcast → Broadcast) : State :=
  { s with cause := { s.cause with
    broadcasts := s.cause.broadcasts.map (fun b => if b.tree = tree ∧ b.object = obj ∧ b.version = ver then f b else b) } }

/-- Next seq of a tree. -/
def treeSeqOf (s : State) (t : Nat) : Nat := Tab.get 0 s.cause.treeSeq t
/-- Takes the next seq of a tree. -/
def treeStep (s : State) (t : Nat) : State :=
  { s with cause := { s.cause with treeSeq := Tab.put 0 s.cause.treeSeq t ((s.treeSeqOf t + 1) % 2 ^ 32) } }

/-- The module can read a granule of a published object from a replica or the home it holds, with no unreadable unit. -/
def granuleReadable (s : State) (h g : Nat) : Bool :=
  match s.alloc? h with
  | none => false
  | some a => match a.published with
    | none => false
    | some (o, v) => (s.replicaOf o v g).isSome || (a.homeHere g && !s.readBad a (g * 65536) 65536)

/-- The 16 BCAST messages of one granule, on a tree or to one node (Table 14.10). The tier and the rehoming flag, which a receiver needs,
travel with it. -/
def sendGranule (s : State) (b : Broadcast) (h g : Nat) (alone : Option Nat) : State :=
  (List.range 16).foldl (fun s k =>
    let t : Txn := { node := alone.getD (4096 + b.tree), part := some b.part, flow := b.tree, op := 0x10
                     args := [b.tree, b.object, b.version, g, k, b.tier, b2n b.rehoming]
                     data := s.peek h (g * 65536 + k * 4096) 4096 }
    match alone with
    | some _ => s.send t
    | none => (s.sendTree b.tree (s.treeSeqOf b.tree) ((s.treeOut b.tree).filter s.portReady) t).treeStep b.tree) s

/-- WEIGHT_BROADCAST_START: CP2 of the reader broadcasts a range of whole granules of a published object over a tree of which the module
is the root; it reads each granule once and the tree carries it (R338, R372). -/
def broadcastStart (s : State) (tree obj ver first count part tier : Nat) (rehoming : Bool) : State :=
  match s.objectHandle obj ver with
  | none => s
  | some h =>
    if s.fld (Reg.FW_STATUS 2) 3 0 ≠ 1 ∨ !bit (s.ent 6 (4096 + tree) 0 1) 0 ∨ bits (s.ent 6 (4096 + tree) 4 2) 11 0 ≠ s.node ∨
        tree = 0 ∨ count = 0 ∨ (tier ≠ 1 ∧ tier ≠ 2) ∨ (s.broadcast? tree obj ver).isSome then s
    else
      let b : Broadcast := { tree, object := obj, version := ver, first, count, part, tier, rehoming, reader := true, sent := first + count }
      let s : State := { s with cause := { s.cause with broadcasts := s.cause.broadcasts ++ [b] } }
      let s := ((List.range count).map (· + first)).foldl (fun s g => if s.granuleReadable h g then s.sendGranule b h g none else s) s
      (s.sendTree tree (s.treeSeqOf tree) ((s.treeOut tree).filter s.portReady)
        { node := 4096 + tree, part := some part, flow := tree, op := 0x11
          args := [tree, obj, ver, count, first, tier, b2n rehoming] }).treeStep tree

/-- Entries of granules `lo` to `hi` - 1 that name the home of an object on another node; where it lies there, no message says (R223). -/
def nameHome (s : State) (a : Alloc) (node lo hi : Nat) : Alloc :=
  (List.range' lo (hi - lo)).foldl (fun a g => a.setEntry g { state := 1, tier := 3, node := node, location := s.draw.toNat % 2 ^ 36 }) a

/-- The local handle through which an object homed elsewhere is reached, its entries naming the remote home, made if the module has none and the
directory has room (R210, R223). -/
def objectLocal (s : State) (obj ver part root g : Nat) : State × Option Nat :=
  match s.objectHandle obj ver with
  | some h => match s.alloc? h with
    | none => (s, none)
    | some a =>
      if g < a.granules then (s, some h)
      else if a.homeNode.isNone ∨ 134217728 < s.dirUsed + (g + 1 - a.granules) then (s, none)
      else (s.drawn.updAlloc h (fun a => { (s.nameHome a root a.granules (g + 1)) with granules := g + 1 }), some h)
  | none => match s.pickHandle with
    | none => (s, none)
    | some h =>
      if 134217728 < s.dirUsed + (g + 1) then (s, none)
      else
        let a : Alloc := { part, flags := 0x4C, granules := g + 1, published := some (obj, ver), homeNode := some root, internal := true }
        ({ (s.drawn 2) with tier := { s.tier with allocs := Tab.set s.tier.allocs h (s.drawn.nameHome a root 0 (g + 1)) } }, some h)

/-- BCAST at a receiver: forwarded as it arrives where the tree brought it; the block is kept, and a whole granule is registered as a
replica charged to the partition's quota (R338, R371). `alone` is a resent one. -/
def bcast (s : State) (root part tree obj ver g k tier : Nat) (rehoming : Bool) (data : List Byte) : State :=
  if (tier ≠ 1 ∧ tier ≠ 2) ∨ 16 ≤ k then s
  else
    let all := s.tier.replicas.filter (fun r => r.object == obj && r.version == ver && r.granule == g)
    let place := if tier = 1 then s.largePlace else s.storePlace
    match (if all.any (fun r => r.tier == tier) || decide (64 ≤ all.length) || decide (134217728 ≤ s.dirUsed) ||
        (tier == 1 && !s.quotaRoom part) || (tier == 2 && decide (s.storeUsable ≤ s.storeReserved)) then none else place),
      s.objectLocal obj ver part root g with
    | none, _ => s
    | some _, (s, none) => s
    | some loc, (s, some h) =>
      let s : State := if (s.broadcast? tree obj ver).isSome then s else { s with cause := { s.cause with
        broadcasts := s.cause.broadcasts ++ [{ tree, object := obj, version := ver, first := g, part, tier, rehoming }] } }
      let s := s.updAlloc h (fun a => { a with data := a.data.write (g * 65536 + k * 4096) (sliceBytes data 0 4096) })
      let s := s.updBroadcast tree obj ver (fun b => { b with blocks := if b.blocks.contains (g * 16 + k) then b.blocks else b.blocks ++ [g * 16 + k] })
      let got := ((s.broadcast? tree obj ver).map (·.blocks)).getD []
      if (List.range 16).all (fun i => got.contains (g * 16 + i)) then
        let r : Replica := { object := obj, version := ver, granule := g, part, tier, location := loc }
        let s : State := { s.drawn with tier := { s.tier with replicas := s.tier.replicas ++ [r] } }
        s.updBroadcast tree obj ver (fun b => { b with
          blocks := b.blocks.filter (fun x => x / 16 != g), received := b.received ++ [g] })
      else s

/-- BCAST_END at a receiver: a whole object's digest is checked; a mismatch releases its replicas and raises TIER_OBJECT_DAMAGED for this
copy. The first receiver of a rehoming broadcast submits the seams that make its replicas the home (R339, R340). `digestBad` and `first_`
are what the receiver finds: the digest it compares with and its place in the tree's order are not part of its state. -/
def bcastEnd (s : State) (root tree obj ver count first : Nat) (rehoming digestBad first_ : Bool) : State :=
  match s.broadcast? tree obj ver with
  | none => s
  | some b =>
    let lacks := ((List.range count).map (· + first)).filter (fun g => !b.received.contains g)
    if lacks ≠ [] then
      lacks.foldl (fun s g => s.send { node := root, part := some b.part, flow := tree, op := 0x12, args := [tree, obj, ver, g] }) s
    else
      let s : State := { s with cause := { s.cause with broadcasts := s.cause.broadcasts.erase b } }
      match s.objectHandle obj ver with
      | none => s
      | some h =>
        let whole : Bool := first == 0 && count == ((s.alloc? h).map (·.granules)).getD 0
        if whole && digestBad then
          let s := (s.tier.replicas.filter (fun r =>
            r.object == obj && r.version == ver && b.received.contains r.granule && r.tier == b.tier)).foldl (fun s r => s.releaseReplica r) s
          s.event 0x0022 2 2 none [obj, ver]
        else if rehoming && first_ then
          (runs64 (count / 64 + 1) ((List.range count).map (· + first))).foldl (fun s gs =>
            s.openSeam { submitter := 1, actions := gs.map (fun g =>
              let l := ((s.tier.replicas.find? (fun r => r.object == obj && r.version == ver && r.granule == g && !r.making)).map (·.location)).getD 0
              (BitVec.ofNat 64 (3 * 2 ^ 60 + h * 2 ^ 36 + g * 2 ^ 12 + b.tier * 2 ^ 10), BitVec.ofNat 64 (s.node * 2 ^ 52 + l))) }) s
        else s

/-- BCAST_RESUME at the root: the granule goes to the asker alone (R371). -/
def bcastResume (s : State) (node tree obj ver g : Nat) : State :=
  match s.broadcast? tree obj ver, s.objectHandle obj ver with
  | some b, some h => if b.reader && s.granuleReadable h g then s.sendGranule b h g (some node) else s
  | _, _ => s

/-- A gap in a tree's seq asks the root for the granules it touches (R371). -/
def treeGap (s : State) (tree seq : Nat) (t : Txn) : State :=
  let next := Tab.get seq s.cause.treeNext tree
  let lost := (seq + 2 ^ 32 - next) % 2 ^ 32
  let at_ := if t.op = 0x10 then t.args.getD 3 0 * 16 + t.args.getD 4 0 else (t.args.getD 4 0 + t.args.getD 3 0) * 16
  let gs := if lost = 0 ∨ 2 ^ 31 ≤ lost then [] else ((List.range (min lost at_)).map (fun i => (at_ - 1 - i) / 16)).eraseDups
  let s := gs.foldl (fun s g => s.send
    { node := bits (s.ent 6 (4096 + tree) 4 2) 11 0, part := t.part, flow := tree, op := 0x12, args := [tree, t.args.getD 1 0, t.args.getD 2 0, g] }) s
  { s with cause := { s.cause with treeNext := Tab.set s.cause.treeNext tree ((seq + 1) % 2 ^ 32) } }

/-- A broadcast message arriving by a port: dropped off its tree's in-port, forwarded on the out ports; the answer says whether the entry
delivers it here (R371). -/
def treeArrives (s : State) (port tree seq : Nat) (t : Txn) : State × Bool :=
  if s.treeIn tree ≠ some port then (s.bump Reg.CAUSEWAY_NOROUTE, false)
  else
    let s := s.sendTree tree seq ((s.treeOut tree).filter s.portReady) t
    if bit (s.ent 6 (4096 + tree) 0 1) 1 then (s.treeGap tree seq t, true) else (s, false)

/-- The loss of a node with broadcasts: a receiver keeps the granules it has completed; what it has of others goes with the reader
(R339). -/
def broadcastsNodeLost (s : State) (n : Nat) : State :=
  let gone (b : Broadcast) : Bool := !b.reader && bits (s.ent 6 (4096 + b.tree) 4 2) 11 0 == n
  { s with cause := { s.cause with broadcasts := s.cause.broadcasts.map (fun b => if gone b then { b with blocks := [] } else b) } }

end State

end Sys2Proof.Machine
end

