-- ==== Sys2Proof/Machine/TierCmds.lean ====
section
/-!
DEFINITION. What the tier block does when its work comes to an end: frees and publications (R220, R221), patrol scrub (R226), lending
(R232, R233), the wash (R453).
-/
namespace Sys2Proof.Machine

namespace State

/-- A live seam names an allocation (R220). -/
def seamNames (s : State) (h : Nat) : Bool :=
  s.seams.recs.any (fun x => x.2.actions.any (fun a => let w := Act.of a; w.kind != 4 && w.kind != 7 && w.kind != 10 && w.kind != 11 && w.handle == h))

/-- ALLOCATION_FREE_COMMIT (R220): a free asked for commits once no far request to the allocation is outstanding and no open seam
names it, nor a live request the patch version it holds (R302); the room it makes goes to what waits for a home. -/
def freeCommit (s : State) (h : Nat) : State :=
  match s.alloc? h with
  | none => s
  | some a =>
    let patch := s.serving.reqs.any (fun r => r.patchValid && (r.patchHandle == h || a.published == some (r.patchObject, r.patchVersion)))
    let used := patch || s.cores.any (fun x => x.2.descs.any (fun d => d.state != 0 && (d.kind == 1 || d.kind == 4) && d.handle == h))
    if a.freeing.isNone || used || s.seamNames h then s
    else
      let (s, ok) := s.ownSeam
      if ok then (s.commitFree h).homeWaiting else s

/-- A publication refused: the allocation is writable again, and the host is answered; pages of a retired sequence are freed. -/
def refusePublish (s : State) (h : Nat) (u : Publication) (status : Nat) : State :=
  let s := s.updAlloc h (fun a => { a with publishing := none })
  match u.host with
  | some (p, q) => s.reply p 0x0022 q status 0
  | none =>
    ({ s with serving := { s.serving with prefixPending := s.serving.prefixPending.filter (fun x => x.handle != h) } }).requestFree h

/-- PUBLISH_DIGEST_DONE (R221): no earlier write is outstanding and the digest is known; the serving block's own publications name
the digest the tier block computes. It is a seam that commits at once (R27); without a free record it is tried again. -/
def publishDone (s : State) (h : Nat) : State :=
  match s.alloc? h with
  | none => s
  | some a =>
    match a.publishing with
    | none => s
    | some u =>
      let writing := s.cores.any (fun x => x.2.descs.any (fun d => d.state != 0 && d.write && d.kind == 1 && d.handle == h))
      let unread := s.readBad a 0 a.size || a.meetsLost 0 a.size
      if writing then s
      else if (match Tab.find? s.tier.lastVersion u.object with | some l => decide (u.version ≤ l) | none => false) then
        s.refusePublish h u 0x15
      else if unread || (u.host.isSome && !digestOk a u.digest) then s.refusePublish h u 0x14
      else
        let (s, ok) := s.ownSeam
        if ok = false then s
        else
        let s := s.updAlloc h (fun a => { a with publishing := none, published := some (u.object, u.version) })
        let s := { s with tier := { s.tier with lastVersion := Tab.set s.tier.lastVersion u.object u.version } }
        match u.host with
        | some (p, q) => s.reply p 0x0022 q 0 0
        | none => s

/-- What lies at a sector of the large tier: the byte of an allocation the sector's burst `b` begins at, or a replica (R224, R228). -/
def atSector (s : State) (sec b : Nat) : Option (Sum (Nat × Nat) Replica) :=
  let found := s.tier.allocs.findSome? (fun (h, a) => a.dir.findSome? (fun (g, e) =>
    if e.tier ≠ 1 ∨ e.housed = false ∨ sec < e.location ∨ e.location + e.sectors ≤ sec then none
    else
      let k := sec - e.location
      if e.compressed then
        ((List.range 16).find? (fun i => decide (e.blockStart i ≤ k) && decide (k < e.blockStart (i + 1)))).map
          (fun i => (h, g * 65536 + i * 4096))
      else some (h, g * 65536 + k * 512 + b % 16 * 32)))
  match found with
  | some x => some (.inl x)
  | none => (s.tier.replicas.find? (fun r => r.tier == 1 && decide (r.location ≤ sec) && decide (sec < r.location + 128))).map .inr

/-- A burst of a sector of the large tier is found unreadable (R210, R226, R234): it is poisoned and handled by what it held, of the directory
by rewriting the bad copy. -/
def burstLost (s : State) (sec b : Nat) : State :=
  match s.atSector sec b with
  | some (.inl (h, off)) => s.unitLost h off
  | some (.inr r) => s.replicaLost r
  | none =>
    let s := s.countUe
    if s.largeUsable * 128 ≤ sec then { s.setFld Reg.TIER_STATUS 0 0 1 with tier := { s.tier with dirRewrite := true } }
    else
      let a := sec * 16 + b % 16
      { s with tier := { s.tier with poison := if s.tier.poison.contains a then s.tier.poison else s.tier.poison ++ [a] } }

/-- LARGE_TIER_SCRUB (R226): the next sector is read; corrected errors are written back and counted, an unreadable burst is poisoned
and handled by what it held, and no task is aborted. -/
def scrubSector (s : State) (ce : Nat) (ue : Option Nat) : State :=
  if s.fld Reg.TIER_SCRUB_CTRL 8 8 = 0 then s
  else
    let sec := s.tier.scrubNext
    let s := { s with tier := { s.tier with scrubNext := (sec + 1) % (s.largeGranules * 128) } }
    let s := (List.range (min ce 16)).foldl (fun s _ => s.countCeAt sec) s
    match ue with
    | none => s
    | some b => s.burstLost sec b

/-- A lender has a cause to recall lent granules (R233): its free granules fall below the low-water mark, lending is disabled, or its own
allocations need the space. -/
def recallCause (s : State) : Bool :=
  decide (s.largeFree < s.fld Reg.TIER_LEND_CTRL 23 16 * 65536) || s.fld Reg.TIER_LEND_CTRL 31 31 == 0 || s.largeFree == 0 ||
    !s.tier.unhomed.isEmpty

/-- The lender's side of a recall: granules lent to a node are recalled, and those it has given back by now, which no rule picks out, are washed
and free. -/
def recallLent (s : State) (n recalled returned : Nat) : State :=
  let mine := Tab.keys (s.tier.lent.filter (fun x => x.2 == n))
  let earlier := Tab.get 0 s.tier.recalls n
  let want := min mine.length (if s.recallCause then max recalled earlier else earlier)
  let back := (rotate s.draw.toNat mine).take (min returned want)
  ({ s.drawn with tier := { s.tier with
      lent := s.tier.lent.filter (fun x => !back.contains x.1)
      recalls := Tab.put 0 s.tier.recalls n (want - back.length) } } : State).washGranules back

/-- Granules homed in space that their lender recalls. -/
def calledHomes (s : State) : List (Nat × Nat) :=
  s.tier.allocs.flatMap (fun (h, a) => if a.published.isSome then [] else
    (a.dir.filter (fun x => x.2.tier == 3 && x.2.state == 1 && s.tier.called.contains (x.2.node, x.2.location))).map (fun x => (h, x.1)))

/-- Moves a recalled granule to the module's own large tier where it has room within quota, and otherwise to the store, by a seam of the tier
block's (R233). -/
def takeBackLent (s : State) (h g : Nat) : State :=
  match s.alloc? h with
  | none => s
  | some a =>
    match (match (if s.largeAllowed a then s.largePlace else none) with
      | some l => some (1, l)
      | none => if tierAllowed a.flags 2 then s.storePlace.map (fun l => (2, l)) else none) with
    | none => s
    | some (t, l) =>
      let w : Nat := 1 * 2 ^ 60 + h * 2 ^ 36 + g * 2 ^ 12 + t * 2 ^ 10
      s.drawn.openSeam { submitter := 1, scope := some (a.part, 0), actions := [(BitVec.ofNat 64 w, BitVec.ofNat 64 l)] }

/-- The borrower's side: granules held from a node are called back; those not in use go at once, and the homes in the others move. -/
def recallBorrowed (s : State) (n called : Nat) : State :=
  let held := s.tier.borrowed.filter (fun b => b.1 == n && !s.tier.called.contains b)
  let back := (rotate s.draw.toNat held).take called
  let free := s.lentFree
  let s : State := { s.drawn with tier := { s.tier with
    borrowed := s.tier.borrowed.filter (fun b => !(back.contains b && free.contains b))
    called := s.tier.called ++ back.filter (fun b => !free.contains b) } }
  s.calledHomes.foldl (fun s x => s.takeBackLent x.1 x.2) s

/-- LEND_RECALL (R233), with one other node: `recalled` of the granules lent to it are recalled and `returned` of them have come back; and
`called` of those held from it are recalled by it. -/
def lendRecall (s : State) (n recalled returned called : Nat) : State := ((s.recallLent n recalled returned).recallBorrowed n called).homeWaiting

/-- Clearing TIER_LEND_CTRL.enable recalls every lent granule (R233). -/
def lendingOff (s : State) : State :=
  if s.fld Reg.TIER_LEND_CTRL 31 31 = 1 then s
  else { s with tier := { s.tier with recalls := s.tier.lent.foldl (fun t x => Tab.put 0 t x.2
      ((s.tier.lent.filter (fun (y : Nat × Nat) => y.2 == x.2)).length)) s.tier.recalls } }

/-- WASH_REGION_DONE (R453): the next 16,384 granules of the large tier are washed, and what waited for washed space is taken up (R236). -/
def washRegion (s : State) : State :=
  if s.phase < 2 then s
  else
    let n := min s.largeGranules (s.tier.washed + 16384)
    let s := { s with tier := { s.tier with washed := n } }
    let s := (s.setFld Reg.TIER_STATUS 30 24 (n * 100 / s.largeGranules)).setFld Reg.TIER_STATUS 31 31 (b2n (n == s.largeGranules))
    s.homeWaiting.takeUnwashed.retryPuts

/-- DIRECTORY_COPY_REWRITTEN (R210). -/
def dirRewritten (s : State) : State :=
  if s.tier.dirRewrite then { s.setFld Reg.TIER_STATUS 0 0 0 with tier := { s.tier with dirRewrite := false } } else s

end State

end Sys2Proof.Machine
end

