-- ==== Sys2Proof/Machine/SeamCmds.lean ====
section
/-!
DEFINITION. The seam block's timers, and the two-phase exchange across modules (R252, R257 to R259).
-/
namespace Sys2Proof.Machine

/-- An action of a submission as a command spells it: word 0 and word 1. -/
abbrev ActionWords := BitVec 64 × BitVec 64

namespace State

/-- SEAM_SUBMIT (R238): the serving block, the tier block or firmware opens a seam; tiles and hosts open theirs through a port or a
message. -/
def submit (s : State) (submitter : Nat) (scope : Option (Nat × Nat)) (owner : Option Nat) (reqId timing : Nat) (actions : List ActionWords) :
    State :=
  if 5 < submitter then s
  else s.openSeam { submitter := submitter, scope := scope, owner := owner, reqId := reqId, timing := timing, actions := actions }

/-- SEAM_TIMEOUT (R252): a timing-0 seam of this module alone, and no press, has not closed in time; one that waits for washed space is not
refused for that (R236, log entry 137). -/
def seamTimeout (s : State) (k : Nat) : State :=
  match s.seam? k with
  | none => s
  | some x =>
    if x.timing = 0 ∧ x.state ≤ 3 ∧ x.submitter ≠ 8 ∧ s.seamNodes x.actions = [] ∧ x.actions.all (fun a => Seam.kind a != 6) = true ∧
        s.awaitsWash x = false ∧
        x.openedTime + 100 * s.fld Reg.SEAM_CTRL 15 0 ≤ s.now then s.unpickSeam k 0x19
    else s

/-! A participant's part. -/

/-- Staged data of a part's WRITE_ENTRY actions, cut from what SEAM_PREPARE carries. -/
def cutStaged : List Action → List Byte → List (List Byte)
  | [], _ => []
  | a :: t, b => if Seam.kind a = 2 then let n := (Act.of a).stagedLen; b.take n :: cutStaged t (b.drop n) else [] :: cutStaged t b

/-- SEAM_PREPARE (Table 9.6, steps 1 to 3): the part opens and is prepared, or is refused for want of a record. A second one for a
part held already changes nothing. -/
def seamPrepare (s : State) (node id scope : Nat) (actions : List Action) (staged : List Byte) : State :=
  if (s.partOfName node id).isSome then s
  else match s.freeRecord with
    | none => (s.bump Reg.SEAM_FULL_COUNT).sendSystem node opRefuse [node, id, 0x15]
    | some k =>
      let x : Seam :=
        { submitter := 8, coordNode := node, coordSeam := id, actions := actions, staged := cutStaged actions staged
          scope := if bit scope 7 then some (bits scope 4 0, bits scope 6 5) else none, results := actions.map (fun _ => 0) }
      let s := s.openRecord k x
      if actions = [] ∨ actions.any actionBad = true then s.endPart k smBadAction opRefuse else s.localPrepare k

/-- SEAM_COMMIT (Table 9.6, steps 5 and 6): the part applies its actions and answers once they have taken effect. A part the module
does not hold is answered already-complete. -/
def seamCommit (s : State) (node id : Nat) : State :=
  match s.partOfName node id with
  | none => s.sendSystem node opDone [node, id, 2]
  | some k =>
    match s.seam? k with
    | none => s
    | some x => if x.state ≠ 3 then s else (s.updSeam k (fun x => { x with decided := true })).commitPart k

/-- SEAM_UNPICK (Table 9.6, step 6): the part is released and ends with the code carried. -/
def seamUnpick (s : State) (node id code : Nat) : State :=
  match s.partOfName node id with
  | none => s.sendSystem node opDone [node, id, code]
  | some k =>
    match s.seam? k with
    | none => s
    | some x => if x.state ≤ 3 then s.endPart k code opDone else s

/-- SEAM_QUERY_TIMER (R258): a ready part without a decision for 500 µs asks again. -/
def queryTimer (s : State) (k : Nat) : State :=
  match s.seam? k with
  | none => s
  | some x =>
    if x.submitter = 8 ∧ x.state = 3 ∧ x.askedAt + 50000 ≤ s.now ∧ s.nodeLost x.coordNode = false then
      (s.updSeam k (fun x => { x with askedAt := s.now })).sendSystem x.coordNode opQuery [x.coordNode, x.coordSeam]
    else s

/-! The coordinator. -/

/-- Moves a participant of a record to a phase. -/
def setPhase (s : State) (k node phase : Nat) : State :=
  s.updSeam k (fun x => { x with participants := x.participants.map (fun p => if p.node = node then { p with phase := phase } else p) })

/-- Sets the result words of the actions that name a participant (R261). -/
def setResults (s : State) (k node status : Nat) : State :=
  s.updSeam k (fun x => { x with results := (x.actions.zip x.results).map (fun (a, r) =>
    if s.actionNode a = some node then status else r) })

/-- What follows for the coordinator's record when a participant has ended: an applying seam may be final, a final one free. -/
def afterDone (s : State) (k : Nat) : State :=
  match s.seam? k with
  | none => s
  | some x =>
    if x.state = 5 then (if x.participants.all (fun p => decide (3 ≤ p.phase)) then s.freeSeam k else s) else s.finishSeam k

/-- The record of a name with a participant. -/
def coordRecord (s : State) (node id : Nat) : Option Nat :=
  match s.recordOfId id with
  | none => none
  | some k => match s.seam? k with
    | none => none
    | some x => if x.submitter ≠ 8 ∧ x.participants.any (fun p => p.node == node) = true then some k else none

/-- SEAM_READY: a participant is ready, and the seam may commit (R252). -/
def seamReady (s : State) (node id : Nat) : State :=
  match s.coordRecord node id with
  | none => s
  | some k => match s.seam? k with
    | none => s
    | some x => if x.state ≤ 3 then (if x.participants.any (fun p => p.node == node && p.phase == 0) then (s.setPhase k node 1).tryCommit k else s) else s

/-- SEAM_REFUSE: the seam is unpicked with SEAM_PEER_REFUSED, and the refusing participant holds nothing more. -/
def seamRefuse (s : State) (node id code : Nat) : State :=
  match s.coordRecord node id with
  | none => s
  | some k =>
    let s := (s.setPhase k node 3).setResults k node code
    match s.seam? k with
    | none => s
    | some x => if x.state ≤ 3 then s.endSeam k 0x1A else s.afterDone k

/-- SEAM_DONE: after the last one the record is free (Table 9.6, step 7). -/
def seamDone (s : State) (node id status : Nat) : State :=
  match s.coordRecord node id with
  | none => s
  | some k => match s.seam? k with
    | none => s
    | some x => if x.state ≤ 3 then s else ((s.setPhase k node 3).setResults k node status).afterDone k

/-- SEAM_QUERY (R258): answered from the record, or for a seam not held as unpicked. -/
def seamQuery (s : State) (node id : Nat) : State :=
  match s.recordOfId id with
  | none => s.sendSystem node opUnpick [s.node, id, 0x10]
  | some k => match s.seam? k with
    | none => s
    | some x =>
      if x.submitter = 8 then s.sendSystem node opUnpick [s.node, id, 0x10]
      else if x.state ≤ 3 then s
      else if x.status = 1 then s.sendSystem node opCommit [s.node, id, 1]
      else s.sendSystem node opUnpick [s.node, id, x.status]

/-- SEAM_PEER_TIMEOUT (Table 9.6, step 4). -/
def peerTimeout (s : State) (k : Nat) : State :=
  match s.seam? k with
  | none => s
  | some x =>
    if x.submitter ≠ 8 ∧ x.state ≤ 3 ∧ s.seamNodes x.actions ≠ [] ∧
        (x.participants = [] ∨ x.participants.any (fun p => p.phase == 0) = true) ∧ x.openedTime + 20000 ≤ s.now then
      s.endSeam k 0x1B
    else s

/-- An action moves a granule that a node has lent: the loss of the node unpicks the move (R214, R235). -/
def movesFrom (s : State) (n : Nat) (a : Action) : Bool :=
  let w := Act.of a
  w.kind == 1 && (match s.alloc? w.handle with
    | some l => let e := l.entry w.granule; e.tier == 3 && e.housed && e.node == n
    | none => false)

/-- The loss of a node settles the seams it has a part in, and the moves of granules it has lent (R214, R259). -/
def seamsNodeLost (s : State) (n : Nat) : State :=
  s.seams.recs.foldl (fun s (k, _) =>
    match s.seam? k with
    | none => s
    | some x =>
      if x.submitter = 8 then
        if x.coordNode = n ∧ x.state ≤ 3 then s.endPart k 0x13 0 else s
      else if x.state ≤ 3 ∧ ((s.seamNodes x.actions).contains n = true ∨ x.actions.any (s.movesFrom n) = true) then (s.setPhase k n 3).endSeam k 0x13
      else if x.participants.any (fun p => p.node == n && decide (p.phase < 3)) then (s.setPhase k n 3).afterDone k
      else s) s

end State

end Sys2Proof.Machine
end

