-- ==== Sys2Proof/Machine/Causeway.lean ====
section
/-!
DEFINITION. Causeway (14): far memory served here, transactions and the transport, lost nodes, ports and their training, flits and link
retry, and delays.
-/
namespace Sys2Proof.Machine

namespace State

/-! Memory served to other nodes (R369). -/

/-- A READ or WRITE of a handle is refused: status, 0 if it is served. -/
def handleRefusal (s : State) (part h off n : Nat) (write : Bool) : Nat :=
  match s.alloc? h with
  | none => 1
  | some a =>
    if a.part ≠ part then 4
    else if a.size < off + n then 3
    else if write && (a.published.isSome || a.publishing.isSome) then 2
    else if a.meetsLost off n || (if write then s.writeBad a off n else s.readBad a off n) then 1 else 0

/-- The published object's granule that a location holds: handle and granule. -/
def objectAt (s : State) (location object : Nat) : Option (Nat × Nat) :=
  s.tier.allocs.findSome? (fun (h, a) => match a.published with
    | none => none
    | some (o, v) =>
      if o ≠ object then none
      else ((List.find? (fun (e : Nat × DirEntry) => e.2.housed && e.2.tier != 3 && e.2.location == location) a.dir).map
        (fun e => (h, e.1))).or
        ((s.tier.replicas.find? (fun r => r.object == o && r.version == v && r.tier != 3 && r.location == location && !r.making && !r.going)).map
          (fun r => (h, r.granule))))

/-- Bytes a far READ gets, or the status of its REFUSE. -/
def farRead (s : State) (node part : Nat) (a : FarAddr) (n : Nat) : Sum Nat (List Byte) :=
  match a with
  | .handle h off => let st := s.handleRefusal part h off n false
                     if st = 0 then .inr (s.peek h off n) else .inl st
  | .place l o off =>
    if 65536 < off + n then .inl 3
    else if o = 0 then
      if Tab.find? s.tier.lent (l / 128) = some node ∧ s.rawBad l off n = false then .inr (s.tier.raw.bytes (l / 128 * 65536 + off) n) else .inl 1
    else match s.objectAt l o with
      | some (h, g) => if s.granuleReadable h g then .inr (s.peek h (g * 65536 + off) n) else .inl 1
      | none => .inl 1
  | .object o v off =>
    match s.objectHandle o v with
    | none => .inl 1
    | some h => if s.granuleReadable h (off / 65536) then .inr (s.peek h off n) else .inl 1

/-- A transaction's answer to its source. -/
def answer (s : State) (node part txn op status : Nat) (data : List Byte := []) : State :=
  s.send { node, part := some part, flow := txn, op, status, txn, data }

/-- A far request from another node resolves to a granule here: its use count rises (R219). -/
def countServed (s : State) (part : Nat) (a : FarAddr) : State :=
  match a with
  | .handle h off => s.countUse none part h (off / 65536)
  | .place l o _ => if o = 0 then s else match s.objectAt l o with
    | some (h, g) => s.countUse none part h g
    | none => s
  | .object o v off => match s.objectHandle o v with
    | some h => s.countUse none part h (off / 65536)
    | none => s

/-- READ: served with READ_DATA or refused (R369). -/
def readServe (s : State) (node part txn : Nat) (a : FarAddr) (n : Nat) : State :=
  match s.farRead node part a n with
  | .inr b => (s.countServed part a).answer node part txn 0x02 0 b
  | .inl st => s.answer node part txn 0x05 st

/-- WRITE: served with WRITE_ACK or refused (R369). -/
def writeServe (s : State) (node part txn : Nat) (a : FarAddr) (data : List Byte) : State :=
  match a with
  | .handle h off =>
    let st := s.handleRefusal part h off data.length true
    if st = 0 then ((s.writeAlloc h off data).countServed part a).answer node part txn 0x04 0 else s.answer node part txn 0x05 st
  | .place l o off =>
    if 65536 < off + data.length then s.answer node part txn 0x05 3
    else if o ≠ 0 then s.answer node part txn 0x05 (if (s.objectAt l o).isSome then 2 else 1)
    else if Tab.find? s.tier.lent (l / 128) = some node ∧ s.rawMerges l off data.length = false then
      (s.rawWrite l off data).answer node part txn 0x04 0
    else s.answer node part txn 0x05 1
  | .object _ _ _ => s.answer node part txn 0x05 2

/-- MOVE_DATA: a block of a granule that a seam of the sender moves here is copied to its place (R213, R232). -/
def moveBlock (s : State) (node part txn h g b : Nat) (data : List Byte) : State :=
  let place := s.seams.recs.findSome? (fun (_, x) =>
    if x.submitter = 8 ∧ x.coordNode = node ∧ x.state ≤ 3 then
      (x.actions.map Act.of).findSome? (fun w => if w.kind = 1 ∧ w.handle = h ∧ w.granule = g then some w.location else none)
    else none)
  match place with
  | none => s.answer node part txn 0x05 1
  | some l =>
    if 16 ≤ b then s.answer node part txn 0x05 3
    else (s.rawWrite (l / 128 * 128) (b * 4096) (sliceBytes data 0 4096)).answer node part txn 0x07 0

/-- MOVE_ACK: a block has been copied (R213). -/
def moveAck (s : State) (txn : Nat) : State :=
  { s with tier := { s.tier with moveAcks := s.tier.moveAcks.filter (fun m => m.txn != txn) } }

/-! Lost nodes (R380 to R384). -/

/-- Tells the far node of every ready port but one. -/
def flood (s : State) (op : Nat) (args : List Nat) (but : Option Nat) : State :=
  (s.readyPorts.filter (fun p => some p != but)).foldl (fun s p =>
    s.sendVia (some p) { node := s.fld (Reg.CAUSEWAY_PORT_STATUS p) 27 16, part := none, op, args }) s

/-- Table 14.13 for a node now held as lost. -/
def loseNode (s : State) (n inc : Nat) : State :=
  let s : State := { s with cause := { s.cause with
    lost := Tab.set s.cause.lost n inc
    tx := s.cause.tx.filter (fun f => f.id.node != n), rx := s.cause.rx.filter (fun f => f.id.node != n)
    parked := s.cause.parked.filter (fun t => t.node != n), probes := s.cause.probes.filter (· != n) } }
  let s := (((s.seamsNodeLost n).tierNodeLost n).farNodeLost n).expertsNodeLost n
  let s := (s.broadcastsNodeLost n).event 0x0042 2 6 none [n, inc]
  (List.range 32).foldl (fun s p =>
    let m := s.mbox p
    if s.partValid p && bit m.maskSources 6 && decide (m.maskSeverity ≤ 2) then
      let e : EventRec := { code := 0x0042, severity := 2, source := 6, part := some p, leg := s.legCount, offset := s.leg.sub, detail := [n, inc] }
      s.sendHost p 0x8040 e.bytes true
    else s) s

/-- A link-state flit (Table 14.4) with the state given. -/
def sendLinkState (s : State) (p code : Nat) : State :=
  let aux := code * 2 ^ 38 + p * 2 ^ 34 + s.node * 2 ^ 22 + s.incarnation * 2 ^ 6 + min s.phase 4 * 2 ^ 3 + s.fld (Reg.CAUSEWAY_PORT_CTRL p) 1 0 * 2
  (s.putFlit p { kind := 5, aux }).1

/-- Link-state code of a port (Table 14.4). -/
def linkCode (s : State) (p : Nat) : Nat := [0, 1, 2, 3, 4, 6].getD (s.portState p) 0

/-- Sets a port's state and, where it carries flits, tells the far end (R357). -/
def setPortState (s : State) (p v : Nat) : State :=
  let s := s.setFld (Reg.CAUSEWAY_PORT_STATUS p) 31 28 v
  if 2 ≤ (s.port p).step ∧ v ≠ 0 then s.sendLinkState p (s.linkCode p) else s

/-- Starts a probe of a node, by the other path of its entry (R380). -/
def startProbe (s : State) (n : Nat) : State :=
  if n = s.node ∨ s.nodeLost n = true ∨ s.cause.probes.contains n = true then s
  else
    let s : State := { s with cause := { s.cause with probes := s.cause.probes ++ [n] } }
    s.sendVia (s.readyRoute n (!s.pathFor n 0)) { node := n, part := none, op := 0x50 }

/-- Whole packets of a port's waiting flits, each with its input buffers, and the buffers of the flits that belong to none. -/
def wholePackets : Nat → List (Flit × Option (Nat × Nat × Nat)) → List (List (Flit × Option (Nat × Nat × Nat))) × List (Option (Nat × Nat × Nat))
  | 0, _ => ([], [])
  | _ + 1, [] => ([], [])
  | fuel + 1, (f, b) :: rest =>
    if !f.sop then let (l, d) := wholePackets fuel rest; (l, b :: d)
    else
      let key := flitKey f
      let same := rest.filter (fun x => flitKey x.1 == key)
      let tail := if f.eop then [] else
        let n := same.findIdx (fun x => x.1.eop)
        same.take (n + 1)
      let pkt := (f, b) :: tail
      if pkt.any (fun x => x.1.eop) then
        let (l, d) := wholePackets fuel (rest.filter (fun x => !tail.contains x))
        (pkt :: l, d)
      else let (l, d) := wholePackets fuel rest; (l, b :: d)

/-- Destination and path of a packet, by the network header in its first flit (Table 14.6). -/
def packetDest (f : Flit) : Nat × Bool := (fieldAt f.payload 0 2 % 8192, bit (fieldAt f.payload 4 1) 4)

/-- A port goes down (R379): packets queued for it move to the other port of their entries or are dropped. -/
def portFall (s : State) (p cause : Nat) : State :=
  if s.portState p = 0 then s
  else
    let far := s.fld (Reg.CAUSEWAY_PORT_STATUS p) 27 16
    let s := if cause = 6 ∧ 2 ≤ (s.port p).step then s.sendLinkState p 4 else s
    let x := s.port p
    let s := s.updPort p (fun x => { ({} : PortSt) with delays := x.delays })
    let s := (s.setFld (Reg.CAUSEWAY_PORT_STATUS p) 31 28 0).setFld (Reg.CAUSEWAY_PORT_STATUS p) 7 4 0
    let s := (s.bump (Reg.CAUSEWAY_PORT_DOWNS p)).event 0x0041 1 6 none [p, far, cause]
    let (pkts, loose) := wholePackets x.waiting.length x.waiting
    let s := loose.foldl (fun s b => match b with | some b => s.freeBuffer b | none => s) s
    pkts.foldl (fun s k =>
      let (dest, path) := packetDest (k.headD ({}, none)).1
      match (if 4096 ≤ dest then none else s.routeTo dest path) with
      | some q =>
        let s := s.updPort q (fun y => { y with waiting := y.waiting ++ k })
        s.pump q (s.port q).waiting.length
      | none => (k.foldl (fun s f => match f.2 with | some b => s.freeBuffer b | none => s) s).bump Reg.CAUSEWAY_NOROUTE) s

/-- A port goes down, and the far node is probed by its other path unless its own notice took the port down (R378 to R380, log
entry 114). -/
def portDown (s : State) (p cause : Nat) : State :=
  let carried : Bool := s.portState p == 3 || s.portState p == 4
  let far := s.fld (Reg.CAUSEWAY_PORT_STATUS p) 27 16
  let s := s.portFall p cause
  if carried && cause != 5 then s.startProbe far else s

/-- Every other node known is held as lost (R383). -/
def loseAll (s : State) : State :=
  s.cause.known.foldl (fun s (n, inc) => if n = s.node ∨ s.nodeLost n = true then s else
    ({ s with cause := { s.cause with acted := s.cause.acted ++ [(n, inc)] } } : State).loseNode n inc) s

/-- A module that learns that it is itself held as lost is fenced (R383). -/
def fence (s : State) : State :=
  let s := (s.setFld Reg.CAUSEWAY_STATUS 31 31 1).event 0x0044 3 6 none [s.node, s.incarnation]
  let s := (List.range 16).foldl (fun s p =>
    let s := if 2 ≤ (s.port p).step then s.sendLinkState p 6 else s
    s.portFall p 6) s
  s.loseAll

/-- NODE_LOST (R381 to R383): the first notice for a node and incarnation is forwarded and acted on. -/
def nodeLostNotice (s : State) (n inc : Nat) (via : Option Nat) : State :=
  if s.cause.acted.contains (n, inc) then s
  else
    let s : State := { s with cause := { s.cause with acted := s.cause.acted ++ [(n, inc)] } }
    if n = s.node then (if inc = s.incarnation then (s.flood 0x52 [n, inc] via).fence else s)
    else ((s.bump Reg.CAUSEWAY_LOSSES).flood 0x52 [n, inc] via).loseNode n inc

/-- Declares a node lost (R380, R381). -/
def declareLost (s : State) (n : Nat) : State :=
  let inc := Tab.get 0 s.cause.known n
  if s.nodeLost n ∨ n = s.node then s else s.nodeLostNotice n inc none

/-- NODE_JOINED (R384): the mark of a node held as lost is cleared for a new incarnation, and the notice spreads. -/
def nodeJoined (s : State) (n inc : Nat) (via : Option Nat) : State :=
  if s.cause.joined.contains (n, inc) ∨ n = s.node ∨ Tab.find? s.cause.lost n = some inc then s
  else
    let s : State := { s with cause := { s.cause with
      joined := s.cause.joined ++ [(n, inc)], lost := Tab.erase s.cause.lost n, known := Tab.set s.cause.known n inc
      rx := s.cause.rx.filter (fun f => f.id.node != n) } }
    (s.event 0x0043 0 6 none [n, inc]).flood 0x53 [n, inc] via

/-- PROBE: answered by hardware (R380). -/
def probe (s : State) (n : Nat) : State := s.sendSystem n 0x51 [s.incarnation]

/-- PROBE_REPLY: the probe ends. -/
def probeReply (s : State) (n inc : Nat) : State :=
  if Tab.find? s.cause.lost n = some inc then s
  else { s with cause := { s.cause with probes := s.cause.probes.filter (· != n) } }

/-- PROBE_TIMEOUT: no reply in 40 µs (R380). -/
def probeTimeout (s : State) (n : Nat) : State := if s.cause.probes.contains n then s.declareLost n else s

/-- ISOLATION_TIMER (R383): the module has had a trained port and has none. -/
def isolation (s : State) : State :=
  if !s.cause.everTrained ∨ (List.range 16).any (fun p => decide (2 ≤ s.portState p) && decide (s.portState p ≤ 4)) ∨
      s.fld Reg.CAUSEWAY_STATUS 30 30 = 1 then s
  else (s.setFld Reg.CAUSEWAY_STATUS 30 30 1).loseAll

/-! Transactions (Table 14.10). -/

/-- The actions that SEAM_PREPARE carries, and its staged data. -/
def prepareActions (n : Nat) (data : List Byte) : List (BitVec 64 × BitVec 64) × List Byte :=
  ((List.range n).map (fun i => (BitVec.ofNat 64 (fieldAt data (16 * i) 8), BitVec.ofNat 64 (fieldAt data (16 * i + 8) 8))), data.drop (16 * n))

/-- A transaction delivered in order, by its operation; a reserved one is dropped and counted (R368). -/
def deliverTxn (s : State) (t : Txn) (via : Option Nat) : State :=
  let a (i : Nat) : Nat := t.args.getD i 0
  let p := t.part.getD 0
  match t.op with
  | 0x01 => s.readServe t.node p t.txn (farAddr t.args) (a 4)
  | 0x02 => s.readData t.node t.txn t.data
  | 0x03 => s.writeServe t.node p t.txn (farAddr t.args) t.data
  | 0x04 => s.writeAck t.node t.txn
  | 0x05 => s.remoteRefused t.node t.txn
  | 0x06 => s.moveBlock t.node p t.txn (a 0) (a 1) (a 2) t.data
  | 0x07 => s.moveAck t.txn
  | 0x10 => s.bcast (bits (s.ent 6 (4096 + a 0) 4 2) 11 0) p (a 0) (a 1) (a 2) (a 3) (a 4) (a 5) (a 6 == 1) t.data
  | 0x11 => (s.bcastEnd (bits (s.ent 6 (4096 + a 0) 4 2) 11 0) (a 0) (a 1) (a 2) (a 3) (a 4) (a 6 == 1) (bit s.draw.toNat 0) (bit s.draw.toNat 1)).drawn
  | 0x12 => s.bcastResume t.node (a 0) (a 1) (a 2) (a 3)
  | 0x20 => let (l, d) := prepareActions (a 2) t.data; s.seamPrepare t.node (a 1) (a 3) l d
  | 0x21 => s.seamReady t.node (a 1)
  | 0x22 => s.seamRefuse t.node (a 1) (a 2)
  | 0x23 => s.seamCommit t.node (a 1)
  | 0x24 => s.seamUnpick t.node (a 1) (a 2)
  | 0x25 => s.seamDone t.node (a 1) (a 2)
  | 0x26 => s.seamQuery t.node (a 1)
  | 0x30 => s.expertClaim { node := t.node, txn := t.txn, part := p, model := a 0
                            tags := (t.args.drop 3).map (fun (w : Nat) => (BitVec.ofNat 64 w, 0)) }
  | 0x31 => s.expertGrant t.node t.txn (a 0) (a 1)
  | 0x32 => s.expertRow t.node (t.args.map (BitVec.ofNat 64)) t.data
  | 0x33 => s.expertResult (BitVec.ofNat 64 (a 0)) t.data
  | 0x34 => s.expertFailed (BitVec.ofNat 64 (a 0))
  | 0x40 => s.nodeMsg t.node (a 0) t.data
  | 0x50 => s.probe t.node
  | 0x51 => s.probeReply t.node (a 0)
  | 0x52 => s.nodeLostNotice (a 0) (a 1) via
  | 0x53 => s.nodeJoined (a 0) (a 1) via
  | _ => s.bump Reg.CAUSEWAY_E2E_CRC

end State

/-! Transport (R365 to R367). -/

namespace State

/-- Messages parked for want of a flow are sent while there is room (R365). -/
def unpark (s : State) : State :=
  let l := s.cause.parked
  l.foldl (fun s t => s.send t) ({ s with cause := { s.cause with parked := [] } } : State)

/-- Changes the receiving end of a flow. -/
def updRx (s : State) (id : FlowId) (f : FlowRx → FlowRx) : State :=
  let old := (s.cause.rx.find? (fun x => decide (x.id = id))).getD { id := id }
  { s with cause := { s.cause with rx := s.cause.rx.filter (fun x => decide (x.id ≠ id)) ++ [f old] } }

/-- An ack covers the messages of the flow before it. -/
def takeAck (s : State) (id : FlowId) (ack : Nat) : State :=
  let trim (f : FlowTx) : FlowTx := if f.id = id then
    { f with unacked := f.unacked.filter (fun u => decide (2 ^ 31 ≤ (u.1 + 2 ^ 32 - ack) % 2 ^ 32) == false) } else f
  let s : State := { s with cause := { s.cause with tx := s.cause.tx.map trim } }
  if s.cause.parked = [] then s else s.unpark

/-- Delivers what the flow has in order. -/
def deliverHeld (s : State) (id : FlowId) (via : Option Nat) : Nat → State
  | 0 => s
  | fuel + 1 =>
    let f : FlowRx := (s.cause.rx.find? (fun x => decide (x.id = id))).getD { id := id }
    match f.held.find? (fun h => h.1 == f.next) with
    | none => s
    | some h =>
      let s := s.updRx id (fun f => { f with next := (f.next + 1) % 2 ^ 32, held := f.held.erase h, ackDue := true })
      deliverHeld (s.deliverTxn h.2 via) id via fuel

/-- TRANSPORT_MESSAGE (R367): dropped where its CRC fails, its source is held as lost or its incarnation is not the source's; else its
ack is taken, and it is delivered in seq order, up to 64 held ahead of a gap. -/
def transportMessage (s : State) (m : Message) (via : Option Nat) : State :=
  let m := m.cut
  let n := m.flow.node
  if !m.good then s.bump Reg.CAUSEWAY_E2E_CRC
  else if s.nodeLost n then s
  else if (match Tab.find? s.cause.known n with | some i => i != m.incarnation | none => false) then s
  else
    let s : State := { s with cause := { s.cause with known := Tab.set s.cause.known n m.incarnation } }
    let s := if bit m.flags 1 then s.updRx m.flow (fun f => { f with next := m.seq, held := [] }) else s
    let s := s.takeAck m.flow m.ack
    if bit m.flags 0 then s
    else
      let f : FlowRx := (s.cause.rx.find? (fun x => decide (x.id = m.flow))).getD { id := m.flow }
      let ahead : Nat := (m.seq + 2 ^ 32 - f.next) % 2 ^ 32
      if decide (64 < ahead) || f.held.any (fun h => h.1 == m.seq) then s.updRx m.flow (fun f => { f with ackDue := true })
      else
        let s := s.updRx m.flow (fun f => { f with held := f.held ++ [(m.seq, m.txn)], ackDue := true })
        s.deliverHeld m.flow via 65

/-- ACK_TIMER: an ack-only message for a flow whose ack is due (R367). -/
def ackTimer (s : State) (id : FlowId) : State :=
  match s.cause.rx.find? (fun f => decide (f.id = id)) with
  | none => s
  | some f =>
    if !f.ackDue then s
    else
      let tx := (s.cause.tx.find? (fun g => decide (g.id = id))).getD { id := id, pathB := s.pathFor id.node id.flow }
      s.sendPacket id tx.pathB 1 tx.next none { node := id.node, part := id.part }

/-- RETRANSMIT_TIMER: an unacknowledged message goes again, by the other path where one is ready (R367). -/
def retransmit (s : State) (id : FlowId) (seq : Nat) : State :=
  match s.cause.tx.find? (fun f => decide (f.id = id)) with
  | none => s
  | some f => match f.unacked.find? (fun u => u.1 == seq) with
    | none => s
    | some u =>
      if s.nodeLost id.node then s
      else
        let path := if (s.readyRoute id.node (!f.pathB)).isSome then !f.pathB else f.pathB
        (s.bump Reg.CAUSEWAY_RETRANSMITS).sendPacket id path 0 seq none u.2

/-- PROBE_START: a message of a node unacknowledged for 50 µs, or a port to it lost (R380). -/
def probeStart (s : State) (n : Nat) : State := s.startProbe n

/-! Packets arriving (R361, R363, R371). -/

/-- A message of a packet's bytes. -/
def messageOf (src : Nat) (sys : Bool) (part vc cls : Nat) (b : List Byte) : Message :=
  let n := b.length
  let body := sliceBytes b 0 (n - 4)
  let op := fieldAt b 16 1
  let (args, data) := Config.txnParse op (sliceBytes b 24 (n - 28))
  let pt : Option Nat := if sys then none else some part
  { flow := { node := src, part := pt, vc := if sys then 0 else vc, cls := if sys then 0 else cls, flow := fieldAt b 0 1 }
    flags := fieldAt b 1 1, incarnation := fieldAt b 2 2, seq := fieldAt b 4 4, ack := fieldAt b 8 4
    good := decide (52 ≤ n) && (crc32c body).toNat == fieldAt b (n - 4) 4 && fieldAt b 18 2 == n - 52
    txn := { node := src, part := pt, flow := fieldAt b 0 1, op, status := fieldAt b 17 1, txn := fieldAt b 20 4, args, data } }

/-- A whole packet for this module. -/
def packetIn (s : State) (port vc cls : Nat) (b : List Byte) : State :=
  let dest := fieldAt b 0 2
  let pb := fieldAt b 5 1
  let m := messageOf (fieldAt b 2 2 % 4096) (bit pb 7) (bits pb 4 0) vc cls (b.drop 16)
  if b.length ≠ 16 + fieldAt b 6 2 then s.bump Reg.CAUSEWAY_E2E_CRC
  else if bit dest 12 then
    let tree := dest % 4096
    if !m.good then (s.bump Reg.CAUSEWAY_E2E_CRC).treeGap tree m.seq m.txn
    else if s.nodeLost m.flow.node then s else (s.treeGap tree m.seq m.txn).deliverTxn m.txn (some port)
  else s.transportMessage m (some port)

/-- Where a packet whose first flit has arrived goes: its ports, whether it is delivered here, and the flit as it is forwarded. -/
def routePacket (s : State) (port : Nat) (f : Flit) : State × List Nat × Bool × Flit :=
  let dest := fieldAt f.payload 0 2
  let hops := fieldAt f.payload 4 1
  let fwd : Flit := { f with payload := pokeBytes f.payload 4 [BitVec.ofNat 8 (hops / 16 * 16 + (hops % 16 + 1))] }
  if bit dest 12 then
    let t := dest % 4096
    if s.treeIn t ≠ some port then (s.bump Reg.CAUSEWAY_NOROUTE, [], false, f)
    else if 15 ≤ hops % 16 then (s.bump Reg.CAUSEWAY_HOPDROP, [], bit (s.ent 6 (4096 + t) 0 1) 1, f)
    else (s, (s.treeOut t).filter s.portReady, bit (s.ent 6 (4096 + t) 0 1) 1, fwd)
  else if dest % 4096 = s.node then (s, [], true, f)
  else match s.routeTo (dest % 4096) (bit hops 4) with
    | none => (s.bump Reg.CAUSEWAY_NOROUTE, [], false, f)
    | some q => if 15 ≤ hops % 16 then (s.bump Reg.CAUSEWAY_HOPDROP, [], false, f) else (s, [q], false, fwd)

/-- A data or system flit accepted from a port: cut through to the ports of its packet, and gathered if the packet is for this module. -/
def acceptFlit (s : State) (p : Nat) (f : Flit) : State :=
  let key := flitKey f
  let (s, ports, here, g) :=
    if f.sop then s.routePacket p f
    else let r := (Tab.find? (s.port p).route key).getD ([], false); (s, r.1, r.2, f)
  let s := s.updPort p (fun x => { x with
    route := if f.eop then Tab.erase x.route key else Tab.set x.route key (ports, here)
    gathered := if here then Tab.set x.gathered key ((if f.sop then [] else Tab.get [] x.gathered key) ++ f.payload) else x.gathered })
  let name := (p, key, s.cause.flitName)
  let s : State := { s with cause := { s.cause with flitName := s.cause.flitName + 1 } }
  let s := ports.foldl (fun s q =>
    let s := s.updPort q (fun x => { x with waiting := x.waiting ++ [(g, some name)] })
    s.pump q (s.port q).waiting.length) s
  let s := if ports = [] then s.freeBuffer name else s
  if here && f.eop then
    let b := Tab.get [] (s.port p).gathered key
    let s := s.updPort p (fun x => { x with gathered := Tab.erase x.gathered key })
    s.packetIn p f.vc f.cls b
  else s

/-! Links (R353 to R359). -/

/-- A flit's 256 bytes as its fields; none where the CRC fails, or a kind or encoding is reserved (R353). -/
def readFlit (b : List Byte) : Option Flit :=
  let h := fieldAt b 0 12
  let kind := bits h 95 92
  let len := bits h 61 54
  let low := kind ≤ 2
  let carries : Bool := kind == 1 || kind == 2
  let ok : Bool := b.length == 256 && (crc32c (b.take 252)).toNat == fieldAt b 252 4 && decide (kind ≤ 5) &&
    (if carries || kind == 3 then decide (1 ≤ len) && decide (len ≤ 240) else len == 0) && zerosAt b (12 + len) (240 - len) &&
    (kind == 1 || bits h 91 88 == 0) && (carries || (bits h 87 76 == 0 && bits h 63 62 == 0)) &&
    (if low then bits h 33 0 == 0 && decide (bits h 49 42 ≤ 128) && decide (bits h 41 34 ≤ 64) else bits h 53 42 == 0) &&
    (kind != 3 || bits h 41 0 == 0) && (kind != 4 || bits h 41 12 == 0) &&
    (kind != 5 || (decide (1 ≤ bits h 41 38) && decide (bits h 41 38 ≤ 6) && decide (bits h 5 3 ≤ 4) && !bit h 0))
  if ok then
    some { kind, vc := bits h 91 89, cls := bits h 88 88, seq := bits h 87 76, ack := bits h 75 64, sop := bit h 63, eop := bit h 62
           payload := sliceBytes b 12 len, cvc := if low then bits h 53 50 else 0, ccount := if low then bits h 49 42 else 0
           scount := if low then bits h 41 34 else 0, aux := if low then 0 else bits h 41 0 }
  else none

/-- Asks once for the seq expected (R355). -/
def askRetry (s : State) (p : Nat) (again : Bool) : State :=
  let x := s.port p
  if x.retryAsked && !again then s
  else ((s.updPort p (fun x => { x with retryAsked := true })).putFlit p { kind := 4, aux := x.rxNext }).1.bump (Reg.CAUSEWAY_PORT_RETRIES p)

/-- RETRY_REQUEST: the flits kept from the named seq go again in order; one resent 8 times takes the port down (R355, R379). -/
def retryRequest (s : State) (p seq : Nat) : State :=
  let x := s.port p
  let i := x.retry.findIdx (fun f => f.1.seq == seq)
  if !(s.portState p == 3 || s.portState p == 4) ∨ x.retry.length ≤ i then s
  else
    let s := (x.retry.drop i).foldl (fun s f => s.putBlocks p (flitBytes { f.1 with ack := (x.rxNext + 4095) % 4096 })) s
    let s := s.updPort p (fun x => { x with retry := x.retry.take i ++ (x.retry.drop i).map (fun f => (f.1, f.2 + 1)) })
    if (s.port p).retry.any (fun f => decide (8 ≤ f.2)) then s.portDown p 3 else s

/-- RETRY_TIMER: the seq expected has not arrived within 2 µs of the request (R355). -/
def retryTimer (s : State) (p : Nat) : State :=
  if (s.port p).retryAsked && s.portState p == 3 then s.askRetry p true else s

/-- What an ack and the credits of a flit bring (R355, R356). -/
def takeFlitHeader (s : State) (p : Nat) (f : Flit) : State :=
  let s := s.updPort p (fun x =>
    let i := x.retry.findIdx (fun g => g.1.seq == f.ack)
    { x with
      retry := if i < x.retry.length then x.retry.drop (i + 1) else x.retry
      credits := if f.ccount = 0 then x.credits else Tab.put 0 x.credits f.cvc (min 128 (Tab.get 0 x.credits f.cvc + f.ccount))
      sysCredits := min 64 (x.sysCredits + f.scount) })
  s.pump p (s.port p).waiting.length

/-- A port end refuses its link (R359). -/
def refuses (s : State) (p : Nat) : Bool :=
  let x := s.port p
  let far := s.fld (Reg.CAUSEWAY_PORT_STATUS p) 27 16
  let role := s.fld (Reg.CAUSEWAY_PORT_CTRL p) 1 0
  role != 3 && (far == s.node || Tab.find? s.cause.lost far == some x.farInc || (role == 1 && x.farRole == 2) || (role == 2 && x.farRole == 1) ||
    s.fld Reg.CAUSEWAY_STATUS 31 31 == 1)

/-- A trained port becomes ready once both ends are in P4: credits are set, PORT_UP is raised, and a node held as lost that is back with a
new incarnation is joined again (R356, R358, R384). -/
def tryReady (s : State) (p : Nat) : State :=
  let x := s.port p
  let far := s.fld (Reg.CAUSEWAY_PORT_STATUS p) 27 16
  if s.portState p ≠ 2 ∨ x.step < 4 ∨ s.phase ≠ 4 ∨ s.fld (Reg.CAUSEWAY_PORT_STATUS p) 2 0 ≠ 4 ∨ !(x.farState == 2 || x.farState == 3) then s
  else if s.refuses p then s.setPortState p 5
  else
    let s := s.updPort p (fun x => { x with
      step := 5, credits := (List.range 16).map (fun k => (k, 128)), sysCredits := 64, retry := [], txSeq := 0, rxNext := 0, retryAsked := false })
    let s := (s.setPortState p 3).event 0x0040 0 6 none [p, far]
    let s := (s.setFld Reg.CAUSEWAY_STATUS 30 30 0)
    let s : State := { s with cause := { s.cause with everTrained := true } }
    if s.fld (Reg.CAUSEWAY_PORT_CTRL p) 1 0 = 3 then s
    else if s.nodeLost far then s.nodeJoined far x.farInc none
    else
      let s : State := { s with cause := { s.cause with known := Tab.set s.cause.known far x.farInc } }
      s.pump p (s.port p).waiting.length

/-- LINK_STATE: a link-state flit, by its aux field (Table 14.4): a closing end takes the port down, a leaving node is lost at once, and a
port that is not ready tests again (R359, R378, R380). -/
def linkState (s : State) (p aux : Nat) : State :=
  if (s.port p).step < 2 then s
  else
    let st := bits aux 41 38
    let node := bits aux 33 22
    let s := ((s.setFld (Reg.CAUSEWAY_PORT_STATUS p) 27 16 node).setFld (Reg.CAUSEWAY_PORT_STATUS p) 15 12 (bits aux 37 34)).setFld
      (Reg.CAUSEWAY_PORT_STATUS p) 2 0 (bits aux 5 3)
    let s := s.updPort p (fun x => { x with farInc := bits aux 21 6, farRole := bits aux 2 1, farState := st })
    if st = 4 then s.portDown p 5
    else if st = 5 then
      let s := s.portDown p 5
      let s : State := { s with cause := { s.cause with known := Tab.set s.cause.known node (bits aux 21 6) } }
      s.declareLost node
    else s.tryReady p

/-- LINK_STATE_TIMER: the periodic link-state flit (R357). -/
def linkStateTimer (s : State) (p : Nat) : State :=
  if 2 ≤ (s.port p).step ∧ s.portState p ≠ 0 then s.sendLinkState p (s.linkCode p) else s

/-- Training begins at an enabled port with a role and laser light (R358, Table 14.12). -/
def beginTraining (s : State) (p : Nat) : State :=
  if s.portState p = 0 ∧ s.fld (Reg.CAUSEWAY_PORT_CTRL p) 2 2 = 1 ∧ s.fld (Reg.CAUSEWAY_PORT_CTRL p) 1 0 ≠ 0 ∧
      s.fld (Reg.CAUSEWAY_PORT_STATUS p) 3 3 = 1 ∧ s.fld Reg.CAUSEWAY_STATUS 31 31 = 0 then
    (s.updPort p (fun x => { ({} : PortSt) with delays := x.delays })).setPortState p 1
  else s

/-- PORT_TRAINING_STEP: the next step of Table 14.5 completes. A lane that does not lock leaves the port down. A port that went down
while enabled begins again. -/
def trainingStep (s : State) (p step lanes : Nat) : State :=
  let s := if step = 1 then s.beginTraining p else s
  let x := s.port p
  if s.portState p ≠ 1 ∧ s.portState p ≠ 2 then s
  else if step = 5 then s.tryReady p
  else if s.portState p ≠ 1 ∨ x.step + 1 ≠ step then s
  else if step = 1 then
    let s := s.setFld (Reg.CAUSEWAY_PORT_STATUS p) 7 4 lanes
    if lanes % 16 = 15 then s.updPort p (fun x => { x with step := 1 }) else s.setFld (Reg.CAUSEWAY_PORT_STATUS p) 31 28 0
  else if step = 2 then (s.updPort p (fun x => { x with step := 2, delays := [] })).sendLinkState p 1
  else if step = 3 then
    if x.farState = 0 then s
    else if s.refuses p then (s.updPort p (fun x => { x with step := 3 })).setPortState p 5
    else s.updPort p (fun x => { x with step := 3 })
  else if x.delays.length < 8 then s
  else ((s.updPort p (fun x => { x with step := 4 })).setPortState p 2).tryReady p

/-! Delays (R375). -/

/-- DELAY_TIMER: each end of a ready port, or of one in the fourth step of its training, sends a delay request. -/
def delayTimer (s : State) (p : Nat) : State :=
  if s.portState p = 3 ∨ (s.portState p = 1 ∧ (s.port p).step = 3) then s.sendTiming p (timingPayload 1 0 0 0 0 0) else s

/-- DELAY_REQUEST: answered with the turnaround, in 1/16 ns. -/
def delayRequest (s : State) (p turnaround : Nat) : State :=
  if 3 ≤ (s.port p).step then s.sendTiming p (timingPayload 2 0 0 0 0 turnaround) else s

/-- DELAY_RESPONSE: the link delay is half of the round trip less the turnaround, averaged over the last eight (times in 1/16 ns; the
register counts 0.25 ns). -/
def delayResponse (s : State) (p trip turnaround : Nat) : State :=
  if (s.port p).step < 3 then s
  else
    let l := ((trip - turnaround) / 2 :: (s.port p).delays).take 8
    (s.updPort p (fun x => { x with delays := l })).setFld (Reg.CAUSEWAY_PORT_DELAY p) 15 0 (min 65535 (l.sum / l.length / 4))

/-! FLIT_RECEIVE. -/

/-- Codewords counted (Table 14.15). -/
def countFec (s : State) (p : Nat) (f : FlitFacts) : State :=
  (s.bump (Reg.CAUSEWAY_PORT_FEC_CORR p) f.corrected).bump (Reg.CAUSEWAY_PORT_FEC_UNCORR p) f.uncorrectable

/-- A flit of a pair of codewords arrives: the pair's decoding is counted with its first flit, and a codeword that could not be corrected
marks all five, each of which it touches (R351, R352). The flag says that the flit is bad. -/
def pairFlit (s : State) (p : Nat) (facts : FlitFacts) : State × Bool :=
  let x := s.port p
  let first := x.rxFlit == 0
  let bad := if first then facts.uncorrectable != 0 else x.pairBad
  ((if first then s.countFec p facts else s).updPort p (fun x => { x with rxFlit := (x.rxFlit + 1) % 5, pairBad := bad }), bad)

/-- FLIT_RECEIVE (R352 to R356, R373): a flit of a bad codeword, with a CRC error or with a reserved encoding is dropped and a retry asked
for; data and system flits are accepted in order on a ready port; the rest act by kind. -/
def flitReceive (s : State) (p : Nat) (b : List Byte) (facts : FlitFacts) : State :=
  let x := s.port p
  if x.step < 2 then s
  else
    let (s, bad) := s.pairFlit p facts
    let ready : Bool := s.portState p == 3 || s.portState p == 4
    match (if bad then none else readFlit b) with
    | none =>
      let s := if bad then s else s.bump (Reg.CAUSEWAY_PORT_CRC_ERR p)
      if ready then s.askRetry p false else s
    | some f =>
      let s := if ready then s.takeFlitHeader p f else s
      match f.kind with
      | 1 | 2 =>
        if !ready || s.fld (Reg.CAUSEWAY_PORT_CTRL p) 1 0 == 3 then s
        else if f.seq ≠ x.rxNext then s.askRetry p false
        else
          let s := s.updPort p (fun x => { x with rxNext := (x.rxNext + 1) % 4096, retryAsked := false })
          (s.bump (Reg.CAUSEWAY_PORT_RX_FLITS p)).acceptFlit p f
      | 3 =>
        let v (o n : Nat) : Nat := fieldAt f.payload o n
        if v 0 1 = 0 then s.timingMessage p (v 1 1) (bits (v 2 2) 11 0) (v 4 2) (v 8 8) (v 0x10 4) facts.offset facts.time
        else if v 0 1 = 1 then s.delayRequest p facts.time
        else if v 0 1 = 2 then s.delayResponse p facts.time (v 0x10 4)
        else s
      | 4 => s.retryRequest p f.aux
      | 5 => s.linkState p f.aux
      | _ => s

/-- Acks and credits due at a port go back in an idle flit (R354 to R356). -/
def sendIdle (s : State) (p : Nat) : State :=
  if s.portReady p && (s.port p).toReturn.any (fun r => decide (0 < r.2)) then (s.putFlit p {}).1 else s

/-! A port's controls (R376, R378). -/

/-- A closing port that is enabled again before the milestone stands where its training had come to (R59, R378). -/
def reopenPort (s : State) (p : Nat) : State :=
  let n := (s.port p).step
  if n = 5 then s.setPortState p 3
  else if n = 4 then (s.setPortState p 2).tryReady p
  else s.setPortState p (if n = 3 ∧ s.refuses p = true then 5 else 1)

/-- CAUSEWAY_PORT_CTRL takes effect: a role and enable start the port, clearing enable closes it, and kill takes it down at once, not
to work until it is enabled again (R58, R378). -/
def portCtrl (s : State) (p v : Nat) : State :=
  let was := s.fld (Reg.CAUSEWAY_PORT_CTRL p) 2 2
  let on := if bit v 4 then 0 else bits v 2 2
  let s := (s.setFld (Reg.CAUSEWAY_PORT_CTRL p) 1 0 (bits v 1 0)).setFld (Reg.CAUSEWAY_PORT_CTRL p) 2 2 on
  if bit v 4 then s.portDown p 6
  else if bit v 2 then (if s.portState p = 4 then s.reopenPort p else s.beginTraining p)
  else if was = 1 then s.closePort p else s

/-- A write of CAUSEWAY_NODE.node, ignored unless every port is down (R360). -/
def setNode_ (s : State) (n : Nat) : State :=
  if (List.range 16).all (fun p => s.portState p == 0) then s.setFld Reg.CAUSEWAY_NODE 11 0 n else s

/-- LASER_LIGHT_RESTORED: light at a port's optical engine (R358, R517). -/
def lightRestored (s : State) (p : Nat) : State := (s.setFld (Reg.CAUSEWAY_PORT_STATUS p) 3 3 1).beginTraining p

/-- Closing ports go down at step 3 of a milestone (R378). -/
def closePorts (s : State) : State := (List.range 16).foldl (fun s p => if s.portState p = 4 then s.portDown p 6 else s) s

end State

end Sys2Proof.Machine
end

