-- ==== Sys2Proof/Machine/HostMsg.lean ====
section
/-!
DEFINITION. What every host message does, and step 5: the slots CP0 takes and the messages it reads from them (R393, R394,
R399, R401).
-/
namespace Sys2Proof.Machine

namespace State

/-- The configuration record in force, a field. -/
def cfg (s : State) (o n : Nat) : Nat := leNat (s.store.config.bytes o n)
/-- Changes a field of the configuration record, whose record is then to be written (R438). -/
def setCfg (s : State) (o n v : Nat) : State :=
  { s with store := { s.store with
      config := s.store.config.write o (leBytes n v)
      unwritten := if s.store.unwritten.contains (1, 0) then s.store.unwritten else s.store.unwritten ++ [(1, 0)] } }

/-- A REPLY that waits for the configuration record (R438). -/
def replyLater (s : State) (p type q : Nat) : State :=
  { s with store := { s.store with replies := s.store.replies ++ [(p, type, q)] } }

/-- SET_LEG (R33 to R35): arms the change unless the module follows, and keeps the period for the next start. -/
def msgSetLeg (s : State) (p : Nat) (b : List Byte) : State :=
  let period := fieldAt b 0x10 2
  let s := s.changeAt (fieldAt b 0x14 4) period
  (s.setCfg 0 2 period).replyLater p 0x0042 (fieldAt b 8 4)

/-- SET_POWER (R461): POWER_CAP shows the cap, which applies at the next step 6, and the record keeps it. -/
def msgSetPower (s : State) (p : Nat) (b : List Byte) : State :=
  let cap := fieldAt b 0x10 2
  ((s.setFld Reg.POWER_CAP 10 0 cap).setCfg 0x10 2 cap).replyLater p 0x0043 (fieldAt b 8 4)

/-- SEAM (R401): a seam of submitter 6 whose scope is the set's partition. -/
def msgSeam (s : State) (p fn : Nat) (b : List Byte) : State :=
  let n := fieldAt b 0x11 1
  s.openSeam
    { submitter := 6, scope := some (p, 0), timing := fieldAt b 0x10 1, host := some (p, fieldAt b 8 4), fromVf := fn != 0
      actions := (List.range n).map (fun i =>
        (BitVec.ofNat 64 (fieldAt b (0x20 + 16 * i) 8), BitVec.ofNat 64 (fieldAt b (0x28 + 16 * i) 8))) }

/-- FW_UPDATE (R419): the answer waits for the enclave unless it is refused at once. -/
def msgFwUpdate (s : State) (p : Nat) (b : List Byte) : State :=
  let h := fieldAt b 0x10 4
  let q := fieldAt b 8 4
  let a := (s.alloc? h).getD {}
  if s.updateBusy then s.reply p 0x0060 q 0x20 0
  else if s.handleResult p h ≠ 0 then s.reply p 0x0060 q (s.handleResult p h) 0
  else if a.published ≠ some (fieldAt b 0x14 4, fieldAt b 0x18 4) then s.reply p 0x0060 q 1 0
  else s.startUpdate { handle := h, version := fieldAt b 0x18 4, host := some (p, q), image := a.data }

/-- CP_RESTART (R412). -/
def msgCpRestart (s : State) (p : Nat) (b : List Byte) : State :=
  let c := fieldAt b 0x10 1
  let q := fieldAt b 8 4
  if s.cpState c = 4 then s.reply p 0x0061 q 0x22 0 else (s.askRestart c).reply p 0x0061 q 0 0

/-- A message that passed the tests of Table 15.7 does what its type gives (Table 15.8). `slot` is the slot being
processed, `cut` where the prefix match was cut. -/
def runMessage (s : State) (p fn : Nat) (b : List Byte) (slot cut : Option Nat) : State :=
  let t := fieldAt b 2 2
  if t = 0x0001 then s.msgHello p fn b slot
  else if t = 0x0010 then s.admission p (ReqBody.ofBytes b) cut
  else if t = 0x0011 then s.msgCancel p b
  else if t = 0x0020 ∨ t = 0x0021 ∨ t = 0x0022 then
    if s.cpUp 1 then s.runDeferred (p, fn, b)
    else { s with host := { s.host with deferred := s.host.deferred ++ [(p, fn, b)] } }
  else if t = 0x0023 then s.msgDataPut p b
  else if t = 0x0024 then s.msgDataGet p b
  else if t = 0x0030 then s.msgSeam p fn b
  else if t = 0x0031 then s.msgSeamAbort p b
  else if t = 0x0040 then s.msgDisable p fn b
  else if t = 0x0041 then s.msgEnable p fn b
  else if t = 0x0042 then s.msgSetLeg p b
  else if t = 0x0043 then s.msgSetPower p b
  else if t = 0x0050 then s.msgQuery p b
  else if t = 0x0051 then s.msgEventMask p b
  else if t = 0x0060 then s.msgFwUpdate p b
  else if t = 0x0061 then s.msgCpRestart p b
  else s

/-- A message received in set `p` through function `fn`: refused with the first failing status, or run (R399). Its bytes are
those of its length. -/
def receive (s : State) (p fn : Nat) (b : List Byte) (slot cut : Option Nat := none) : State :=
  if lengthBad b then s.refuse p b 1
  else
    let b := b.take (fieldAt b 4 2)
    let st := s.headerStatus p fn b
    if st ≠ 0 then s.refuse p b st else s.runMessage p fn b slot cut

/-! Slots. -/

/-- The bytes of messages of slot `n`. -/
def slotBytes (s : State) (p n : Nat) : List Byte :=
  s.host.mem.bytes (p * 65536 + 0x800 + (n - 1) * 0x800 + 16) (min 2032 (bits (s.ownership p n) 27 16))

/-- Drops the first `k` messages of a slot's bytes. -/
def skipMessages : Nat → List Byte → List Byte
  | 0, b => b
  | k + 1, b => skipMessages k (b.drop (max 16 (fieldAt b 4 2)))

/-- Processes the messages of a taken slot from message done on, `fuel` at most, and finishes it (R394). The number left of
the bound's budget is answered. -/
def runSlot (s : State) (p n : Nat) (five : StepFive) (budget : Option Nat) : Nat → State × Option Nat
  | 0 => (s, budget)
  | fuel + 1 =>
    let w := s.ownership p n
    let done := bits w 39 32
    if bits w 47 40 ≤ done then (s.setOwnership p n (withBits (withBits w 15 8 0) 1 0 0), budget)
    else if budget = some 0 then (s, budget)
    else
      let b := skipMessages done (s.slotBytes p n)
      let fn := Tab.get 0 (s.mbox p).slotFn n
      let id := fieldAt b 0x10 8
      let cut := (five.cuts.find? (fun c => c.1 == id)).map (·.2)
      if lengthBad b then
        let s := s.refuse p b 1
        (s.setOwnership p n (withBits (withBits (s.ownership p n) 15 8 1) 1 0 0), budget.map (· - 1))
      else
        let s := s.receive p fn b (some n) cut
        let w := s.ownership p n
        let s := s.setOwnership p n (withBits w 39 32 (done + 1))
        runSlot s p n five (budget.map (· - 1)) fuel

/-- Processes one slot of a set: one left at owner 0b10, or a new one, which waits while the set's backlog holds 1,024 messages or more. -/
def oneSlot (five : StepFive) (acc : State × Option Nat) (p n : Nat) : State × Option Nat :=
  let (s, budget) := acc
  let owner := bits (s.ownership p n) 1 0
  if budget = some 0 ∨ owner = 0 then acc
  else if owner = 1 ∧ 1024 ≤ (s.mbox p).backlog.length then
    ((s.updMbox p (fun m => { m with heldBack := true })).setFld (Reg.MAILBOX_STATUS p) 1 1 1, budget)
  else
    let s := s.setOwnership p n (withBits (s.ownership p n) 1 0 2)
    s.runSlot p n five budget 256

/-- Step 5 (R394): slots left at owner 0b10 first, then the latched slots, set by set in ascending partition order. CP0 down, the step is omitted and the latch is discarded (R48). -/
def stepFive (s : State) (five : StepFive) : State :=
  if !s.cpUp 0 then
    { s with host := { s.host with mboxes := s.host.mboxes.map (fun (x : Nat × Mbox) => (x.1, { x.2 with latched := [] })) } }
  else
    let left := (List.range 32).flatMap (fun p => (List.range' 1 15).filterMap (fun n =>
      if bits (s.ownership p n) 1 0 = 2 then some (p, n) else none))
    let acc := left.foldl (fun acc x => oneSlot five acc x.1 x.2) (s, five.messages)
    let (s, _) := (List.range 32).foldl (fun (acc : State × Option Nat) p =>
      let (s, budget) := acc
      let m := s.mbox p
      let s := s.updMbox p (fun m => { m with legRead := s.leg.count, heldBack := false, latched := [] })
      m.latched.foldl (fun acc n => oneSlot five acc p n) (s.setFld (Reg.MAILBOX_STATUS p) 1 1 0, budget)) acc
    (List.range 32).foldl (fun s p =>
      s.setFld (Reg.MAILBOX_STATUS p) 23 20 (((List.range' 1 15).filter (fun n => bits (s.ownership p n) 1 0 == 2)).length)) s

/-- Step 1's latch: every ownership word handed over (R393). -/
def latchSlots (s : State) : State :=
  (List.range 32).foldl (fun s p =>
    let l := (List.range' 1 15).filter (fun n => bits (s.ownership p n) 1 0 == 1)
    if l.isEmpty = true ∧ (s.mbox p).latched.isEmpty = true ∧ s.fld (Reg.MAILBOX_STATUS p) 19 16 = 0 then s
    else (s.updMbox p (fun m => { m with latched := l })).setFld (Reg.MAILBOX_STATUS p) 19 16 l.length) s

end State

end Sys2Proof.Machine
end

