-- ==== Sys2Proof/Machine/HostRows.lean ====
section
/-!
DEFINITION. What the host does over PCI Express beside messages: it hands slots over, advances out_cons, resets functions and
configures them (R386 to R392, R395, R398).
-/
namespace Sys2Proof.Machine

namespace State

/-- A function reaches the module's BARs: the link is up and the function is not in D3hot (Table 15.1, Table 17.5). -/
def barOpen (s : State) (fn : Nat) : Bool := s.host.linkUp && !(s.fnState fn).d3hot

/-- A function exposes mailbox set `p` (Table 15.2). -/
def setOf (fn p : Nat) : Bool := decide (p < 32) && (fn == 0 || fn == p + 1)

/-- One more host write discarded (R392). -/
def writeDropped (s : State) (p : Nat) : State := s.bump (Reg.MAILBOX_DROPPED p)

/-- MAILBOX_HANDOVER (R391, R392): the host fills a slot's message area and writes its ownership word. While the slot is the
module's, both writes are discarded, and counted as one handing over (log entry 64). The word's reserved
bits 31:28 and 7:2 are not taken, and an owner field of 0b11 keeps its previous value (R17). Owner 0b10 is the module's own code: the
whole word is kept. -/
def handover (s : State) (fn p n : Nat) (area : List Byte) (word : W64) : State :=
  if s.barOpen fn = false ∨ setOf fn p = false ∨ n < 1 ∨ 15 < n then s
  else if bits (s.ownership p n) 1 0 ≠ 0 then s.writeDropped p
  else
    let at_ := p * 65536 + 0x800 + (n - 1) * 0x800 + 16
    let s : State := { s with host := { s.host with mem := s.host.mem.write at_ (area.take 2032) } }
    if word.toNat % 4 = 2 then s
    else
      let owner := if word.toNat % 4 = 3 then bits (s.ownership p n) 1 0 else word.toNat % 4
      (s.updMbox p (fun m => { m with slotFn := Tab.set m.slotFn n fn })).setOwnership p n
        (withBits (withBits word.toNat 31 28 0) 7 0 owner)

/-- OUT_CONS_WRITE (R395, R396): accepted when it moves forward and not beyond out_prod; the freed space takes the backlog. -/
def outConsWrite (s : State) (fn p : Nat) (v : W32) : State :=
  if s.barOpen fn = false ∨ setOf fn p = false then s
  else
    let m := s.mbox p
    if (v - m.outCons).toNat ≤ (m.outProd - m.outCons).toNat then
      (s.updMbox p (fun m => { m with outCons := v })).drainBacklog p 49152
    else s.setFld Reg.MAILBOX_ERR 0 0 1

/-- MSIX_HOLDOFF_EXPIRY (R398): the placements made during the hold-off are covered by one write at its end. -/
def holdoffExpiry (s : State) (fn v : Nat) : State :=
  let x := s.vector fn v
  let ended : Bool := match x.lastSent with
    | none => true
    | some t => decide (t + s.holdoff ≤ s.now)
  if x.held ∧ ended = true then (s.updVector fn v (fun x => { x with held := false })).raiseVector fn v else s

/-- Vectors that became pending while they could not be sent are sent once they can. -/
def sendPending (s : State) (fn : Nat) : State :=
  (List.range 34).foldl (fun s v => if (s.vector fn v).pending ∧ s.vectorOpen fn v = true then s.sendVector fn v else s) s

/-- The configuration state of a function goes back to its reset values. -/
def resetFn (s : State) (fn : Nat) : State :=
  { s with host := { s.host with
      fns := Tab.set s.host.fns fn { resetting := true }
      vectors := s.host.vectors.filter (fun (x : Nat × MsixVector) => decide (x.1 / 64 ≠ fn)) } }

/-- PF_FLR (R389, R498): configuration state reset, the sessions opened through the function closed, the snapshot ended. -/
def pfFlr (s : State) : State :=
  let s := s.resetFn 0
  let s := (List.range 32).foldl (fun s p =>
    match (s.mbox p).session with
    | some ss =>
      if ss.fn = 0 then (s.updMbox p (fun m => { m with session := none })).setFld (Reg.MAILBOX_STATUS p) 0 0 0 else s
    | none => s) s
  ({ s with snap := none, host := { s.host with numVfs := 0 } }).setFld Reg.SNAP_STATUS 31 31 0

/-- VF_FLR (R389). -/
def vfFlr (s : State) (p : Nat) : State := if 32 ≤ p then s else (s.resetFn (p + 1)).closeSession p none

/-- The identity a configuration read returns by register (Table 15.1, R386, Table 20.10): IDs at 0x00, class and revision at 0x08,
subsystem at 0x2C, where PCI Express puts them (log entry 65). -/
def configWord (s : State) (fn reg : Nat) : Nat × State :=
  if reg = 0 then ((if fn = 0 then 0x0960 else 0x0961) * 65536 + 0x1E77, s)
  else if reg = 8 then (0x12000000 + 0xB0, s)
  else if reg = 0x2C then (0x0960 * 65536 + 0x1E77, s)
  else (s.draw.toNat % 2 ^ 32, s.drawn)

/-- Records the answer to a configuration request. -/
def configAnswer (s : State) (fn reg : Nat) (v : Option Nat) : State :=
  { s with host := { s.host with cfgAnswers := s.host.cfgAnswers ++ [(fn, reg, v)] } }

/-- CONFIGURATION_REQUEST (R389): answered, or Retry Status while the function resets or the endpoint is not ready. `done` says
that a reset of the function under way has ended by now. -/
def configRequest (s : State) (fn : Nat) (op : ConfigOp) (done : Bool) : State :=
  if 32 < fn then s
  else
    let s := if done then s.updFn fn (fun f => { f with resetting := false }) else s
    if s.host.linkUp = false ∨ (s.fnState fn).resetting then s.configAnswer fn 0 none
    else if s.host.numVfs < fn then s
    else match op with
      | .read reg => let (v, s) := s.configWord fn reg; s.configAnswer fn reg (some v)
      | .command bm => ((s.updFn fn (fun f => { f with busMaster := bm })).sendPending fn).configAnswer fn 4 (some 0)
      | .power d3 => (s.updFn fn (fun f => { f with d3hot := d3 })).configAnswer fn 4 (some 0)
      | .msix en mask =>
        ((s.updFn fn (fun f => { f with msixEnable := en, functionMask := mask })).sendPending fn).configAnswer fn 4 (some 0)
      | .vector v a d masked =>
        if (if fn = 0 then 34 else 1) ≤ v then s
        else ((s.updVector fn v (fun x => { x with addr := a, data := d, masked })).sendPending fn).configAnswer fn 4 (some 0)
      | .numVfs n =>
        (if fn ≠ 0 ∨ 32 < n then s else { s with host := { s.host with numVfs := n } }).configAnswer fn 4 (some 0)

end State

end Sys2Proof.Machine
end

