-- ==== Sys2Proof/Machine/Power.lean ====
section
/-!
DEFINITION. Power and heat while the module runs: samples and hardware clamps, the loop of step 6, and heartbeats (R53 to R56,
R407, R461 to R465, R469).
-/
namespace Sys2Proof.Machine

namespace State

/-- Samples and what they set by themselves: rails, Tj, the window, vsave_ready (R446, R461). -/
def takeSample (s : State) (x : PowerSample) : State :=
  let s := (((s.setFld Reg.POWER_RAILS 11 0 x.vmain).setFld Reg.POWER_RAILS 21 12 x.vaux).setFld Reg.POWER_RAILS 31 22 x.vsave).setFld
    Reg.POWER_TEMP 7 0 x.tj
  let s := if 220 ≤ x.vsave then s.setFld Reg.POWER_STATUS 28 28 1 else s
  let clear (ok : Bool) (t : Option Nat) : Option Nat := if ok then some (t.getD s.now) else none
  { s with power := { s.power with
      legSum := s.power.legSum + x.watts, legSamples := s.power.legSamples + 1, legTj := max s.power.legTj x.tj
      window := (x.watts :: s.power.window).take 10
      thermClear := clear (decide (x.tj ≤ 97)) s.power.thermClear
      powerClear := clear (decide (x.watts ≤ s.fld Reg.POWER_LIMIT 26 16)) s.power.powerClear } }

/-- The hardware clamps of Table 17.6, the trip apart. -/
def clamps (s : State) (x : PowerSample) : State :=
  let s := if 95 ≤ x.tj then s.stopKeepWarm else s
  let s := if 100 ≤ x.tj ∧ s.fld Reg.POWER_STATUS 24 24 = 0 then
      (s.engage 24).event 0x0075 2 7 none [x.tj, down25 (s.fld Reg.POWER_CLOCK 26 16 / 2)] else s
  if 17000 < s.power.window.sum ∧ s.fld Reg.POWER_STATUS 23 23 = 0 then
    (s.engage 23).event 0x0076 1 7 none [s.power.window.sum / 10] else s

/-- CLAMP_RELEASE (Table 17.6): the condition has been clear for 1 ms; `power` names the power clamp, else the thermal one. -/
def clampRelease (s : State) (power : Bool) : State :=
  let since := if power then s.power.powerClear else s.power.thermClear
  match since with
  | none => s
  | some t => if t + 100000 ≤ s.now then (if power then s.setFld Reg.POWER_STATUS 23 23 0 else s.setFld Reg.POWER_STATUS 24 24 0).setClock else s

/-- HEARTBEAT (R407): the budget in force. -/
def heartbeat (s : State) (budget : Nat) : State :=
  if s.power.vauxGood = false then s
  else
    let lost := s.fld Reg.POWER_STATUS 27 27 == 1
    let s := (s.setFld Reg.POWER_BUDGET 26 16 budget).setFld Reg.POWER_STATUS 27 27 0
    { s with power := { s.power with beatAt := some s.now, restored := s.power.restored || lost } }

/-- HEARTBEAT_LOST (R407): none has arrived for 3 s. -/
def heartbeatLost (s : State) : State :=
  match s.power.beatAt with
  | none => s
  | some t =>
    if s.now < t + 300000000 ∨ s.fld Reg.POWER_STATUS 27 27 = 1 then s
    else (s.setFld Reg.POWER_STATUS 27 27 1).event 0x0078 2 7 none [s.fld Reg.POWER_BUDGET 26 16]

/-! Step 6. -/

/-- The budget that step 6 uses: the last heartbeat's until 10 s after it, then fallback_cap_w (R463, R469). -/
def budgetNow (s : State) : State × Nat :=
  let age := match s.power.beatAt with | none => 0 | some t => s.now - t
  let last := s.fld Reg.POWER_BUDGET 26 16
  let s : State := if s.power.restored then
      ({ s with power := { s.power with restored := false } }).event 0x007A 0 7 none [last] else s
  if age < 1000000000 then (s.setFld Reg.POWER_STATUS 26 26 0, last)
  else
    let cap := s.cfg 0x12 2
    (if s.fld Reg.POWER_STATUS 26 26 = 1 then s else (s.setFld Reg.POWER_STATUS 26 26 1).event 0x0079 2 7 none [cap], cap)

/-- Thermal reduction after a leg whose highest Tj was `t` (R463). -/
def redNext (red t : Nat) : Nat := if 95 ≤ t then min (red + 50) 1400 else if t ≤ 92 then red - 25 else red

/-- f_fw after a leg of mean power `p` under `cap` (R463). -/
def clockNext (f p cap : Nat) : Nat :=
  if cap < p then max 400 (f - max 25 (down25 (f * (p - cap) / p)))
  else if p + 50 < cap then min 1600 (f + 25) else f

/-- shed_step (R464): hot, cool and the level after a leg whose highest Tj was `t`. -/
def shedNext (hot cool level t : Nat) : Nat × Nat × Nat :=
  let hot' := if 98 ≤ t then hot + 1 else 0
  let cool' := if 98 ≤ t then 0 else if t ≤ 92 then cool + 1 else 0
  let l1 := if hot' = 3 then max 1 (level - 1) else level
  let l2 := if cool' = 10 then min 4 (l1 + 1) else l1
  (if hot' = 3 then 0 else hot', if cool' = 10 then 0 else cool', l2)

/-- target(L+1) of the keep-warm load (R54). -/
def keepWarmTarget (capNow floor p fall : Nat) : Nat := min capNow (max (min floor capNow) (p - fall))

/-- Mean of the samples of the ending leg, halves rounded up (R463); a leg without a sample keeps the last mean. -/
def meanPower (s : State) : Nat :=
  if s.power.legSamples = 0 then s.fld Reg.POWER_KW_STATUS 26 16
  else (2 * s.power.legSum + s.power.legSamples) / (2 * s.power.legSamples)

/-- Step 6: CP3 steps the power and thermal loops and sets the keep-warm target (R463, R464, R54). -/
def powerLoops (s : State) : State :=
  let p := s.fld Reg.POWER_KW_STATUS 26 16
  let t := s.fld Reg.POWER_TEMP 23 16
  let s := s.setFld Reg.POWER_STATUS 25 25 0
  let (s, b) := s.budgetNow
  let red0 := s.fld Reg.POWER_LIMIT 10 0
  let red := redNext red0 t
  let cap := max 300 (min (s.fld Reg.POWER_CAP 10 0) b - red)
  let s := if red0 = 0 ∧ 0 < red then s.event 0x0073 1 7 none [t, red] else s
  let s := (s.setFld Reg.POWER_LIMIT 26 16 cap).setFld Reg.POWER_LIMIT 10 0 red
  let s := (s.setFld Reg.POWER_CLOCK 26 16 (clockNext (s.fld Reg.POWER_CLOCK 26 16) p cap)).setClock
  let level := s.fld Reg.POWER_STATUS 22 20
  let (hot, cool, l) := shedNext s.power.hot s.power.cool level t
  let s : State := { s with power := { s.power with hot, cool } }
  let s := if l = level then s else (s.setFld Reg.POWER_STATUS 22 20 l).event 0x0074 1 7 none [l, t]
  let s := if 0 < red then s.bump Reg.POWER_THROTTLE_LEGS else s
  let s := if l < 4 then s.bump Reg.POWER_SHED_LEGS else s
  let s : State := { s with power := { s.power with
    kwStopped := decide (95 ≤ s.fld Reg.POWER_TEMP 7 0) || s.fld Reg.POWER_STATUS 25 23 != 0 } }
  s.setFld Reg.POWER_KW_STATUS 10 0
    (if s.fld Reg.POWER_KW_CTRL 0 0 = 1 then keepWarmTarget cap (s.fld Reg.POWER_KW_FLOOR 10 0) p (s.fld Reg.POWER_KW_FALL 10 0) else 0)

/-- Step 6 of a milestone: omitted while CP3 is down, and without effect where CP3 has not finished by the bound (R42, R48). The ending
leg's mean power and highest Tj are shown, and its sums begin again. -/
def stepSix (s : State) (done : Bool) : State :=
  let t := if s.power.legSamples = 0 then s.fld Reg.POWER_TEMP 7 0 else s.power.legTj
  let s := (s.setFld Reg.POWER_KW_STATUS 26 16 s.meanPower).setFld Reg.POWER_TEMP 23 16 t
  let s := if s.cpUp 3 ∧ done = true then s.powerLoops else s
  { s with power := { s.power with legSum := 0, legSamples := 0, legTj := 0 } }

end State

end Sys2Proof.Machine
end

