-- ==== Sys2Proof/Machine/StoreOps.lean ====
section
/-!
DEFINITION. The store: bank records, the configuration record and the kept tables, the save image, and what its controller and CP1
do in the background (R423 to R443).
-/
namespace Sys2Proof.Machine

/-- Place of bank `b`'s copy of a record. -/
def recKey (kind index b : Nat) : Nat := (kind * 2 ^ 20 + index) * 2 + b

/-! Codewords (R424, R425). -/

/-- The 16 metadata bytes of a codeword, in the order R424 lists what they hold (log entry 142). -/
def Codeword.metaBytes (w : Codeword) : List Byte := leBytes 5 w.unit ++ leBytes 1 w.index ++ leBytes 2 w.key ++ leBytes 8 w.writeSeq

/-- A codeword of 4,096 bytes: encrypted first, and the parity computed over what is encrypted and the metadata (R424). -/
def Codeword.of (unit index key writeSeq tweak : Nat) (plain : List Byte) : Codeword :=
  let w : Codeword := { unit, index, key, writeSeq, user := sliceBytes (Config.storeCipher key tweak plain) 0 4096 }
  { w with parity := sliceBytes (Config.ldpcParity (w.user ++ w.metaBytes)) 0 496 }

/-- Its 4,608 bytes, four of which fill a page. -/
def Codeword.bytes (w : Codeword) : List Byte := w.user ++ w.metaBytes ++ w.parity

namespace State

/-- The copy of a record in a bank, if it is valid. -/
def bankRec (s : State) (kind index b : Nat) : Option BankRec := (Tab.find? s.store.records (recKey kind index b)).filter (·.valid)

/-- The newest valid record of a name, and its bank (R436). -/
def newestRec (s : State) (kind index : Nat) : Option (Nat × BankRec) :=
  match s.bankRec kind index 0, s.bankRec kind index 1 with
  | none, none => none
  | some a, none => some (0, a)
  | none, some b => some (1, b)
  | some a, some b => if a.seqNo < b.seqNo then some (1, b) else some (0, a)

/-- The last record sequence number used (Table 16.8). -/
def bankSeq (s : State) : Nat := s.rd Reg.STORE_BANK_SEQ_HI * 2 ^ 32 + s.rd Reg.STORE_BANK_SEQ_LO
/-- Shows the last record sequence number. -/
def setBankSeq (s : State) (n : Nat) : State := (s.wr Reg.STORE_BANK_SEQ_LO n).wr Reg.STORE_BANK_SEQ_HI (n / 2 ^ 32)

/-- Writes a record into the bank that does not hold the newest valid record of its name (R436). -/
def writeRec (s : State) (kind index : Nat) (body : Mem) : State :=
  let b := match s.newestRec kind index with | some (b, _) => 1 - b | none => 0
  let n := s.bankSeq + 1
  let s : State := { s with store := { s.store with
    records := Tab.set s.store.records (recKey kind index b) ({ seqNo := n, body := body } : BankRec) } }
  (s.setBankSeq n).bump Reg.STORE_NAND_UNITS

/-! Kept tables (Table 16.3). -/

/-- Where the committed entry `i` of table `t` is kept: the partition table's committed entries stand apart (R324). -/
def keptAt (t i : Nat) : Nat := if t = 7 then 64 + i else i

/-- Bytes 65,536 × page onward of a kept table. -/
def pageBody (s : State) (t page : Nat) : Mem :=
  let sz := entryUnits t * 16
  s.tables.foldl (fun m (x : Nat × Entry) =>
    let i := x.1 % 2 ^ 20
    let i' := if t = 7 then i - 64 else i
    if x.1 / 2 ^ 20 ≠ t ∨ (t = 7 ∧ i < 64) ∨ tableSize t ≤ i' then m
    else (List.range sz).foldl (fun (m : Mem) o =>
      let a := i' * sz + o
      if a / 65536 = page then m.setByte (a % 65536) (BitVec.ofNat 8 (x.2.toNat / 2 ^ (8 * o))) else m) m) []

/-- Adds the bytes of a page to the entries of its table. -/
def loadPage (s : State) (t page : Nat) (body : Mem) : State :=
  let sz := entryUnits t * 16
  body.foldl (fun s (x : Nat × Byte) =>
    let a := page * 65536 + x.1
    let i := keptAt t (a / sz)
    if tableSize t ≤ a / sz then s else s.setEntry t i (s.entry t i + x.2.toNat * 2 ^ (8 * (a % sz)))) s

/-- Pages of a kept table. -/
def tablePages (t : Nat) : Nat := ceilDiv (tableSize t * entryUnits t * 16) 65536

/-- P1 reads every kept-table page: the entries of one without a valid record are 0, and record_lost is set (R437, R439). -/
def readTables (s : State) : State :=
  (List.range' 2 7).foldl (fun s t => (List.range (tablePages t)).foldl (fun s p =>
    match s.newestRec (0x10 + t) p with
    | some (_, r) => s.loadPage t p r.body
    | none => s.setFld Reg.STORE_STATUS 25 25 1) s) s

/-- Bodies of every kept-table page read, in ascending kind and index (Table 18.3). -/
def keptBodies (s : State) : List Byte :=
  (List.range' 2 7).flatMap (fun t => (List.range (tablePages t)).flatMap (fun p =>
    match s.newestRec (0x10 + t) p with
    | some (_, r) => r.body.bytes 0 (min 65536 (tableSize t * entryUnits t * 16 - p * 65536))
    | none => []))

/-! BANK_RECORD_WRITTEN (R436, R438). -/

/-- The body of a record as the module holds it now. -/
def recordBody (s : State) (kind index : Nat) : Mem :=
  if kind = 1 then s.store.config
  else if 0x12 ≤ kind ∧ kind ≤ 0x18 then s.pageBody (kind - 0x10) index else []

/-- The store serves: its parts are in use, and the next save is armed (R433, R443). -/
def storeOpen (s : State) : Bool := s.fld Reg.STORE_STATUS 31 28 == 2 && s.fld Reg.STORE_STATUS 27 27 == 1

/-- The write of a waiting record ends: one that fails is written again in the same bank and sets bank_write; otherwise the seams and
REPLYs that wait for it go on. -/
def recordWritten (s : State) (kind index : Nat) (failed : Bool) : State :=
  if s.store.unwritten.contains (kind, index) = false ∨ s.storeOpen = false then s
  else if failed then s.setFld Reg.STORE_ERR 3 3 1
  else
    let s : State := { s with store := { s.store with unwritten := s.store.unwritten.filter (fun x => x != (kind, index)) } }
    let s := s.writeRec kind index (s.recordBody kind index)
    let waiting := (s.seams.recs.filter (fun x => x.2.waits.contains (kind, index))).map (·.1)
    let s := waiting.foldl (fun s k =>
      (s.updSeam k (fun x => { x with waits := x.waits.filter (fun w => w != (kind, index)) })).finishSeam k) s
    if kind = 1 then
      let rs := s.store.replies
      rs.foldl (fun s (p, t, q) => s.reply p t q 0 0) ({ s with store := { s.store with replies := [] } })
    else s

/-! The configuration record (Table 16.4). -/

/-- A field of a configuration record is out of range, reserved, or a reserved field is not 0 (R439). -/
def configBad (m : Mem) : Bool :=
  let f (o n : Nat) : Nat := leNat (m.bytes o n)
  let out (v lo hi : Nat) : Bool := decide (v < lo) || decide (hi < v)
  let audit := f 0x20 4
  out (f 0 2) 125 16000 || bits (f 2 1) 7 2 != 0 || bits (f 3 1) 7 2 != 0 || bits (f 4 2) 15 12 != 0 || f 6 2 != 0 || f 0xE 2 != 0 ||
    out (f 0x10 2) 800 1700 || out (f 0x12 2) 800 1700 || out (f 0x14 2) 0 1700 || out (f 0x16 2) 10 1700 ||
    out (f 0x1C 4) 16 65536 || out (bits audit 30 24) 1 64 || out (bits audit 19 16) 1 15 || out (bits audit 14 8) 1 64 ||
    out (bits audit 3 0) 1 15 || bit audit 31 || bits audit 23 20 != 0 || bit audit 15 || bits audit 7 4 != 0 ||
    out (f 0x24 4) 1600 80000 || out (f 0x28 2) 10 65535 || out (f 0x2A 2) 16 24 || bits (f 0x2C 4) 31 24 != 0 ||
    decide (bits (f 0x2C 4) 23 8 < 16) || bits (f 0x30 4) 31 22 != 0 || bits (f 0x30 4) 15 12 != 0 ||
    out (bits (f 0x30 4) 21 16) 1 32 || decide (4000 < bits (f 0x30 4) 11 0) || bit (f 0x34 4) 31 ||
    bits (f 0x38 2) 15 9 != 0 || bits (f 0x38 2) 7 0 == 0 || out (f 0x3A 1) 1 90 || f 0x3B 1 != 0 || bits (f 0x40 1) 7 2 != 0 ||
    f 0x41 3 != 0 || bits (f 0x44 1) 7 5 != 0 || bits (f 0x45 1) 7 6 != 0 || bits (f 0x46 2) 15 10 != 0 ||
    !((m.bytes 0x50 176).all (· == 0))

/-- Registers and defaults that P2 sets from the configuration record (R451, R439). -/
def applyConfig (s : State) : State :=
  let s := (List.range 1024).foldl (fun s c =>
    let s := (s.wr (Reg.CORE_ARITH_LIMIT c) (s.cfg 0x18 4)).setFld (Reg.CORE_AUDIT_CTRL c) 16 0 (s.cfg 0x1C 4)
    s.wr (Reg.CORE_AUDIT_THRESH c) (s.cfg 0x20 4)) s
  let s := (s.setFld Reg.SERVING_PLAN_CTRL 16 0 (s.cfg 0x24 4)).setFld Reg.SEAM_CTRL 15 0 (s.cfg 0x28 2)
  let s := (s.setFld Reg.SERVING_PREFIX_CTRL 4 0 (s.cfg 0x2A 2)).setFld Reg.SERVING_SCHED 23 0 (s.cfg 0x2C 4)
  let s := (s.wr Reg.SERVING_EXPERT_CTRL (s.cfg 0x30 4)).wr Reg.TIER_LEND_CTRL (bits (s.cfg 0x34 4) 30 0 + bits (s.cfg 3 1) 1 1 * 2 ^ 31)
  let s := (s.wr Reg.TIER_SCRUB_CTRL (bits (s.cfg 0x38 2) 8 0)).setFld Reg.STORE_SCRUB_CTRL 7 0 (s.cfg 0x3A 1)
  let s := s.setFld Reg.POWER_CAP 10 0 (s.cfg 0x10 2)
  let s := s.setEntry 2 4096 (s.cfg 0x3C 4 + s.cfg 0x40 1 * 2 ^ 32)
  { s with serving := { s.serving with treeLog2 := s.cfg 0x2A 2 } }

/-! The save (R441 to R443, R467). -/

/-- The newest valid save: its slot. -/
def newestSave (s : State) : Option (Nat × SaveImg) :=
  let v (k : Nat) := (Tab.find? s.store.saves k).filter (fun (x : SaveImg) => x.valid)
  match v 0, v 1 with
  | none, none => none
  | some a, none => some (0, a)
  | none, some b => some (1, b)
  | some a, some b => if a.saveSeq < b.saveSeq then some (1, b) else some (0, a)

/-- What the staging memory holds when it is sealed (Tables 16.5, 16.6): the seams of R260 among it. -/
def saveImage (s : State) : SaveImg :=
  let n := s.rd Reg.FW_LOG_PROD
  let k := min n 1488
  { saveSeq := (match s.newestSave with | some (_, x) => x.saveSeq | none => 0) + 1
    leg := s.leg.count, bankSeq := s.bankSeq, startCount := s.store.startCount, prefixCount := s.serving.prefixCount
    seams := (s.seams.recs.filter (fun (x : Nat × Seam) => x.2.state == 4 && s.keptSeam x.2)).take 32
    mapChanges := s.store.mapChanges, dirChanges := s.store.dirChanges
    log := (List.range k).map (fun i => Tab.get ({} : LogRec) s.host.log ((n - k + i) % 16384)) }

/-- The sealed image is programmed into the slot that does not hold the newest valid save (R442). -/
def programSave (s : State) : State :=
  match s.store.sealed with
  | none => s
  | some x =>
    let k := match s.newestSave with | some (k, _) => 1 - k | none => 0
    { s with store := { s.store with saves := Tab.set s.store.saves k x, sealed := none, writeProtect := true } }

/-- Seams that the power loss cut off and the save does not hold are final as unpicked with UNPICKED_POWER, and nobody is told (R260). -/
def unpickedByPower (s : State) : State :=
  let l := s.power.cutSeams
  l.foldl (fun (s : State) (x : Nat × Option (Nat × Nat)) => (s.bump Reg.SEAM_UNPICKED).showLast 0x14 x.2 x.1)
    ({ s with power := { s.power with cutSeams := [] } } : State)

/-- P3 applies the save that P1 took (R443, R260): the prefix object count and the saved seams' actions in number order; then the other
slot is erased and armed. -/
def applySave (s : State) : State :=
  let s := match s.store.taken.bind (fun k => (Tab.find? s.store.saves k).map (fun x => (k, x))) with
    | none => { s with store := { s.store with saves := [] } }
    | some (k, x) =>
      let s := x.seams.foldl (fun (s : State) (y : Nat × Seam) =>
        let s := (s.localActions y.2).foldl (fun (s : State) i => s.applyAction y.2 i) s
        { s with store := { s.store with unwritten := (s.store.unwritten ++ y.2.waits).eraseDups } }) s
      { s with
        serving := { s.serving with prefixCount := x.prefixCount }
        store := { s.store with saves := Tab.set [] k x } }
  (s.unpickedByPower.setFld Reg.STORE_STATUS 27 27 1).homeWaiting

/-! Codewords of units (R424, R425). -/

/-- The codewords of a unit, as flash holds them: codeword i carries 4 KiB number 16u + i of the logical space, which is its tweak (R425,
R427). -/
def unitCodewords (s : State) (u : Nat) : List Codeword :=
  let x : StoreUnit := Tab.get {} s.store.units u
  let home : Option (Alloc × Nat) := s.tier.allocs.findSome? (fun (_, a) =>
    (List.find? (fun (e : Nat × DirEntry) => e.2.housed && e.2.tier == 2 && e.2.location / 128 == u) a.dir).map (fun e => (a, e.1)))
  match home with
  | none => []
  | some (a, g) => (List.range x.codewords).map (fun i =>
      Codeword.of u i x.key x.writeSeq (16 * u + i) (sliceBytes (a.storedBytes g) (4096 * i) 4096))

/-! Requests and their precedence (R430). -/

/-- Step of R430 of the controller's own work: garbage collection is forced below 0.5 % free, and map write-back is what the staging memory
waits for. -/
def workStep (s : State) : StoreWork → Nat
  | .collect t free .. => match Tab.find? s.store.targets t with
    | some x => if free * 200 < x.blocks then 1 else 5
    | none => 5
  | .writeback _ => 1
  | .compact _ => 1
  | .level .. => 6
  | .scrub .. => 6

/-- A far request of a descriptor in progress, or the source of a replica being made, lies in the store. -/
def atStore (s : State) (h g : Nat) : Bool :=
  match s.alloc? h with
  | none => false
  | some a => let e := a.entry g; a.homeHere g && e.housed && e.tier == 2

/-- Steps of R430 at which requests of others wait or are served: records to be written and writes to the store (1), reads for a press or a
formation (2), far requests of descriptors (3), replicas and schedules (4). -/
def outstanding (s : State) : List Nat :=
  (if s.store.unwritten.isEmpty && !(s.tier.unhomed.any (fun x => s.atStore x.1 x.2)) then [] else [1]) ++
  (if s.seams.presses.any (fun w => (s.imageBelow w.part w.image).any (s.atStore w.image)) then [2] else []) ++
  (if s.cores.any (fun (_, k) => k.descs.any (fun x => x.state != 0 && bits (x.words.getD 0 0).toNat 63 60 == 1 &&
      x.granules.any (fun g => s.atStore x.handle g && !x.copies.any (fun y => y.1 == g)))) then [3] else []) ++
  (if !s.tier.prefetch.isEmpty || s.tier.replicas.any (fun r => r.making && (match s.objectHandle r.object r.version with
      | some h => s.atStore h r.granule
      | none => false)) then [4] else [])

/-! Background work of the store. -/

/-- Erase counts of every target, shown (Table 16.9); wear_warn (R432). -/
def showWear (s : State) : State :=
  let ts := Tab.vals s.store.targets
  let hi := ts.foldl (fun m t => max m t.eraseMax) 0
  let lo := ts.foldl (fun m t => min m t.eraseMin) 65535
  let s := s.wr Reg.STORE_WEAR (min hi 65535 * 65536 + min lo 65535)
  if ts.any (fun t => decide (t.rating * 90 ≤ t.eraseMean)) then s.setFld Reg.STORE_STATUS 24 24 1 else s

/-- Units moved by the controller: written to flash, their map entries changed (R428, R431). -/
def moveUnits (s : State) (n : Nat) : State :=
  let s := s.bump Reg.STORE_NAND_UNITS n
  { s with store := { s.store with mapChanges := min 8192 (s.store.mapChanges + n) } }

/-- Blocks that have gone bad in use (R433). -/
def grownBad (s : State) (n : Nat) : State :=
  if n = 0 then s else (s.bump Reg.STORE_GROWN_BAD n).setFld Reg.STORE_ERR 1 1 1

/-- Changes a target's figures and shows the wear. -/
def setTarget (s : State) (t : Nat) (x : Target) : State :=
  ({ s with store := { s.store with targets := Tab.set s.store.targets t x } }).showWear

/-- The work is called for (R429, R431, R432, R434, R436): the store serves; a target's free blocks are below 2 % of its blocks; its most and
least erased blocks differ by more than 5 % of the rating; 6,144 map changes or 1,536 directory changes are staged; patrol scrub is on. -/
def workDue (s : State) (w : StoreWork) : Bool :=
  s.storeOpen && match w with
  | .collect t free .. => match Tab.find? s.store.targets t with
    | some x => decide (free * 100 < x.blocks * 2)
    | none => false
  | .level t .. => match Tab.find? s.store.targets t with
    | some x => decide (x.rating < (x.eraseMax - x.eraseMin) * 20)
    | none => false
  | .writeback _ => decide (6144 ≤ s.store.mapChanges) || decide (1536 ≤ s.store.dirChanges)
  | .compact _ => true
  | .scrub .. => s.fld Reg.STORE_SCRUB_CTRL 8 8 == 1

/-- Garbage collection of a target (R431): victims' valid units are moved, `erased` blocks come free and `bad` ones are retired. Erase counts
are the array's. -/
def collect (s : State) (t free units erased bad lo hi mean : Nat) : State :=
  let x : Target := Tab.get {} s.store.targets t
  ((s.moveUnits units).grownBad bad).setTarget t { x with freeBlocks := free + erased, eraseMin := lo, eraseMax := hi, eraseMean := mean }

/-- Static wear levelling of a target (R432): data of its least erased blocks is moved. -/
def levelWear (s : State) (t units lo hi mean : Nat) : State :=
  let x : Target := Tab.get {} s.store.targets t
  (s.moveUnits units).setTarget t { x with eraseMin := lo, eraseMax := hi, eraseMean := mean }

/-- Map write-back (R429): the dirty pages are written to the banks, and the writes that waited for the staging memory go on. -/
def mapWriteback (s : State) (pages : Nat) : State :=
  let s := (s.setBankSeq (s.bankSeq + pages)).bump Reg.STORE_NAND_UNITS pages
  ({ s with store := { s.store with mapChanges := 0, dirChanges := 0 } } : State).homeWaiting

/-- Compaction of a bank (R436): only its newest valid records are kept. -/
def compact (s : State) (b : Nat) : State :=
  { s with store := { s.store with records := s.store.records.filter (fun (x : Nat × BankRec) =>
    x.1 % 2 != b || ((s.newestRec (x.1 / 2 / 2 ^ 20) (x.1 / 2 % 2 ^ 20)).map (·.1) == some b)) } }

/-- Patrol scrub (R434): a pass finds codewords that needed stage 2 or 3, weak blocks, which are refreshed, and perhaps an unreadable codeword
of an allocation, for which no task is aborted. -/
def storeScrub (s : State) (retried refreshed units bad : Nat) (ue : Option (Nat × Nat)) : State :=
  let s := ((s.bump Reg.STORE_RETRY_CW retried).bump Reg.STORE_REFRESHED refreshed).moveUnits units
  let s := s.grownBad bad
  match ue with
  | none => s
  | some (h, off) => ((s.bump Reg.STORE_UE).setFld Reg.STORE_ERR 2 2 1).unitLost h off

/-- Does a piece of work. -/
def doWork (s : State) : StoreWork → State
  | .collect t free units erased bad lo hi mean => s.collect t free units erased bad lo hi mean
  | .level t units lo hi mean => s.levelWear t units lo hi mean
  | .writeback pages => s.mapWriteback pages
  | .compact b => s.compact b
  | .scrub retried refreshed units bad ue => s.storeScrub retried refreshed units bad ue

/-- A request of R430 that goes first waits: one of a lower step, or an older bank record of step 1 (log entry 143). -/
def workWaits (s : State) (x : StoreReq) : Bool :=
  s.outstanding.any (fun k => decide (k < s.workStep x.work)) || x.ahead.any (fun r => s.store.unwritten.contains r)

/-- The next piece of work that the controller serves: of the lowest step, the oldest (R430). -/
def nextWork (s : State) : Option StoreReq :=
  (List.range' 1 6).findSome? (fun k => s.store.queue.find? (fun x => s.workStep x.work == k))

/-- Serves the waiting work that nothing goes before; `fuel` is its number. -/
def serveStore (s : State) : Nat → State
  | 0 => s
  | fuel + 1 => match s.nextWork with
    | none => s
    | some x =>
      if s.workWaits x || !s.storeOpen then s
      else serveStore (({ s with store := { s.store with queue := s.store.queue.erase x } } : State).doWork x.work) fuel

/-- A piece of work that is called for joins the queue; it is done at once where nothing goes before it (R430). -/
def askWork (s : State) (w : StoreWork) : State :=
  if s.workDue w then
    let ahead := if s.workStep w = 1 then s.store.unwritten else []
    let s : State := { s with store := { s.store with queue := s.store.queue ++ [{ work := w, ahead := ahead }] } }
    s.serveStore s.store.queue.length
  else s

/-- STORE_ZQ_CALIBRATION (Table 16.1): nothing the module shows changes. -/
def zqCalibration (s : State) : State := s

/-- MAP_PAGE_REBUILD_DONE (R437). -/
def mapRebuilt (s : State) (page : Nat) : State :=
  let l := s.store.rebuilding.filter (· != page)
  ({ s with store := { s.store with rebuilding := l } }).setFld Reg.STORE_STATUS 23 23 (b2n (!l.isEmpty))

/-- FL_SUPPLY_OVERCURRENT (R510): the supply is switched off and the store reads failed until the next start. -/
def supplyOver (s : State) (volts : Nat) : State :=
  if s.power.vauxGood = false ∨ s.store.supplyOff = true then s
  else
    let s : State := { s with store := { s.store with supplyOff := true } }
    (s.setFld Reg.STORE_STATUS 31 28 4).event 0x007B 2 7 none [2, volts]

end State

end Sys2Proof.Machine
end

