-- ==== Sys2Proof/Machine/Start.lean ====
section
/-!
DEFINITION. Start, the fallback pattern, module reset and the power-fail save (R445 to R460, R465 to R468, R236, R474 to R476,
R484, R485).
-/
namespace Sys2Proof.Machine

/-- What a reset leaves of such an allocation: its bytes, what is unreadable, and its directory entries in the store. -/
def Alloc.afterReset (a : Alloc) : Alloc :=
  { part := a.part, flags := a.flags, granules := a.granules, placement := a.placement, core := a.core, data := a.data
    dir := a.dir.map (fun (x : Nat × DirEntry) => if x.2.state = 1 ∨ x.2.state = 2 then
      (x.1, { x.2 with state := 1, tier := 2, node := 0, use := 0, moveTo := none, dirty := [] }) else x)
    bad := a.bad, published := a.published, damaged := a.damaged, hostWritten := a.hostWritten }

namespace State

/-- Milliseconds since an instant. -/
def msSince (s : State) (t : Nat) : Nat := (s.now - t) / 100000

/-- PHASE_REACHED and the phase shown everywhere (R455). -/
def reachPhase (s : State) (n ms : Nat) : State := (s.setFld Reg.POWER_STATUS 2 0 n).event 0x0070 0 7 none [n, ms]

/-- A start that cannot continue (Table 17.4). -/
def stopStart (s : State) (phase cause : Nat) : State := (s.setFld Reg.POWER_STATUS 29 29 1).event 0x0071 3 7 none [phase, cause]

/-- The start is stopped, or the module tripped (R455, R466). -/
def stopped (s : State) : Bool := s.fld Reg.POWER_STATUS 29 29 == 1
/-- POWER_STATUS.tripped (R465). -/
def tripped (s : State) : Bool := s.fld Reg.POWER_STATUS 30 30 == 1

/-! Reset. -/

/-- The highest record sequence found, the newest save's included (R440). -/
def highSeq (s : State) : Nat :=
  let n := s.store.records.foldl (fun m (x : Nat × BankRec) => if x.2.valid then max m x.2.seqNo else m) 0
  match s.newestSave with | some (_, x) => max n x.bankSeq | none => n

/-- The state in which the safe domain leaves reset: what flash, fuses, the enclave's memory and the pins hold, and the software
values of GLOBAL_SCRATCH unless the safe domain lost its power (R16, R236, R486). -/
def wiped (s : State) (scratch : Bool) : State :=
  let kept := s.tier.allocs.filter (fun (x : Nat × Alloc) => x.2.kept)
  { part := s.part, free := s.free, test := s.test
    regs := if scratch then s.regs.filter (fun (x : Nat × W32) => decide (0x20 ≤ x.1) && decide (x.1 ≤ 0x2C)) else []
    store := { records := s.store.records, boot := s.store.boot, saves := s.store.saves, targets := s.store.targets
               units := s.store.units.filter (fun (x : Nat × StoreUnit) => kept.any (fun (k : Nat × Alloc) => k.2.dir.any (fun e =>
                 e.2.housed && e.2.tier == 2 && e.2.location / 128 == x.1)))
               writeSeq := s.store.writeSeq }
    enclave := { s.enclave with nonce := none, aliasFailed := none }
    tier := { allocs := kept.map (fun (x : Nat × Alloc) => (x.1, x.2.afterReset))
              lastVersion := kept.foldl (fun t (x : Nat × Alloc) => match x.2.published with
                | some (o, v) => Tab.set t o (max v (Tab.get 0 t o))
                | none => t) [] }
    host := { perstSeen := !s.power.perst }
    power := { vauxGood := true, cutSeams := s.power.cutSeams, startGrant := s.power.startGrant, pwrfail := s.power.pwrfail, resetPin := s.power.resetPin
               perst := s.power.perst, resetDue := s.power.resetPin } }

/-- Step 3 of a life-cycle transition: the store effect, then the new state (Tables 18.5, 18.6). -/
def finishTransition (s : State) : State :=
  match s.enclave.pending with
  | none => s
  | some (t, bundle) =>
    let s := match bundle with
      | none => s
      | some b =>
        let s := (s.setBankSeq s.highSeq).writeRec 1 0 (Mem.write [] 0 b.config)
        let s := b.pages.foldl (fun (s : State) (p : Nat × Nat × List Byte) => s.writeRec p.1 p.2.1 (Mem.write [] 0 p.2.2)) s
        let s := s.setBankSeq 0
        { s with enclave := { s.enclave with ownerHash := BitVec.ofNat 256 (leNat (sha256 b.ownerKey)) } }
    let erase := t == 3 || t == 4
    let s : State := { s with enclave := { s.enclave with
      storeEpoch := if erase then min 64 (s.enclave.storeEpoch + 1) else s.enclave.storeEpoch
      systemEpoch := if t = 4 then min 2 (s.enclave.systemEpoch + 1) else s.enclave.systemEpoch
      erased := s.enclave.erased || erase
      state := t, pending := none } }
    if t = 4 then { s with
      store := { s.store with records := [], boot := [], saves := [], units := [] }
      tier := { s.tier with allocs := [], lastVersion := [] } } else s

/-- P0 begins (Table 17.2, step 1); a pending transition is finished before it completes (R484). -/
def startP0 (s : State) (scratch : Bool) : State := ((s.wiped scratch).finishTransition).event 0x0070 0 7 none [0, 0]

/-! START_GRANT (R447, R511). -/

/-- P2 begins once START_GRANT counts as asserted, P1 has ended and VMAIN is at 40 V or more. -/
def tryGrant (s : State) : State :=
  let p := s.power
  if p.startGrant && !p.pwrfail && p.p1Done && !s.stopped && !s.tripped && !p.held && p.saving.isNone && !p.resetPin &&
      !p.loadsOn && decide (800 ≤ s.fld Reg.POWER_RAILS 11 0) then
    { s with power := { p with loadsOn := true, grantAt := s.now } }
  else s

/-! P1. -/

/-- A field of the image in a boot bank (Table 18.2). -/
def bootField (s : State) (b o n : Nat) : Nat := leNat (Mem.bytes (Tab.get [] s.store.boot b) o n)

/-- The enclave ROM's choice of a bank: none if neither is valid (R475). -/
def bootChoice (s : State) : Option Nat :=
  let ok (b : Nat) : Bool := s.imageCheck (Tab.get [] s.store.boot b) == 0
  if ok 0 ∧ ok 1 then some (if s.bootField 0 8 4 < s.bootField 1 8 4 then 1 else 0)
  else if ok 0 then some 0 else if ok 1 then some 1 else none

/-- The chosen image runs: what the enclave measures of it, and the processors released (R475, R476, R478). -/
def bootImage (s : State) (b : Nat) : State :=
  let check := s.imageCheck (Tab.get [] s.store.boot (1 - b))
  let s := if check = 0 then s
    else (s.setFld Reg.GLOBAL_SECURITY 5 5 1).event 0x0080 1 9 none [1 - b, check]
  let s : State := { s with enclave := { s.enclave with
    bootBank := b, runBank := b, imageSvn := s.bootField b 0xC 1
    encDigest := BitVec.ofNat 256 (s.bootField b 0x40 32), krovkaDigest := BitVec.ofNat 256 (s.bootField b 0x60 32) } }
  (List.range 4).foldl (fun s c => s.setCp c 1) (s.wr Reg.FW_VERSION (s.bootField b 8 4))

/-- The store as its channels train (R423, Table 16.9). -/
def findStore (s : State) (f : StartFound) : State :=
  let s := (f.channels.zip (List.range 8)).foldl (fun s ((st, rate, n), c) =>
    s.wr (Reg.STORE_CHAN c) (st * 2 ^ 28 + rate * 2 ^ 26 + n)) s
  let ready := (f.channels.zip (List.range 8)).foldl (fun m (x, c) => if x.1 = 2 then m + 2 ^ c else m) 0
  let s := s.setFld Reg.STORE_STATUS 7 0 ready
  if f.qualified then
    let s := (s.setFld Reg.STORE_STATUS 31 28 2).wr Reg.STORE_GEOMETRY (f.rawGib * 65536 + f.bitsPerCell * 256 + f.planes * 16 + f.targets)
    let s := s.wr Reg.STORE_USABLE f.usable
    let s : State := { s with store := { s.store with
      writeProtect := false
      targets := (List.range (8 * f.targets)).foldl (fun t i =>
        Tab.set t i { Tab.get ({} : Target) t i with blocks := f.blocks, rating := f.rating }) s.store.targets } }
    s.showWear
  else s

/-- The save area as P1 reads it (R443, Table 16.9). -/
def readSaves (s : State) (bad : List Nat) : State :=
  let s : State := { s with store := { s.store with
    saves := s.store.saves.map (fun (x : Nat × SaveImg) => if bad.contains x.1 then (x.1, { x.2 with valid := false }) else x) } }
  let top := s.store.saves.foldl (fun m (x : Nat × SaveImg) => max m x.2.saveSeq) 0
  match s.newestSave with
  | none => if s.store.saves.isEmpty then s else s.setFld Reg.STORE_ERR 0 0 1
  | some (k, x) =>
    let old := decide (x.saveSeq < top)
    let s := if old then s.setFld Reg.STORE_ERR 0 0 1 else s
    let s := s.wr Reg.STORE_SAVE_STATUS ((if old then 2 else 1) * 2 ^ 30 + k * 2 ^ 29 + x.saveSeq % 2 ^ 28)
    { s with store := { s.store with taken := some k } }

/-- The start count, whose new record must be written before the start goes on (R440); the incarnation is its low 16 bits (R360). -/
def countStart (s : State) : State :=
  let n := (match s.newestRec 2 0 with | some (_, r) => leNat (r.body.bytes 0 8) | none => 0) + 1
  let s := (s.setBankSeq s.highSeq).writeRec 2 0 (Mem.write [] 0 (leBytes 8 n))
  let s : State := { s with
    store := { s.store with startCount := n }, cause := { s.cause with incarnation := n % 65536 } }
  s.setFld Reg.CAUSEWAY_NODE 31 16 n

/-- The configuration record in force: the newest valid one whose fields are in range (R437, R439). -/
def readConfig (s : State) : Option Mem := match s.newestRec 1 0 with
  | some (_, r) => if configBad r.body then none else some r.body
  | none => none

/-- P1_COMPLETE (Table 17.2, step 3; Table 17.4). -/
def p1Complete (s : State) (f : StartFound) : State :=
  let p := s.power
  if p.vauxGood = false ∨ p.p1Done ∨ p.saving.isSome ∨ p.held ∨ p.resetPin ∨ s.stopped = true ∨ s.tripped = true then s
  else
    match (if s.enclave.state = 4 then none else s.bootChoice) with
    | none => s.stopStart 0 1
    | some b =>
      let s := s.bootImage b
      let s : State := { s with store := { s.store with
        records := s.store.records.map (fun (x : Nat × BankRec) =>
          if f.recBad.any (fun (k, i, b) => recKey k i b == x.1) then (x.1, { x.2 with valid := false }) else x)
        rebuilding := f.mapLost } }
      let s := ((s.findStore f).setFld Reg.STORE_STATUS 23 23 (b2n (!f.mapLost.isEmpty))).readTables
      let s := f.dirLost.foldl (fun s x => s.granuleLost x.1 x.2) s
      let s := ((s.readSaves f.saveBad).countStart).setFld Reg.POWER_STATUS 28 28 1
      let kept := s.keptBodies
      let s : State := { s with enclave := { s.enclave with
        aliasFailed := f.aliasStage, measure7 := BitVec.ofNat 256 (leNat (sha256 kept)) } }
      let s := match f.aliasStage with | some st => s.event 0x0086 3 9 none [st] | none => s
      let s := (s.reachPhase 1 (s.msSince s.power.startAt))
      let s : State := { s with power := { s.power with p1Done := true } }
      match s.readConfig with
      | none => s.stopStart 1 2
      | some m =>
        let s : State := { s with
          store := { s.store with config := m }
          enclave := { s.enclave with measure6 := BitVec.ofNat 256 (leNat (sha256 (m.bytes 0 256))) } }
        ((s.setFld Reg.STORE_STATUS 26 26 1).setFld Reg.LEG_PERIOD 13 0 (s.cfg 0 2)).tryGrant

/-! P2. -/

/-- VMAIN_GOOD (Table 17.3, step 2): PLLs lock, every on-die memory is washed, the timebase starts in mode 0b00. -/
def vmainGoodNow (s : State) : State :=
  if s.power.loadsOn = false ∨ s.power.vmainGood then s
  else
    let now := s.now
    let s : State := { s with
      cores := [], net := {}
      power := { s.power with vmainGood := true, vmainAt := now }
      leg := { s.leg with running := true, counted := false, start := now, sub := 0, phase := 0 } }
    s.setFld Reg.GLOBAL_PLL_STATUS 2 0 7

/-- PCIE_LINK_UP (R452). -/
def linkUpNow (s : State) : State :=
  if s.power.loadsOn = false ∨ s.power.perst then s
  else ({ s with host := { s.host with linkUp := true } }).setFld Reg.GLOBAL_PLL_STATUS 3 3 1

/-- FALLBACK_FAILED (Table 17.10). -/
def fallbackFailed (s : State) (cause status : Nat) : State := s.event 0x0072 2 7 none [cause, status]

/-- CP0 forms the fallback context from the configuration record (R457 to R459). `press` is the status with which its press was
unpicked, if it was. -/
def formFallback (s : State) (press : Option Nat) : State :=
  let p := bits (s.cfg 0x44 1) 4 0
  let o := bits (s.cfg 0x45 1) 5 0
  let m := bits (s.cfg 0x46 2) 9 0
  match s.objectHandle (s.cfg 0x48 4) (s.cfg 0x4C 4) with
  | none => s.fallbackFailed 1 0
  | some h =>
    let a := (s.alloc? h).getD {}
    let e := s.entryNow 4 m
    let (w, ht, base, size) := s.modelShape m
    let ds := rectDistricts o w ht
    if a.kept = false then s.fallbackFailed 1 0
    else if !bit e 0 || entAt e 0x20 1 != 1 || entAt e 0x10 8 != 0 || entAt e 0x26 2 != 0 || s.partValid p == false ||
        ds.length != w * ht || ds.any (fun d => !bit (s.partDistricts p) d) then s.fallbackFailed 2 0
    else
      let frees := (List.range 64).filter (fun c => s.ctxState c == 0)
      let c := frees.getD (s.draw.toNat % max 1 frees.length) 0
      let s := s.drawn
      match s.planRun 1, s.handlePair with
      | some plans, some pair =>
        let s := s.wr (Reg.SERVING_CTX c) (1 * 2 ^ 28 + p * 2 ^ 23 + o * 2 ^ 15 + b2n (s.modelPinned m) * 2 ^ 13 + m)
        let s := s.updCtx c (fun _ => ({ w := w, h := ht, shareBase := base, shareSize := size, sections := 1, plans := plans
                                         images := [h], formStep := 5, formStart := s.now } : Ctx))
        let undo (s : State) : State :=
          ({ s with serving := { s.serving with ctxs := Tab.erase s.serving.ctxs c } }).wr (Reg.SERVING_CTX c) 0
        let st := if s.enclave.erased then prBadImage else s.pressStatus p 0 o h []
        if s.scratchRoom p < 34 ∨ s.tilingOk p h 0 = false then (undo s).fallbackFailed 2 0
        else if st ≠ 0 ∨ press.isSome then (undo s).fallbackFailed 3 (if st ≠ 0 then st else press.getD 0)
        else
          let mk (n : Nat) : Alloc := { part := p, flags := 0x01, granules := n, internal := true }
          let s : State := ({ s with tier := { s.tier with
            allocs := Tab.set (Tab.set s.tier.allocs pair (mk 1)) (pair + 1) (mk 16) } }).drawn
          let (s, batch, _) := s.allocate (mk 1)
          let (s, area, _) := s.allocate ({ part := p, flags := 0x01, granules := 16 } : Alloc)
          let s := ((s.updCtx c (fun x => { x with seamPort := pair, batchArea := batch })).writePlans p (s.ctx c)).1
          let w : Press := { part := p, slot := 0, origin := o, image := h, phase := 1 }
          let s := ((s.pressCommit w).pressLoaded w).setCtxState c 2
          { s with power := { s.power with fallbackCtx := some c, fallbackArea := area } }
      | _, _ => s.fallbackFailed 2 0

/-- P2_COMPLETE (Table 17.3, step 4): the kept tables are in force, the registers set, the fallback pattern serves. -/
def p2Complete (s : State) (press : Option Nat) : State :=
  if s.power.vmainGood = false ∨ s.phase ≠ 1 ∨ s.stopped = true then s
  else
    let s := s.tables.foldl (fun s (x : Nat × Entry) =>
      if x.1 / 2 ^ 20 = 8 then
        let v := x.2.toNat % 256
        s.setFld (Reg.SERVING_CTR_CFG (x.1 % 2 ^ 20)) 28 24 (if bit v 7 then bits v 4 0 else 0)
      else s) s
    let s := (s.enforcePartitions).applyConfig
    let s := s.setFld Reg.POWER_START_TIME 15 0 (min 65535 (s.msSince s.power.grantAt))
    (s.formFallback press).reachPhase 2 (s.msSince s.power.grantAt)

/-! P3 and P4. -/

/-- After a crypto-erase, what the store kept is unreadable under its new key and is freed (R485). -/
def freeErased (s : State) : State :=
  if s.enclave.erased = false then s
  else
    let gone := s.tier.allocs.filter (fun (x : Nat × Alloc) => x.2.kept)
    let s : State := { s with
      tier := { s.tier with allocs := s.tier.allocs.filter (fun (x : Nat × Alloc) => !x.2.kept) }
      enclave := { s.enclave with erased := false } }
    s.event 0x0085 1 9 none [s.enclave.storeEpoch, gone.length]

/-- What firmware writes at the start of P4: node ID, port roles and enables, the synchronisation mode (R360, R376, R454). -/
def beginP4 (s : State) : State :=
  let s := s.setNode_ (bits (s.cfg 4 2) 11 0)
  let s := (List.range 16).foldl (fun s p =>
    s.portCtrl p (bits (s.cfg 8 4) (2 * p + 1) (2 * p) + 4 * bits (s.cfg 0xC 2) p p)) s
  let s := s.setSyncMode (bits (s.cfg 2 1) 1 0)
  { s with power := { s.power with modeAt := s.now } }

/-- P3_COMPLETE (Table 17.3, step 5): with every sub-channel trained the save is applied and the store armed; with one that failed the
start stops after P2 (Table 17.4). -/
def p3Complete (s : State) (failed : List Nat) : State :=
  if s.power.vmainGood = false ∨ s.phase ≠ 2 ∨ s.stopped = true then s
  else
    let n := s.subChannels
    let bad := failed.filter (fun c => decide (c < n))
    let s := (List.range n).foldl (fun s c => s.setFld (Reg.LPDDR_SUB c) 31 28 (if bad.contains c then 3 else 2)) s
    let s := (s.setFld Reg.LPDDR_STATUS 31 28 (if bad.isEmpty then 2 else 3)).setFld Reg.LPDDR_STATUS 7 0 (n - bad.eraseDups.length)
    if !bad.isEmpty then s.stopStart 2 3
    else (((s.applySave).freeErased).reachPhase 3 (s.msSince s.power.grantAt)).beginP4

/-- The ports and the synchronisation have settled (R454). -/
def settled (s : State) : Bool :=
  (List.range 16).all (fun p => s.fld (Reg.CAUSEWAY_PORT_CTRL p) 2 2 == 0 || s.portState p == 3 || s.portState p == 5 ||
    decide (s.power.modeAt + 3000000 ≤ s.now)) &&
  (decide (s.fld Reg.LEG_SYNC 1 0 < 2) || s.leg.messageSeen || (s.fld Reg.LEG_SYNC 1 0 == 2 && s.leg.lastEdge.isSome) ||
    decide (s.power.modeAt + 10000000 ≤ s.now))

/-- P4_COMPLETE (R454, R61): full serving; the keep-warm settings apply, and the heartbeat's age counts from here (R463). -/
def p4Complete (s : State) : State :=
  if s.power.vmainGood = false ∨ s.phase ≠ 3 ∨ s.settled = false then s
  else
    let s := ((s.setFld Reg.POWER_KW_FLOOR 10 0 (s.cfg 0x14 2)).setFld Reg.POWER_KW_FALL 10 0 (s.cfg 0x16 2)).setFld
      Reg.POWER_KW_CTRL 0 0 (bits (s.cfg 3 1) 0 0)
    let s := s.setFld Reg.POWER_START_TIME 31 16 (min 65535 (s.msSince s.power.vmainAt))
    let s : State := { s with power := { s.power with beatAt := some (s.power.beatAt.getD s.now) } }
    (List.range 16).foldl tryReady (s.reachPhase 4 (s.msSince s.power.grantAt))

/-! The power-fail save (R467, R468). -/

/-- Steps 1 to 4 of a save, or, while the store is not armed, the dropping of the loads alone. -/
def beginSave (s : State) (cause : Nat) : State :=
  let armed := s.fld Reg.STORE_STATUS 27 27
  if s.power.saving.isSome ∨ s.power.held ∨ (armed = 0 ∧ s.power.loadsOn = false) then s
  else
    let e : EventRec := { code := 0x7C, severity := 3, source := 7, leg := s.legCount, offset := s.leg.sub, detail := [cause, armed] }
    let s := (s.logEntry 0 (s.draw.toNat % 256) 0x7C e.bytes).drawn
    let s := if 720 ≤ s.fld Reg.POWER_RAILS 11 0 then
        (List.range 16).foldl (fun s p => if s.portReady p then s.sendLinkState p 5 else s) s else s
    let image := s.saveImage
    let s := (s.stopKeepWarm).wr Reg.GLOBAL_PLL_STATUS 0
    { s with
      cores := [], net := {}
      leg := { s.leg with running := false }
      host := { s.host with linkUp := false }
      store := { s.store with sealed := if armed = 1 then some image else none }
      power := { s.power with
        loadsOn := false, vmainGood := false, held := armed == 0
        cutSeams := (s.seams.recs.filter (fun (x : Nat × Seam) => !(armed == 1 && image.seams.any (fun y => y.1 == x.1)))).map
          (fun (x : Nat × Seam) => (x.2.id x.1, x.2.scope))
        saving := if armed = 1 then some cause else none } }

/-- A module reset: a save if one can be made, and then P0, where it is held while RESET_N is asserted (R456). -/
def moduleReset (s : State) : State :=
  let s : State := { s with power := { s.power with resetDue := true } }
  let s := s.beginSave 5
  if s.power.saving.isSome ∨ s.power.vauxGood = false then s else s.startP0 true

/-- SAVE_COMPLETE (Table 17.7, step 6), and what follows: a new start after a reset or a power failure that is over, else the module
is held (R468). -/
def saveComplete (s : State) : State :=
  match s.power.saving with
  | none => s
  | some cause =>
    let s := ((s.programSave).setFld Reg.POWER_STATUS 31 31 1).setFld Reg.STORE_STATUS 27 27 0
    let s : State := { s with power := { s.power with saving := none, held := true } }
    if s.power.vauxGood = false then s
    else if s.power.resetDue then s.startP0 true
    else if cause = 1 ∧ s.power.pwrfail = false ∧ s.tripped = false ∧ 800 ≤ s.fld Reg.POWER_RAILS 11 0 then s.startP0 true
    else s

/-! Pins and rails. -/

/-- VAUX_GOOD (R447): the safe domain leaves reset; its power had gone, so GLOBAL_SCRATCH is lost. -/
def vauxGoodNow (s : State) : State :=
  if s.power.vauxGood then s
  else if s.power.saving.isSome then { s with power := { s.power with vauxGood := true } }
  else s.startP0 false

/-- VAUX_LOW (R467). -/
def vauxLow (s : State) : State :=
  let s := s.beginSave 3
  { s with power := { s.power with vauxGood := false } }

/-- VMAIN_LOW (R467). -/
def vmainLow (s : State) : State := s.beginSave 2

/-- PWRFAIL_N_ASSERT (R467). -/
def pwrfailAssert (s : State) : State := ({ s with power := { s.power with pwrfail := true } }).beginSave 1

/-- PWRFAIL_N_DEASSERT (R468, R511). -/
def pwrfailDeassert (s : State) : State :=
  let s : State := { s with power := { s.power with pwrfail := false } }
  if s.power.held ∧ s.power.saving.isNone ∧ s.power.vauxGood ∧ s.power.resetPin = false ∧ s.tripped = false ∧
      800 ≤ s.fld Reg.POWER_RAILS 11 0 then s.startP0 true
  else s.tryGrant

/-- START_GRANT_ASSERT (R447, R511). -/
def grantAssert (s : State) : State := ({ s with power := { s.power with startGrant := true } }).tryGrant

/-- START_GRANT_WITHDRAW (R449): as an assertion of PWRFAIL_N. -/
def grantWithdraw (s : State) : State :=
  if s.power.startGrant = false then s else ({ s with power := { s.power with startGrant := false } }).beginSave 4

/-- VMAIN_AT_40_V (R511). -/
def vmainAt40 (s : State) : State :=
  (if s.fld Reg.POWER_RAILS 11 0 < 800 then s.setFld Reg.POWER_RAILS 11 0 800 else s).tryGrant

/-- RESET_N_ASSERT (R456): the save runs, and the module is held in P0; THERMTRIP_N is released (Table 20.6). -/
def resetAssert (s : State) : State :=
  let s : State := { s with power := { s.power with resetPin := true } }
  (s.setFld Reg.POWER_STATUS 30 30 0).moduleReset

/-- RESET_N_DEASSERT (R456). -/
def resetDeassert (s : State) : State :=
  if s.power.resetPin = false then s
  else
    let s : State := { s with power := { s.power with resetPin := false } }
    if s.power.saving.isSome ∨ s.power.vauxGood = false then s else s.startP0 true

/-- PERST_N_DEASSERT (R452). -/
def perstDeassert (s : State) : State :=
  { s with power := { s.power with perst := false }, host := { s.host with perstSeen := s.host.perstSeen || s.power.vauxGood } }

/-- PERST_N_ASSERT (R452): after a first deassertion, a module reset. -/
def perstAssert (s : State) : State :=
  let seen := s.host.perstSeen
  let s : State := { s with power := { s.power with perst := true }, host := { s.host with linkUp := false } }
  if seen ∧ s.power.vauxGood then s.moduleReset else s

/-- POWER_SAMPLE (R461, R465): the clamps act, and at 110 °C the module trips. -/
def powerSample (s : State) (x : PowerSample) : State :=
  if s.power.vauxGood = false then s
  else
    let s := (s.takeSample x).clamps x
    if 110 ≤ x.tj ∧ s.tripped = false then
      ((s.setFld Reg.POWER_STATUS 30 30 1).event 0x0077 3 7 none [x.tj, x.sensor]).beginSave 6
    else s

end State

end Sys2Proof.Machine
end

