-- ==== Sys2Proof/Machine/Mgmt.lean ====
section
/-!
DEFINITION. The management endpoint and the security enclave: MCTP, PLDM, SPDM, life-cycle tokens and provisioning (R405 to R408,
R477 to R485), and the test port (R481).
-/
namespace Sys2Proof.Machine

namespace State

/-- Sends an answer of the management endpoint. -/
def mgmtAnswer (s : State) (proto code : Nat) (body : List Byte) : State :=
  { s with mgmt := { s.mgmt with answers := s.mgmt.answers ++ [{ proto, code, body }] } }

/-- PLDM and SPDM are served: from P4, while CP3 runs (R406, Table 15.15). -/
def mgmtReady (s : State) : Bool := s.phase == 4 && s.cpUp 3

/-- MCTP_CONTROL (R405, R406): answered from P0. Set Endpoint ID (0x01) and Get Endpoint ID (0x02) act on the endpoint ID; what other
commands return is open (log entry 66). -/
def mctpControl (s : State) (command data : Nat) : State :=
  if s.power.vauxGood = false then s
  else
    let s : State := if command = 1 then { s with mgmt := { s.mgmt with eid := data % 256 } } else s
    if command = 1 ∨ command = 2 then s.mgmtAnswer 0 command ([0] ++ leBytes 1 s.mgmt.eid)
    else (s.mgmtAnswer 0 command ([0] ++ leBytes 8 s.draw.toNat)).drawn

/-- Reading of a numeric sensor (Table 15.14). -/
def numericReading (s : State) (n : Nat) : Nat :=
  if n = 0 then s.fld Reg.POWER_TEMP 7 0
  else if n = 1 then s.power.window.headD 0
  else if n = 2 then s.fld Reg.POWER_RAILS 11 0
  else if n = 3 then s.fld Reg.POWER_RAILS 21 12
  else s.fld Reg.POWER_RAILS 31 22

/-- PLDM_COMMAND (R405, R406, R408): completion code 0, or ERROR_NOT_READY (4, log entry 66) with the phase. -/
def pldm (s : State) (op : PldmOp) : State :=
  if s.power.vauxGood = false then s
  else match op with
    | .getStatus => s.mgmtAnswer 1 0 ([0] ++ leBytes 1 (s.rd Reg.FW_UPDATE_STATUS))
    | .numericSensor n =>
      if s.mgmtReady then s.mgmtAnswer 1 1 ([0] ++ leBytes 4 (s.numericReading n)) else s.mgmtAnswer 1 1 ([4] ++ leBytes 1 s.phase)
    | .stateSensor n =>
      if s.mgmtReady then s.mgmtAnswer 1 2 ([0] ++ leBytes 1 (if n = 0 then s.phase else s.enclave.state))
      else s.mgmtAnswer 1 2 ([4] ++ leBytes 1 s.phase)
    | .readEvent i =>
      if s.mgmtReady then match Tab.find? s.host.ring (i % 1024) with
        | some (e, _) =>
          ({ s with host := { s.host with ring := Tab.set s.host.ring (i % 1024) (e, true) } }).mgmtAnswer 1 3 ([0] ++ e.bytes)
        | none => s.mgmtAnswer 1 3 [1]
      else s.mgmtAnswer 1 3 ([4] ++ leBytes 1 s.phase)
    | .other c =>
      if s.mgmtReady then (s.mgmtAnswer 1 (256 + c) ([0] ++ leBytes 8 s.draw.toNat)).drawn
      else s.mgmtAnswer 1 (256 + c) ([4] ++ leBytes 1 s.phase)

/-- PLDM_FW_UPDATE (R405, R419): starts an update from the bytes PLDM brought, unless one runs. -/
def pldmUpdate (s : State) (image : List Byte) : State :=
  if s.power.vauxGood = false then s
  else if s.mgmtReady = false then s.mgmtAnswer 1 4 ([4] ++ leBytes 1 s.phase)
  else if s.updateBusy then s.mgmtAnswer 1 4 [1]
  else
    let m := Mem.write [] 0 image
    (s.startUpdate { version := leNat (m.bytes 8 4), image := m }).mgmtAnswer 1 4 [0]

/-! SPDM (R478 to R480). -/

/-- Answers an SPDM request: ResponseNotReady before P4, UnexpectedRequest without an Alias key, else `r` (response codes of SPDM, log
entry 66). -/
def spdm (s : State) (r : State → Nat × List Byte) : State :=
  if s.power.vauxGood = false then s
  else if s.mgmtReady = false then s.mgmtAnswer 2 0x7F [0x42]
  else if s.enclave.aliasFailed.isSome then s.mgmtAnswer 2 0x7F [0x04]
  else let (code, body) := r s; s.mgmtAnswer 2 code body

/-- A 256-bit value as its 32 bytes. -/
def digestBytes (v : BitVec 256) : List Byte := leBytes 32 v.toNat

/-- The measurement at an index (Table 18.3). -/
def measurement (s : State) (i : Nat) : Option (List Byte) :=
  let e := s.enclave
  if i = 1 then some (digestBytes Config.romDigest)
  else if i = 2 then some (digestBytes e.encDigest)
  else if i = 3 then some (digestBytes e.krovkaDigest)
  else if i = 4 then some (sha256 (leBytes 1 e.imageSvn ++ leBytes 1 e.minSvn))
  else if i = 5 then some (sha256 (leBytes 1 (e.state + (if e.pending.isSome then 128 else 0))))
  else if i = 6 then some (digestBytes e.measure6)
  else if i = 7 then some (digestBytes e.measure7)
  else if i = 8 then some (digestBytes (if e.state = 0 then 0 else e.ownerHash))
  else none

/-- Response of SPDM_GET_VERSION: SPDM 1.4. -/
def spdmVersion (_ : State) : Nat × List Byte := (0x04, [0x14])
/-- Response of SPDM_GET_CAPABILITIES: certificates, challenges and signed measurements, and no session. -/
def spdmCapabilities (_ : State) : Nat × List Byte := (0x61, [0x16])
/-- Response of SPDM_NEGOTIATE_ALGORITHMS: SLH-DSA-SHA2-128f and SHA-256 alone. -/
def spdmAlgorithms (_ : State) : Nat × List Byte := (0x63, [1, 1])
/-- Response of SPDM_GET_DIGESTS: the digest of the chain in slot 0. -/
def spdmDigests (_ : State) : Nat × List Byte := (0x01, sha256 Config.certificateChain)
/-- Response of SPDM_GET_CERTIFICATE: slot 0 alone. -/
def spdmCertificate (slot off n : Nat) (_ : State) : Nat × List Byte :=
  if slot = 0 then (0x02, (Config.certificateChain.drop off).take n) else (0x7F, [0x01])
/-- Response of SPDM_CHALLENGE: the chain's digest and a signature by the Alias key. -/
def spdmChallenge (slot : Nat) (nonce : List Byte) (_ : State) : Nat × List Byte :=
  if slot = 0 then
    let d := sha256 Config.certificateChain
    (0x03, d ++ nonce ++ Config.slhDsaSign 0 (d ++ nonce))
  else (0x7F, [0x01])
/-- Response of SPDM_GET_MEASUREMENTS: index 0 asks how many there are, 255 for all; signed by the Alias key. -/
def spdmMeasurements (index : Nat) (nonce : List Byte) (s : State) : Nat × List Byte :=
  let body : Option (List Byte) :=
    if index = 0 then some [8]
    else if index = 255 then some ((List.range' 1 8).flatMap (fun i => leBytes 1 i ++ (s.measurement i).getD []))
    else (s.measurement index).map (fun d => leBytes 1 index ++ d)
  match body with
  | none => (0x7F, [0x01])
  | some b => (0x60, b ++ nonce ++ Config.slhDsaSign 0 (b ++ nonce))

/-! Life cycle (R482 to R484). -/

/-- The Device Serial Number: the first 8 bytes of SHA-256 of the DeviceID public key (R478). -/
def serial (s : State) : W64 := BitVec.ofNat 64 (leNat ((sha256 s.enclave.deviceKey).take 8))

/-- LC_STATUS (R482). -/
def lcStatus (s : State) : State :=
  if s.power.vauxGood = false then s
  else s.mgmtAnswer 3 0x10 (leBytes 1 s.enclave.state ++ leBytes 1 (b2n s.enclave.pending.isSome) ++ leBytes 8 s.serial.toNat ++
    leBytes 1 s.enclave.storeEpoch ++ leBytes 1 s.enclave.minSvn)

/-- LC_NONCE (R482): a fresh nonce, good from now. -/
def lcNonce (s : State) : State :=
  if s.power.vauxGood = false then s
  else
    let n := leBytes 8 s.draw.toNat ++ leBytes 8 (s.drawn).draw.toNat
    let s : State := { s.drawn 2 with enclave := { s.enclave with nonce := some (n, s.now) } }
    s.mgmtAnswer 3 0x11 n

/-- LC_NONCE_EXPIRY (R482): 60 s after it was made. -/
def nonceExpiry (s : State) : State :=
  match s.enclave.nonce with
  | none => s
  | some (_, t) => if s.now < t + 6000000000 then s else { s with enclave := { s.enclave with nonce := none } }

/-- A token or bundle is refused: LC_REFUSED with the vendor command and the cause (R483, Table 18.8). -/
def lcRefuse (s : State) (command cause : Nat) : State :=
  (s.event 0x0082 1 9 none [command, cause]).mgmtAnswer 3 command (leBytes 1 cause)

/-- The authorities that may make a change of state by token: owner, Drumas; none if Table 18.5 has no such change. -/
def transitionBy (fromState toState : Nat) : Option (Bool × Bool) :=
  if toState = 4 ∧ fromState < 4 then some (true, true)
  else if fromState = 1 ∧ toState = 2 then some (true, false)
  else if fromState = 2 ∧ toState = 1 then some (true, false)
  else if (fromState = 1 ∨ fromState = 2) ∧ toState = 3 then some (false, true)
  else if fromState = 3 ∧ toState = 1 then some (true, true)
  else none

/-- The svn of the image running. -/
def runSvn (s : State) : Nat := s.bootField s.enclave.runBank 0xC 1

/-- First cause for which a token is refused, 0 if it is accepted (R477, R481, R483; log entry 67). -/
def tokenCause (s : State) (t : LcToken) : Nat :=
  let e := s.enclave
  let key := digestBytes (if t.authority = 0 then e.ownerHash else e.drumasHash)
  let msg := leBytes 1 t.command ++ leBytes 1 t.target ++ leBytes 8 t.dsn.toNat ++ t.nonce ++ leBytes 1 t.authority
  let by_ (who : Option (Bool × Bool)) : Nat := match who with
    | none => 5
    | some (o, d) => if (t.authority = 0 ∧ o = true) ∨ (t.authority = 1 ∧ d = true) then 0 else 4
  let otherLower : Bool := (Tab.find? s.store.boot (1 - e.runBank)).isSome && decide (s.bootField (1 - e.runBank) 0xC 1 < s.runSvn)
  let what : Nat :=
    if t.command = 1 then (if e.storeEpoch = 64 ∧ t.target ≠ 4 then 5 else by_ (transitionBy e.state t.target))
    else if e.state = 0 then 5
    else if t.command = 2 then (if t.authority ≠ 0 then 4 else bif otherLower then 5 else 0)
    else if t.command = 3 then (if t.authority ≠ 1 then 4 else if 3 < t.target then 5 else 0)
    else 5
  if Config.slhDsaVerify key msg t.signature = false then 1
  else if t.dsn ≠ s.serial then 2
  else if e.nonce.map (·.1) ≠ some t.nonce then 3
  else if what ≠ 0 then what
  else if s.updateBusy then 6
  else if e.pending.isSome then 7 else 0

/-- The nonce that a token or bundle names is used up (R482). -/
def useNonce (s : State) (n : List Byte) : State :=
  if s.enclave.nonce.map (·.1) = some n then { s with enclave := { s.enclave with nonce := none } } else s

/-- An accepted transition: pending, LC_CHANGED, and the module reset whose end carries it out (Table 18.6). -/
def beginTransition (s : State) (t authority : Nat) (b : Option Bundle) : State :=
  let s := s.event 0x0081 0 9 none [s.enclave.state, t, authority]
  ({ s with enclave := { s.enclave with pending := some (t, b) } }).moduleReset

/-- LC_TOKEN (R477, R483, R484). -/
def lcToken (s : State) (t : LcToken) : State :=
  if s.power.vauxGood = false then s
  else
    let cause := s.tokenCause t
    let s := s.useNonce t.nonce
    if cause ≠ 0 then s.lcRefuse 0x12 cause
    else
      let s := s.mgmtAnswer 3 0x12 [0]
      if t.command = 1 then s.beginTransition t.target t.authority none
      else if t.command = 2 then
        let old := s.enclave.minSvn
        let new := s.runSvn
        if new ≤ old then s
        else ({ s with enclave := { s.enclave with minSvn := new } }).event 0x0083 0 9 none [old, new]
      else ({ s with enclave := { s.enclave with revoked := s.enclave.revoked ||| BitVec.ofNat 4 (2 ^ t.target) } }).event 0x0084 1 9 none
        [t.target]

/-- First cause for which a bundle is refused, 0 if it is accepted (Table 18.5). -/
def bundleCause (s : State) (b : LcBundle) : Nat :=
  let e := s.enclave
  let key := digestBytes (if e.state = 0 then e.drumasHash else e.ownerHash)
  let msg := b.ownerKey ++ b.config ++ b.pages.flatMap (fun p => leBytes 1 p.1 ++ leBytes 4 p.2.1 ++ p.2.2) ++ leBytes 8 b.dsn.toNat ++ b.nonce
  if Config.slhDsaVerify key msg b.signature = false then 1
  else if b.dsn ≠ s.serial then 2
  else if e.nonce.map (·.1) ≠ some b.nonce then 3
  else if 1 < e.state ∨ e.storeEpoch = 64 ∨ b.config.length ≠ 256 then 5
  else if s.updateBusy then 6
  else if e.pending.isSome then 7 else 0

/-- PROVISION (R482 to R484): by Drumas in BLANK, by the owner in PROVISIONED. -/
def provision (s : State) (b : LcBundle) : State :=
  if s.power.vauxGood = false then s
  else
    let cause := s.bundleCause b
    let by_ := if s.enclave.state = 0 then 1 else 0
    let s := s.useNonce b.nonce
    if cause ≠ 0 then s.lcRefuse 0x13 cause
    else (s.mgmtAnswer 3 0x13 [0]).beginTransition 1 by_ (some { ownerKey := b.ownerKey, config := b.config, pages := b.pages })

/-- TEST_PORT_INSTRUCTION (R481): 0 BYPASS, 1 IDCODE, 2 SAMPLE/PRELOAD, 3 EXTEST in every state, 4 the Drumas debug instructions in
FIELD_DEBUG alone; TRST_N holds the test logic in reset before VAUX is good (R513). -/
def testInstr (s : State) (i : Nat) : State :=
  if s.power.vauxGood = false then s
  else if i ≤ 3 ∨ (i = 4 ∧ s.enclave.state = 3) then { s with test := { s.test with instr := i } }
  else { s with test := { s.test with refused := s.test.refused + 1 } }

end State

end Sys2Proof.Machine
end

