-- ==== Sys2Proof/Machine/HostRegs.lean ====
section
/-!
DEFINITION. BAR0 as the host sees it: what a read returns, what a write does, posted writes, the snapshot and the bit alias (R489 to
R505), with the actions that writes of single registers have.
-/
namespace Sys2Proof.Machine

/-- A magnitude as BF16, rounded towards +∞ (Table 4.7). -/
def bf16Up (v : W32) : Nat :=
  let n := v.toNat
  if n % 65536 = 0 then n / 65536 else n / 65536 + 1

namespace State

/-! What registers show. -/

/-- Sectors that the codec saves at present (Table 8.11). -/
def codecSaved (s : State) : Nat :=
  s.tier.allocs.foldl (fun n (x : Nat × Alloc) => x.2.dir.foldl (fun n (y : Nat × DirEntry) =>
    if y.2.compressed && y.2.housed then
      n + (128 - y.2.sectors)
    else n) n) 0

/-- State of a district as SERVING_DIST_STATUS shows it (Table 5.13). -/
def distShown (s : State) (d : Nat) : Nat :=
  let st := s.distState d
  if 4 ≤ st then st
  else
    let here (w : Press) : Bool := (rectDistricts w.origin (s.imgW w.image) (s.imgH w.image)).contains d
    if s.seams.presses.any (fun w => w.phase == 1 && here w) then 3
    else if s.seams.presses.any (fun w => w.phase == 0 && here w) then 2
    else if (coresOf (1 <<< d)).any (fun c => s.coreState c == 1) then 1 else 0

/-- The expert that SERVING_EXPERT_SEL selects: capacity and used count (Table 12.10). -/
def expertShown (s : State) : Nat :=
  let v := s.rd Reg.SERVING_EXPERT_SEL
  let l := bits v 12 6
  let e := bits v 5 0
  if bit v 31 then
    let n := bits v 30 15
    let m := s.ent 3 n 2 2
    s.expertCapacity m l * 65536 + s.expertUsed (2 ^ 23 + (n * 128 + l) * 8 + e % 8)
  else
    let m := bits v 24 15
    s.expertCapacity m l * 65536 + s.expertUsed ((m * 128 + l) * 64 + e)

/-- Heartbeat age in units of 100 ms, saturating (Table 17.12). -/
def beatAge (s : State) : Nat := match s.power.beatAt with
  | none => 0
  | some t => min 65535 ((s.now - t) / 10000000)

/-- The words of a log entry (R417). -/
def logWord (e : LogRec) (i : Nat) : Nat :=
  let b := leBytes 1 e.kind ++ leBytes 1 e.cp ++ leBytes 2 e.code ++ leBytes 4 e.count ++ leBytes 8 e.leg ++ e.body
  fieldAt b (4 * i) 4

/-- A register as it reads now, from its name and index: registers that show state held elsewhere are computed from it. -/
def shown (s : State) (name : String) (i : Nat) (raw : Nat) : Nat :=
  let t := s.rd Reg.SERVING_TENANT_SEL
  match name with
  | "LEG_COUNT_LO" => s.legCount % 2 ^ 32
  | "LEG_COUNT_HI" => s.legCount / 2 ^ 32
  | "CORE_STATUS" => withBits raw 3 0 (s.coreShown i)
  | "SERVING_STATUS" => s.queue.length * 65536 + s.serving.slots.length
  | "SERVING_PART_QUEUEDp" => (s.queuedOf i).length
  | "SERVING_PART_QROWSp" => s.qrows i % 2 ^ 32
  | "SERVING_PART_SLOTSp" => s.slotsHeld i
  | "SERVING_WL_ITEMS" => s.serving.items.length
  | "SERVING_TENANT_USED" => s.tenantUsed t % 2 ^ 32
  | "SERVING_TENANT_DEFICIT" => (BitVec.ofInt 32 (s.deficit t)).toNat
  | "SERVING_TENANT_BUDGET" => s.tenantBudget t
  | "SERVING_TENANT_FLAGS" => bits (s.tenantEntry t) 47 32
  | "SERVING_MODEL_RATE" => s.passLegsX16 (s.rd Reg.SERVING_MODEL_SEL) * 65536 + s.tplX16 (s.rd Reg.SERVING_MODEL_SEL)
  | "SERVING_PLAN_STATUS" => s.plansUsed
  | "SERVING_PLAN_DATAi" => s.ent 1 (s.rd Reg.SERVING_PLAN_SEL) (4 * i) 4
  | "SEAM_STATUS" => (s.seams.recs.filter (fun x => !(s.seamNodes x.2.actions).isEmpty || x.2.submitter == 8)).length * 65536 + s.seams.recs.length
  | "TIER_LARGE_GRANULES" => s.largeGranules
  | "TIER_LARGE_FREE" => s.largeFree
  | "TIER_DIR_USED" => s.dirUsed
  | "TIER_USEDp" => s.tierUsed i
  | "TIER_LEND_STATUS" => ceilDiv s.borrowedTotal 256 * 65536 + ceilDiv s.lentTotal 256
  | "TIER_CODEC_SAVED" => s.codecSaved / 256
  | "TIER_STREAM_INFLIGHT" => s.streamsHeld
  | "SERVING_RES_STATUS" => s.formingCount * 256 + s.residents.length
  | "SERVING_RES_CTR_OWNER" => s.ent 8 (s.rd Reg.SERVING_RES_CTR_SEL) 0 1
  | "SERVING_PART_STATEp" =>
    withBits (withBits raw 22 15 ((List.range 4096).filter (fun n => s.ent 8 n 0 1 == 0x80 + i)).length) 11 9 (s.ctxsOf i).length
  | "SERVING_CTX_USEc" => withBits raw 18 16 (if s.ctxState i = 0 then 4 else s.ctxPriority i)
  | "SERVING_DIST_STATUS" =>
    withBits (withBits (withBits raw 2 0 (s.distShown i)) 7 7 (b2n (s.districtOwner i).isSome)) 12 8 ((s.districtOwner i).getD 0)
  | "CAUSEWAY_STATUS" => withBits raw 15 0 ((List.range 16).foldl (fun m p => if s.portState p = 3 then m + 2 ^ p else m) 0)
  | "CAUSEWAY_LOST_STATE" => match Tab.find? s.cause.lost (s.rd Reg.CAUSEWAY_LOST_SEL) with
    | some inc => 2 ^ 31 + inc % 65536
    | none => 0
  | "SERVING_EXPERT_USE" => s.expertShown
  | "FW_LOG_DATAi" => match Tab.find? s.host.log (s.rd Reg.FW_LOG_SEL) with
    | some e => logWord e i
    | none => 0
  | "STORE_FREE" => s.storeUsable - s.storeReserved
  | "POWER_BUDGET" => withBits raw 15 0 s.beatAge
  | "GLOBAL_SECURITY" =>
    let e := s.enclave
    e.storeEpoch * 2 ^ 24 + e.imageSvn % 64 * 2 ^ 16 + min 63 e.minSvn * 2 ^ 8 + bits raw 5 5 * 32 + e.bootBank * 16 +
      b2n e.pending.isSome * 8 + e.state
  | "GLOBAL_DSN_LO" => s.serial.toNat % 2 ^ 32
  | "GLOBAL_DSN_HI" => s.serial.toNat / 2 ^ 32
  | _ => raw

/-- A register as it reads now. -/
def liveReg (s : State) (off : Nat) : Nat :=
  match findReg off with
  | none => if 0x48000 ≤ off ∧ off < 0x50000 then
      (match Tab.find? s.host.ring ((off - 0x48000) / 32) with
       | some (e, _) => fieldAt e.bytes ((off - 0x48000) % 32) 4
       | none => 0)
    else 0
  | some r =>
    let i := (r.index? off).getD 0
    let c := (off - 0x800000) / 0x1000
    if r.name == "CORE_AMAXi" then
      let a (k : Nat) : Nat := bf16Up (Tab.get ({} : Amax) (s.core c).amax (2 * i + k)).previous
      a 1 * 65536 + a 0
    else s.shown r.name i (s.rd off)

/-- The block of an offset has come up: LPDDR from P3 and CAUSEWAY from its writes in P4 (Table 17.5). -/
def blockUp (s : State) (off : Nat) : Bool :=
  decide (3 ≤ s.phase) || !(decide (0x400000 ≤ off) && decide (off < 0x600000))

/-- A virtual function of partition `p` may read a register (Table 19.2). -/
def vfReads (s : State) (p : Nat) (r : RegDef) (i : Nat) : Bool :=
  match r.vf with
  | .all => true
  | .partition => i == p
  | .district => s.districtOwner i == some p
  | .context => s.ctxState i != 0 && s.ctxPart i == p
  | .counter => s.ent 8 i 0 1 == 0x80 + p
  | .none => false

/-- A word of the MSI-X table or PBA, as the reading function sees its own (Table 15.19). -/
def msixWord (s : State) (fn off : Nat) : Nat :=
  let n := if fn = 0 then 34 else 1
  if off < 0x39000 then
    let v := (off - 0x38000) / 16
    let x := s.vector fn v
    if n ≤ v then 0
    else [x.addr.toNat % 2 ^ 32, x.addr.toNat / 2 ^ 32, x.data.toNat, b2n x.masked].getD ((off - 0x38000) % 16 / 4) 0
  else
    let w := (off - 0x39000) / 4
    (List.range 32).foldl (fun m k => if 32 * w + k < n ∧ (s.vector fn (32 * w + k)).pending then m + 2 ^ k else m) 0

/-- A 4-byte read of BAR0 by a function; none where the function does not respond (R490 to R492, R498). -/
def readWord (s : State) (fn off : Nat) : Option Nat :=
  if s.barOpen fn = false then none
  else if 0x38000 ≤ off ∧ off < 0x3A000 then some (s.msixWord fn off)
  else match findReg off with
    | none => some (if fn = 0 then s.liveReg off else 0)
    | some r =>
      let i := (r.index? off).getD 0
      if fn ≠ 0 ∧ s.vfReads (fn - 1) r i = false then some 0
      else if s.blockUp off = false then some (resetWord s.part off).toNat
      else if fn = 0 ∧ r.snap then
        match s.snap with
        | some t => some (Tab.get 0 t off).toNat
        | none => some (s.liveReg off)
      else some (s.liveReg off)

/-- A read of an alias word (R501). -/
def readAlias (s : State) (fn off : Nat) : Option Nat :=
  let k := (off - 0x2000000) / 4
  (s.readWord fn (k / 8 / 4 * 4)).map (fun v => bits v (k / 8 % 4 * 8 + k % 8) (k / 8 % 4 * 8 + k % 8))

/-! Snapshot (R497 to R499). -/

/-- Offsets of the registers of a row of the map. -/
def rowOffsets (r : RegDef) : List Nat :=
  let one := (List.range r.count).map (fun i => r.base + r.stride * i)
  if r.core then (List.range 1024).flatMap (fun c => one.map (· + 0x1000 * c)) else one

/-- SNAP_TAKE (R497): every snapshot register copied. -/
def snapTake (s : State) : State :=
  let t : Tab W32 := (regTable.filter (·.snap)).foldl (fun t r =>
    (rowOffsets r).foldl (fun t off => Tab.put 0 t off (BitVec.ofNat 32 (s.liveReg off))) t) []
  let s : State := { s with snap := some t }
  let s := (s.setFld Reg.SNAP_STATUS 31 31 1).setFld Reg.SNAP_STATUS 15 0 (s.fld Reg.SNAP_STATUS 15 0 + 1)
  ((s.wr Reg.SNAP_LEG_LO s.legCount).wr Reg.SNAP_LEG_HI (s.legCount / 2 ^ 32)).wr Reg.SNAP_OFFSET s.leg.sub

/-- SNAP_RELEASE (R498). -/
def snapRelease (s : State) : State := ({ s with snap := none }).setFld Reg.SNAP_STATUS 31 31 0

/-! Writes. -/

/-- A value of a field is a reserved encoding, by register and lowest bit of the field (the field tables of each block). -/
def fieldBad (name : String) (lo v : Nat) : Bool :=
  let out (lo hi : Nat) : Bool := decide (v < lo) || decide (hi < v)
  match name with
  | "LEG_PERIOD_NEXT" => out 125 16000
  | "POWER_KW_FLOOR" => out 0 1700
  | "POWER_KW_FALL" => out 10 1700
  | "POWER_CAP" => out 800 1700
  | "CORE_AUDIT_CTRL" => out 16 65536
  | "CORE_AUDIT_THRESH" => if lo = 24 ∨ lo = 8 then out 1 64 else out 1 15
  | "SERVING_DIST_WRING_CTRL" => decide (lo = 8) && v == 0
  | "SERVING_PLAN_CTRL" => out 1600 80000
  | "SERVING_SCHED" => decide (lo = 8) && decide (v < 16)
  | "SEAM_CTRL" => decide (lo = 0) && decide (v < 10)
  | "SERVING_PREFIX_CTRL" => decide (lo = 0) && out 16 24
  | "SERVING_EXPERT_CTRL" => if lo = 16 then out 1 32 else decide (4000 < v)
  | "TIER_SCRUB_CTRL" => decide (lo = 0) && v == 0
  | "MAILBOX_CTRL" => decide (1000 < v)
  | "STORE_SCRUB_CTRL" => decide (lo = 0) && out 1 90
  | "LPDDR_CTRL" => decide (lo = 0) && v == 0
  | "GLOBAL_PLL_CTRL" => v == 3
  | _ => false

/-- SERVING_EXPERT_SEL: a model takes ten bits, and a private expert's index three (Table 12.10). -/
def expertSelBad (v : Nat) : Bool := if bit v 31 then decide (7 < bits v 5 0) else bits v 30 25 != 0

/-- The word of a register after a write: fields take the value, keep theirs where it is reserved, or clear where 1 is written, each
by its access code (Table 0.4, R17). -/
def mergeWrite (r : RegDef) (old v : Nat) : Nat :=
  if r.name == "SERVING_EXPERT_SEL" && expertSelBad v then old
  else r.fields.foldl (fun w f =>
    let x := bits v f.hi f.lo
    match f.acc with
    | .RW | .RWS | .PW => if fieldBad r.name f.lo x then w else withBits w f.hi f.lo x
    | .W1C => withBits w f.hi f.lo (bits w f.hi f.lo - (bits w f.hi f.lo &&& x))
    | .RO | .WO => w) old

/-- Zeroes every register of a core from an offset of its window to another. -/
def zeroCore (s : State) (c lo hi : Nat) : State :=
  { s with regs := s.regs.filter (fun (x : Nat × W32) =>
      decide (x.1 < 0x800000 + 0x1000 * c + lo) || decide (0x800000 + 0x1000 * c + hi < x.1)) }

/-- LEG_CHANGE_AT (R33, R35). -/
def writeChangeAt (s : State) (v : Nat) : State :=
  if s.follows then s.setFld Reg.LEG_ERR 0 0 1
  else (s.wr Reg.LEG_CHANGE_AT v).armChange v (s.fld Reg.LEG_PERIOD_NEXT 13 0)

/-- LEG_PERIOD_NEXT (R34). -/
def writePeriodNext (s : State) (v : Nat) : State :=
  let n := bits v 13 0
  if n < 125 ∨ 16000 < n then s.setFld Reg.LEG_ERR 0 0 1 else s.setFld Reg.LEG_PERIOD_NEXT 13 0 n

/-- LEG_ERR.clear_max (R52). -/
def clearLegMax (s : State) : State := (s.wr Reg.LEG_SLIP_AGE_MAX 0).wr Reg.LEG_OVERRUN_MAX 0

/-- CORE_FAULT.valid written with 1 (R97). -/
def clearFault (s : State) (c : Nat) : State := (s.wr (Reg.CORE_FAULT c) 0).wr (Reg.CORE_FAULT_PC c) 0

/-- CORE_ARITH_CLEAR.counts (R133). -/
def clearCounts (s : State) (c : Nat) : State :=
  [Reg.CORE_ARITH_SAT c, Reg.CORE_ARITH_OVF c, Reg.CORE_ARITH_NAN c, Reg.CORE_ARITH_BADCODE c, Reg.CORE_AUDIT_DONE c,
    Reg.CORE_AUDIT_SKIPPED c, Reg.CORE_AUDIT_EXCEED c].foldl (fun s off => s.wr off 0) s
/-- CORE_ARITH_CLEAR.hist (R133). -/
def clearHist (s : State) (c : Nat) : State :=
  (List.range 16).foldl (fun s i => (s.wr (Reg.CORE_HIST_ARRAY c i) 0).wr (Reg.CORE_HIST_DRAIN c i) 0) s

/-- SERVING_DIST_WRING_CTRL: ignored while an operation runs, else its op begins (R162, R163, Table 5.13). -/
def writeWringCtrl (s : State) (r : RegDef) (d v : Nat) : State :=
  if s.fld (Reg.SERVING_DIST_WRING_STATUS d) 31 31 = 1 then s.setFld (Reg.SERVING_DIST_WRING_STATUS d) 30 30 1
  else
    let s := s.wr (Reg.SERVING_DIST_WRING_CTRL d) (mergeWrite r (s.rd (Reg.SERVING_DIST_WRING_CTRL d)) v)
    if bits v 1 0 = 1 then s.wring d else if bits v 1 0 = 2 then s.scanIn d else if bits v 1 0 = 3 then s.releaseDistrict d else s

/-- SERVING_PREFIX_CTRL: flush, and a new tree_log2 (R305). -/
def writePrefixCtrl (s : State) (r : RegDef) (v : Nat) : State :=
  let old := s.rd Reg.SERVING_PREFIX_CTRL
  let s := s.wr Reg.SERVING_PREFIX_CTRL (mergeWrite r old v)
  let s := if bit v 8 then s.prefixFlush else s
  if fieldBad r.name 0 (bits v 4 0) then s else s.prefixResizeAsked

/-- FW_RESTART: one bit restarts one processor; more are a reserved encoding (Table 15.20). -/
def writeRestart (s : State) (v : Nat) : State :=
  match (List.range 4).filter (fun c => bit v c) with
  | [c] => s.askRestart c
  | _ => s

/-- A write reaches a register: the fields change by their access codes, and the register's own action follows. -/
def reachReg (s : State) (off v : Nat) : State :=
  match findReg off with
  | none => s
  | some r =>
    let i := (r.index? off).getD 0
    let c := (off - 0x800000) / 0x1000
    let t := s.wr off (mergeWrite r (s.rd off) v)
    match r.name with
    | "LEG_PERIOD_NEXT" => s.writePeriodNext v
    | "LEG_CHANGE_AT" => s.writeChangeAt v
    | "LEG_SYNC" => s.setSyncMode (bits v 1 0)
    | "LEG_ERR" => if bit v 2 then t.clearLegMax else t
    | "CORE_FAULT" => if bit v 31 then s.clearFault c else s
    | "CORE_ARITH_CLEAR" =>
      let s := if bit v 0 then s.clearCounts c else s
      if bit v 1 then s.clearHist c else s
    | "SERVING_DIST_WRING_CTRL" => s.writeWringCtrl r i v
    | "SERVING_PLAN_CTRL" => if fieldBad r.name 0 (bits v 16 0) ∨ t.cpUp 0 = false then t else t.replanAll
    | "SERVING_SCHED" => if bit v 24 then t.wr Reg.SERVING_BUILD_TIME 0 else t
    | "SERVING_PREFIX_CTRL" => s.writePrefixCtrl r v
    | "SERVING_RES_CLEAR" => if bit v 0 then s.setFld Reg.SERVING_RES_FORM_TIME 15 0 0 else s
    | "TIER_STREAM_FAULT" =>
      if bit v 31 then ((s.wr Reg.TIER_STREAM_FAULT 0).wr Reg.TIER_STREAM_FAULT_TAG 0).wr Reg.TIER_STREAM_FAULT_ADDR 0 else s
    | "TIER_LEND_CTRL" => t.lendingOff
    | "SEAM_CTRL" => if bit v 16 then t.wr Reg.SEAM_LEDGER_TIME 0 else t
    | "CAUSEWAY_PORT_CTRL" => s.portCtrl i v
    | "CAUSEWAY_NODE" => s.setNode_ (bits v 11 0)
    | "FW_RESTART" => s.writeRestart v
    | "SNAP_CTRL" => if bits v 1 0 = 1 then s.snapTake else if bits v 1 0 = 2 then s.snapRelease else s
    | _ => t

/-- The slow domain of an offset, by its busy bit (Table 19.3). -/
def slowDomain (off : Nat) : Option Nat :=
  if off = 0x10 then some 0
  else if 0x400000 ≤ off ∧ off < 0x500000 then some 1
  else if 0x500000 ≤ off ∧ off < 0x600000 then some 2
  else if 0x600000 ≤ off ∧ off < 0x700000 then some 3 else none

/-- A host write to a slow domain is accepted, or dropped while an earlier one is on its way (R494). -/
def postWrite (s : State) (n off v : Nat) : State :=
  if s.fld Reg.GLOBAL_DOMAIN_STATUS n n = 1 then s.setFld Reg.GLOBAL_DOMAIN_STATUS (16 + n) (16 + n) 1
  else ({ s with posted := Tab.set s.posted n (off, BitVec.ofNat 32 v) }).setFld Reg.GLOBAL_DOMAIN_STATUS n n 1

/-- POSTED_WRITE_APPLY (R494): the register takes the value, and busy clears. -/
def applyPosted (s : State) (n : Nat) : State :=
  match Tab.find? s.posted n with
  | none => s
  | some (off, v) =>
    (({ s with posted := Tab.erase s.posted n }).setFld Reg.GLOBAL_DOMAIN_STATUS n n 0).reachReg off v.toNat

/-- A word of the physical function's MSI-X table is written. -/
def writeMsix (s : State) (off v : Nat) : State :=
  let n := (off - 0x38000) / 16
  if 0x39000 ≤ off ∨ 34 ≤ n then s
  else (s.updVector 0 n (fun x =>
    let k := (off - 0x38000) % 16 / 4
    if k = 0 then { x with addr := BitVec.ofNat 64 (withBits x.addr.toNat 31 0 v) }
    else if k = 1 then { x with addr := BitVec.ofNat 64 (withBits x.addr.toNat 63 32 v) }
    else if k = 2 then { x with data := BitVec.ofNat 32 v } else { x with masked := bit v 0 })).sendPending 0

/-- A 4-byte write by the physical function. -/
def writeWord (s : State) (off v : Nat) : State :=
  if 0x38000 ≤ off ∧ off < 0x3A000 then s.writeMsix off v
  else if (findReg off).isNone ∨ s.blockUp off = false then s
  else match slowDomain off with
    | some n => s.postWrite n off v
    | none => s.reachReg off v

/-- A write of one bit through the alias, by the bit's access code (R501, R502). -/
def writeAliasBit (s : State) (off bitNo : Nat) (one : Bool) : State :=
  match findReg off with
  | none => s
  | some r =>
    match r.fields.find? (fun f => decide (f.lo ≤ bitNo) && decide (bitNo ≤ f.hi)) with
    | none => s
    | some f =>
      let keep := r.fields.foldl (fun w g => match g.acc with
        | .RW | .RWS | .PW => w
        | _ => withBits w g.hi g.lo 0) (s.rd off)
      match f.acc with
      | .RO => s
      | .W1C | .WO => if one then s.writeWord off (withBits keep bitNo bitNo 1) else s
      | .RW | .RWS | .PW => s.writeWord off (withBits keep bitNo bitNo (b2n one))

/-- ALIAS_WRITE: a 4-byte write at an alias word (R501). -/
def aliasWrite (s : State) (off v : Nat) : State :=
  let k := (off - 0x2000000) / 4
  s.writeAliasBit (k / 8 / 4 * 4) (k / 8 % 4 * 8 + k % 8) (bit v 0)

/-- A write to BAR0 by a function: `n` bytes at an offset (R490 to R492, R501). -/
def barWrite (s : State) (fn off n v : Nat) : State :=
  if s.barOpen fn = false then s
  else
    let inAlias := decide (0x2000000 ≤ off)
    let bad := (n != 4 && n != 8) || off % n != 0 || (inAlias && n != 4)
    let s := if bad then s.setFld Reg.GLOBAL_ACCESS_ERR 0 0 1 else s
    if fn ≠ 0 then s.setFld Reg.GLOBAL_ACCESS_ERR 1 1 1
    else if bad then s
    else if inAlias then s.aliasWrite off v
    else if n = 4 then s.writeWord off (v % 2 ^ 32)
    else if (slowDomain off).isSome ∨ (slowDomain (off + 4)).isSome then s
    else (s.writeWord off (v % 2 ^ 32)).writeWord (off + 4) (v / 2 ^ 32 % 2 ^ 32)

/-- LPDDR_RETRAIN (R507): a ready sub-channel is recalibrated, or retrained with `code` reported and `ce` corrected bursts met since;
one that fails three times in a row enters state failed. -/
def lpddrRetrain (s : State) (c code ce : Nat) (failed : Bool) : State :=
  if s.fld Reg.LPDDR_CTRL 8 8 = 0 ∨ s.subChannels ≤ c ∨ s.fld (Reg.LPDDR_SUB c) 31 28 ≠ 2 then s
  else
    let s := (s.setFld (Reg.LPDDR_SUB c) 27 25 code).setFld (Reg.LPDDR_SUB c) 15 0 (min 65535 (s.fld (Reg.LPDDR_SUB c) 15 0 + ce))
    let s := s.bump Reg.LPDDR_RETRAINS
    if failed then
      ((s.setFld (Reg.LPDDR_SUB c) 31 28 3).setFld Reg.LPDDR_STATUS 31 28 3).setFld Reg.LPDDR_STATUS 7 0 (s.fld Reg.LPDDR_STATUS 7 0 - 1)
    else s

end State

end Sys2Proof.Machine
end

