-- ==== Sys2Proof/Machine/Settle.lean ====
section
/-!
DEFINITION. What one block owes another at the end of a command, settled in order: faults met at a core by an arrival, presses that
failed, functions disabled by the module itself, ports, hosted experts, districts added to a partition.
-/
namespace Sys2Proof.Machine

namespace State

/-- Washes the cores of a district added to a partition (R325): scratchpad, accumulators, queues, semaphore counts and routes. -/
def washDistrict (s : State) (d : Nat) : State :=
  let s := (coresOf (1 <<< d)).foldl (fun s c =>
    let s : State := { s with cores := Tab.erase s.cores c }
    s.zeroCore c 0x100 0x1FC) s
  { s with net := { s.net with flight := s.net.flight.filter (fun f => districtOf f.core != d) } }

/-- One consequence. A fault that an arrival meets at a core records the index at which the core stands (log entry 128). -/
def settleOne (s : State) (d : Due) : State :=
  match d with
  | .fault core slot code => s.coreFault core slot code (s.core core).pc
  | .pressFailed c status => s.pressFailure c (some status)
  | .disable f => s.disableFn f false
  | .portDown p cause => s.portDown p cause
  | .portUp p => s.portCtrl p (s.fld (Reg.CAUSEWAY_PORT_CTRL p) 1 0 + 4)
  | .hostStop m _ => s.hostStop m
  | .expertOff m l e => s.expertOff m l e
  | .washDistrict d => s.washDistrict d

/-- Settles what is owed, first owed first; `fuel` bounds the number of consequences. -/
def settleAll : Nat → State → State
  | 0, s => { s with due := [] }
  | fuel + 1, s =>
    match s.due with
    | [] => s
    | d :: rest => settleAll fuel (({ s with due := rest } : State).settleOne d)

/-- Settles everything a command owes. -/
def settle (s : State) : State := settleAll 65536 s

end State

end Sys2Proof.Machine
end

