-- ==== Sys2Proof/Machine/Milestone.lean ====
section
/-!
DEFINITION. The milestone: the ordered steps of Table 2.2 (R30 to R52), with what each block does at its step.
-/
namespace Sys2Proof.Machine

namespace State

/-- The length of the leg under way, its phase correction apart, in 10 ns: its period, or, while the module follows the pin, what the edges
give it (R32, R35). -/
def legLength (s : State) : Nat :=
  if s.fld Reg.LEG_SYNC 1 0 = 2 ∧ s.fld Reg.LEG_SYNC_STATUS 1 1 = 0 then s.leg.edgeLen.getD (s.period * 100) else s.period * 100

/-- The milestone number by the module's own count: 0 at the first milestone after reset and one more at each later one (R30). -/
def ownNext (s : State) : W64 := if s.leg.counted then s.leg.count + 1 else s.leg.count

/-- The milestone number of the next instant: the one a timing message carried for it, else the module's own (R30, R38). -/
def nextCount (s : State) : W64 :=
  match s.leg.carried with
  | some (n, _) => BitVec.ofNat 64 n
  | none => s.ownNext

/-- The milestone number and the instant: the leg that ends had its length and its phase correction (R30 to R32, R35, R39). What a timing
message carried for the instant is adopted, and a number loaded is counted (R38). A follower expects a reference at each. -/
def nextLeg (s : State) : State :=
  let l := s.leg
  let t : State := { s with leg := { l with
      count := s.nextCount
      counted := true
      start := (Int.ofNat (l.start + s.legLength) + l.phase).toNat
      sub := 0
      phase := 0
      edgeLen := none
      carried := none
      missed := if 2 ≤ s.fld Reg.LEG_SYNC 1 0 then l.missed + 1 else 0 } }
  let t := if s.nextCount = s.ownNext then t
    else t.setFld Reg.LEG_SYNC_STATUS 31 24 (s.fld Reg.LEG_SYNC_STATUS 31 24 + 1)
  match l.carried with
  | some (_, some p) => t.setFld Reg.LEG_PERIOD 13 0 p
  | _ => t

/-- An armed change of period takes effect at the milestone it names (R33); while the module follows, its period is the source's and the
change has no effect (R35, log entry 123). -/
def takeChange (s : State) : State :=
  match s.leg.armed with
  | none => s
  | some (n, p) =>
    if n = s.legCount then
      let t : State := { s with leg := { s.leg with armed := none } }
      if s.follows then t else t.setFld Reg.LEG_PERIOD 13 0 p
    else s

/-- Items of the ending leg not finished become slip, in their order; finished ones leave the list (R49, R51, R52). Those that step 3
removes have been counted here (log entry 124). -/
def slipItems (s : State) : State :=
  let left := s.serving.items.filter (fun i => !i.done && !i.standing)
  let aged := left.map (fun i => { i with slip := true, slipAge := i.slipAge + 1 })
  let s : State := { s with serving := { s.serving with items := aged } }
  let s := aged.foldl (fun s i => s.bump (Reg.SERVING_PART_SLIP_ITEMS (s.ctxPart i.context))) s
  let parts := ((aged.map (fun i => s.ctxPart i.context)).eraseDups)
  let s := parts.foldl (fun s p => s.bump (Reg.SERVING_PART_SLIP_LEGS p)) s
  let s := s.bump Reg.LEG_SLIP_ITEMS aged.length
  let s := if aged.isEmpty then s else s.bump Reg.LEG_SLIP_LEGS
  s.keepMax Reg.LEG_SLIP_AGE_MAX (aged.foldl (fun m i => max m i.slipAge) 0)

/-- Every core running a tile is told to stop at its next tile boundary. -/
def stopCores (s : State) : State :=
  s.cores.foldl (fun s x => if s.coreState x.1 = 1 then s.updCore x.1 (fun k => { k with stop := true }) else s) s

/-- Step 1 (Table 2.2). -/
def stepOne (s : State) : State :=
  let s := (s.nextLeg).takeChange
  let s : State := { s with host := { s.host with perLeg := [] } }
  let s := ((s.sendMilestone).stopCores).latchSlots
  (((s.slipItems).latchSeams).latchPartitions).abortDemoting

/-- Step 2: the ledgers, then the other seams of timing 1. -/
def stepTwo (s : State) : State := (s.commitLedgers).milestoneSeams

/-- Step 3: cancellations and disablements, and ports that close (R47, R57, R378). -/
def stepDisable (s : State) : State := (s.stepThree).closePorts

/-- Step 4: committed partition entries come into force, the tables of the prefix index are placed, and the work list is built and
published (R276, R290, R324, R332). -/
def stepFour (s : State) : State :=
  let s := ((s.enforceEntries).placeHash).resizeTree
  let s : State := { s with expert := { s.expert with used := [] } }
  let s := (((s.build bayHolds).runSchedules).dropSaves).formWanted
  let s := s.pressSections
  s.takeAll s.workCores

/-- Step 2, 3 or 4, with the time it took where a register shows the longest (R262, R282). -/
def middleStep (f : MileFacts) (s : State) (n : Nat) : State :=
  if n = 2 then (s.stepTwo.keepMax Reg.SEAM_LEDGER_TIME (min 65535 f.ledgerTime)).settle
  else if n = 3 then s.stepDisable.settle
  else (s.stepFour.keepMax Reg.SERVING_BUILD_TIME f.buildTime).settle

/-- Steps `a` to `b` of 2 to 4, in order. -/
def middleSteps (f : MileFacts) (a b : Nat) (s : State) : State := (List.range' a (b + 1 - a)).foldl (middleStep f) s

/-- The late steps of an earlier milestone, which have completed after their bounds; its steps 5 and 6 have ended at theirs (R43). -/
def endEarlier (f : MileFacts) (s : State) : State :=
  match s.leg.owed with
  | none => s
  | some n => (middleSteps f n 4 { s with leg := { s.leg with owed := none } }).bump Reg.LEG_STEP_LATE (5 - n)

/-- Steps 1 to 6 in the order of their numbers, whichever processors run them (R42); steps that do not complete before the next instant are
owed to it, and steps 5 and 6 then end without effect (R43). -/
def milestoneSteps (s : State) (f : MileFacts) : State :=
  let s := if f.resumed then s.endHandOff else s
  let s := endEarlier f (s.stepOne).settle
  match f.unfinished with
  | some n =>
    let s := (middleSteps f 2 (n - 1) s).bump Reg.LEG_STEP_LATE f.late
    ({ s with leg := { s.leg with owed := some n } } : State).stepSix false
  | none =>
    let s := (middleSteps f 2 4 s).bump Reg.LEG_STEP_LATE f.late
    let s := (s.stepFive f.five).settle
    let s := if s.cpUp 0 then s.formWanted else s
    (s.stepSix f.sixDone).beginHandOff

/-- A state with the milestone number and instant of another. -/
def atInstant (s t : State) : State :=
  { t with leg := { t.leg with
      running := s.leg.running, count := s.leg.count, counted := s.leg.counted, start := s.leg.start, sub := s.leg.sub } }

/-- MILESTONE (R42): only its instant moves the count (R30 to R32); the timebase must run. -/
def milestone (s : State) (f : MileFacts) : State :=
  if s.leg.running = false then s else s.nextLeg.atInstant (s.milestoneSteps f).settle

end State

end Sys2Proof.Machine
end

