-- ==== Sys2Proof/Machine/Ops.lean ====
section
/-!
DEFINITION. How a command takes effect, by what it can reach, and the operations that commands share and no other file has.
-/
namespace Sys2Proof.Machine

namespace State

/-- A command takes effect, with everything it brings about elsewhere. It has no hand on the orderable part or on the queue. -/
def run (s : State) (f : State → State) : Host.Outcome State Fault Refusal :=
  .next { (f { s with due := [] }).settle with part := s.part, pending := s.pending, due := [] }

/-- A state with the life cycle, and what the enclave's one-way counters and fuses hold, as another has them. -/
def keepLife (s t : State) : State :=
  let e := s.enclave
  { t with enclave := { t.enclave with
      state := e.state, pending := e.pending, storeEpoch := e.storeEpoch, systemEpoch := e.systemEpoch
      minSvn := e.minSvn, revoked := e.revoked, ownerHash := e.ownerHash } }

/-- What a command does that is neither a token, nor a bundle, nor the start of the safe domain: no path leads from it to the life cycle
(R483, R484). -/
def plainly (f : State → State) (s : State) : State := s.keepLife (f s).settle

/-- What a command of the core die does: without the die's power nothing there moves, and it reaches neither the management endpoint
nor the test port. -/
def onDie (f : State → State) (s : State) : State :=
  if s.power.vmainGood then { (f s).settle with mgmt := s.mgmt, test := s.test } else s

/-- What a command of one core does: it reaches neither the timebase, nor power control, nor the enclave. -/
def onCore (f : State → State) (s : State) : State := { (f s).settle with leg := s.leg, power := s.power, enclave := s.enclave }

/-- A command outside the core die. -/
def runPlain (s : State) (f : State → State) : Host.Outcome State Fault Refusal := s.run (plainly f)

/-- A command of the core die. -/
def runDie (s : State) (f : State → State) : Host.Outcome State Fault Refusal := s.runPlain (onDie f)

/-- A command of one core. -/
def runCore (s : State) (f : State → State) : Host.Outcome State Fault Refusal := s.runDie (onCore f)

/-- A tile without a boundary for 80,000 cycles faults (R68): at the highest clock they take 50 µs. -/
def tileOvertime (s : State) (c : Nat) : State :=
  let k := s.core c
  if s.coreState c = 1 ∧ k.boundary.isNone = true ∧ k.tileStart + 5000 ≤ s.now then s.coreFault c (s.activeSlot c) 0x0B k.pc else s

/-- A transaction of a tree arrives by a port: forwarded, and delivered where the tree says so (R371). -/
def treeTxn (s : State) (port tree seq : Nat) (t : Txn) : State :=
  let (s, here) := s.treeArrives port tree seq t
  if here then s.deliverTxn t (some port) else s

end State

/-- A host message: the header of Table 15.6, then its body. -/
def hostMessage (type : Nat) (h : HostHead) : List Byte :=
  leBytes 1 h.major ++ leBytes 1 h.minor ++ leBytes 2 type ++ leBytes 2 h.length ++ leBytes 1 h.partByte ++ leBytes 1 h.status ++
    leBytes 4 h.seqNo ++ leBytes 4 h.reserved ++ h.body

/-- A p field is out of range (R72). -/
def pBad (x : Nat) : Bool := decide (16 ≤ x)

end Sys2Proof.Machine
end

