-- ==== Sys2Proof/Machine/ExecCauseway.lean ====
section
/-!
DEFINITION. Meanings: Causeway. One definition for each command, over the operations of the other files.
-/
namespace Sys2Proof.Machine

/-- FLIT_RECEIVE (R353): A port receives a flit and accepts or drops it, taking acks and credits. -/
def execFlitReceive (port : Fin 16) (flit : List Byte) (facts : FlitFacts) (s : State) : Host.Outcome State Fault Refusal :=
  s.runDie (fun s => (s.flitReceive port.val flit facts).sendIdle port.val)

/-- RETRY_REQUEST (R355): A sender receives a retry request and resends from the named seq. -/
def execRetryRequest (port : Fin 16) (seqNo : BitVec 12) (s : State) : Host.Outcome State Fault Refusal :=
  s.runDie (fun s => s.retryRequest port.val seqNo.toNat)

/-- RETRY_TIMER (R355): A expected seq not arrived within 2 µs triggers another retry request. -/
def execRetryTimer (port : Fin 16) (s : State) : Host.Outcome State Fault Refusal :=
  s.runDie (fun s => s.retryTimer port.val)

/-- LINK_STATE (R357): A port receives a link-state flit and updates training or readiness. -/
def execLinkState (port : Fin 16) (aux : BitVec 42) (s : State) : Host.Outcome State Fault Refusal :=
  s.runDie (fun s => s.linkState port.val aux.toNat)

/-- LINK_STATE_TIMER (R357): The periodic link-state flit is due. -/
def execLinkStateTimer (port : Fin 16) (s : State) : Host.Outcome State Fault Refusal :=
  s.runDie (fun s => s.linkStateTimer port.val)

/-- PORT_TRAINING_STEP (R358): A stage of port training completes. -/
def execPortTrainingStep (port : Fin 16) (stage : Fin 6) (lanes : BitVec 4) (s : State) : Host.Outcome State Fault Refusal :=
  s.runDie (fun s => s.trainingStep port.val stage.val lanes.toNat)

/-- PORT_DOWN (R379): A port goes down on timeout, lock or light loss, retry limit or closing. -/
def execPortDown (port : Fin 16) (cause : Fin 7) (s : State) : Host.Outcome State Fault Refusal :=
  s.runDie (fun s => s.portDown port.val cause.val)

/-- TRANSPORT_MESSAGE (R367): A transport message is received, ordered and acknowledged. -/
def execTransportMessage (message : Message) (via : Option (Fin 16)) (s : State) : Host.Outcome State Fault Refusal :=
  s.runDie (fun s => s.transportMessage message (via.map (·.val)))

/-- ACK_TIMER (R367): An ack-only message is due within 2 µs. -/
def execAckTimer (flow : FlowId) (s : State) : Host.Outcome State Fault Refusal :=
  s.runDie (fun s => s.ackTimer flow)

/-- RETRANSMIT_TIMER (R367): An unacknowledged message is retransmitted after 25 µs. -/
def execRetransmitTimer (flow : FlowId) (seqNo : W32) (s : State) : Host.Outcome State Fault Refusal :=
  s.runDie (fun s => s.retransmit flow seqNo.toNat)

/-- PROBE_START (R380): A port loss or 50 µs without ack starts a probe of a node. -/
def execProbeStart (node : Fin 4096) (s : State) : Host.Outcome State Fault Refusal :=
  s.runDie (fun s => s.probeStart node.val)

/-- PROBE (R380): A PROBE is answered by hardware with PROBE_REPLY. -/
def execProbe (node : Fin 4096) (s : State) : Host.Outcome State Fault Refusal :=
  s.runDie (fun s => s.probe node.val)

/-- PROBE_REPLY (R380): A PROBE_REPLY ends a probe. -/
def execProbeReply (node : Fin 4096) (incarnation : BitVec 16) (s : State) : Host.Outcome State Fault Refusal :=
  s.runDie (fun s => s.probeReply node.val incarnation.toNat)

/-- PROBE_TIMEOUT (R380): No PROBE_REPLY in 40 µs declares the node lost. -/
def execProbeTimeout (node : Fin 4096) (s : State) : Host.Outcome State Fault Refusal :=
  s.runDie (fun s => s.probeTimeout node.val)

/-- NODE_LOST (R382): A module acts on a loss notice and carries out Table 14.13. -/
def execNodeLost (node : Fin 4096) (incarnation : BitVec 16) (via : Option (Fin 16)) (s : State) : Host.Outcome State Fault Refusal :=
  s.runDie (fun s => s.nodeLostNotice node.val incarnation.toNat (via.map (·.val)))

/-- NODE_JOINED (R384): A node lost earlier rejoins with a new incarnation. -/
def execNodeJoined (node : Fin 4096) (incarnation : BitVec 16) (via : Option (Fin 16)) (s : State) : Host.Outcome State Fault Refusal :=
  s.runDie (fun s => s.nodeJoined node.val incarnation.toNat (via.map (·.val)))

/-- ISOLATION_TIMER (R383): No trained port for 100 µs makes the module isolated. -/
def execIsolationTimer (s : State) : Host.Outcome State Fault Refusal :=
  s.runDie (fun s => s.isolation)

/-- READ (R369): A far module serves or refuses a READ transaction. -/
def execRead (node : Fin 4096) (part : Fin 32) (txn : W32) (addr : FarAddr) (n : Nat) (s : State) : Host.Outcome State Fault Refusal :=
  s.runDie (fun s => s.readServe node.val part.val txn.toNat addr n)

/-- WRITE (R369): A far module serves or refuses a WRITE transaction. -/
def execWrite (node : Fin 4096) (part : Fin 32) (txn : W32) (addr : FarAddr) (data : List Byte) (s : State) : Host.Outcome State Fault Refusal :=
  s.runDie (fun s => s.writeServe node.val part.val txn.toNat addr data)

/-- MOVE_DATA (R368): A block of a cross-module move is received. -/
def execMoveData (node : Fin 4096) (part : Fin 32) (txn : W32) (h : BitVec 20) (g : Nat) (block : Fin 16) (data : List Byte) (s : State) : Host.Outcome State Fault Refusal :=
  s.runDie (fun s => s.moveBlock node.val part.val txn.toNat h.toNat g block.val data)

/-- MSG (R370): A MSG is delivered into the named partition's mailbox set. -/
def execMsg (node : Fin 4096) (set : Fin 32) (data : List Byte) (s : State) : Host.Outcome State Fault Refusal :=
  s.runDie (fun s => s.nodeMsg node.val set.val data)

/-- READ_DATA (R368): The data answering a READ arrives. -/
def execReadData (node : Fin 4096) (txn : W32) (data : List Byte) (s : State) : Host.Outcome State Fault Refusal :=
  s.runDie (fun s => s.readData node.val txn.toNat data)

/-- WRITE_ACK (R368): A WRITE is acknowledged. -/
def execWriteAck (node : Fin 4096) (txn : W32) (s : State) : Host.Outcome State Fault Refusal :=
  s.runDie (fun s => s.writeAck node.val txn.toNat)

/-- REFUSE (R369): A request is refused and reported as REMOTE_REFUSED. -/
def execRefuse (node : Fin 4096) (txn : W32) (s : State) : Host.Outcome State Fault Refusal :=
  s.runDie (fun s => s.remoteRefused node.val txn.toNat)

/-- MOVE_ACK (R368): A MOVE_DATA is acknowledged. -/
def execMoveAck (txn : W32) (s : State) : Host.Outcome State Fault Refusal :=
  s.runDie (fun s => s.moveAck txn.toNat)

/-- DELAY_TIMER (R375): Each end of a ready port sends a delay request every 1 ms. -/
def execDelayTimer (port : Fin 16) (s : State) : Host.Outcome State Fault Refusal :=
  s.runDie (fun s => s.delayTimer port.val)

/-- DELAY_REQUEST (R375): A delay request is answered with its turnaround. -/
def execDelayRequest (port : Fin 16) (turnaround : W32) (s : State) : Host.Outcome State Fault Refusal :=
  s.runDie (fun s => s.delayRequest port.val turnaround.toNat)

/-- DELAY_RESPONSE (R375): A delay response updates the averaged link delay. -/
def execDelayResponse (port : Fin 16) (trip : W32) (turnaround : W32) (s : State) : Host.Outcome State Fault Refusal :=
  s.runDie (fun s => s.delayResponse port.val trip.toNat turnaround.toNat)

/-- PORT_ENABLE (R376): Setting enable with a role starts a port. -/
def execPortEnable (port : Fin 16) (role : BitVec 2) (s : State) : Host.Outcome State Fault Refusal :=
  s.runDie (fun s => s.portCtrl port.val (role.toNat + 4))

/-- PORT_DISABLE (R378): Clearing enable closes a port at the next milestone's step 3. -/
def execPortDisable (port : Fin 16) (s : State) : Host.Outcome State Fault Refusal :=
  s.runDie (fun s => s.portCtrl port.val (s.fld (Reg.CAUSEWAY_PORT_CTRL port.val) 1 0))

/-- PORT_KILL (R378): Writing kill takes a port down at its next flit boundary. -/
def execPortKill (port : Fin 16) (s : State) : Host.Outcome State Fault Refusal :=
  s.runDie (fun s =>
    s.portCtrl port.val (s.fld (Reg.CAUSEWAY_PORT_CTRL port.val) 1 0 + s.fld (Reg.CAUSEWAY_PORT_CTRL port.val) 2 2 * 4 + 16))

/-- CAUSEWAY_NODE_WRITE (R360): A write sets the node ID while every port is down. -/
def execCausewayNodeWrite (node : Fin 4096) (s : State) : Host.Outcome State Fault Refusal :=
  s.runDie (fun s => s.setNode_ node.val)

end Sys2Proof.Machine
end

