-- ==== Sys2Proof/Machine/ExecHost.lean ====
section
/-!
DEFINITION. Meanings: the host interface and firmware. One definition for each command, over the operations of the other files.
-/
namespace Sys2Proof.Machine

/-- POSTED_WRITE_APPLY (R494): A posted slow-domain write reaches its register and clears busy. -/
def execPostedWriteApply (domain : Fin 4) (s : State) : Host.Outcome State Fault Refusal :=
  s.runPlain (fun s => s.applyPosted domain.val)

/-- MAILBOX_HANDOVER (R391): The host writes an ownership word to hand a slot over. -/
def execMailboxHandover (fn : Fin 33) (set : Fin 32) (slot : Fin 16) (area : List Byte) (word : W64) (s : State) : Host.Outcome State Fault Refusal :=
  s.runPlain (fun s => s.handover fn.val set.val slot.val area word)

/-- OUT_CONS_WRITE (R395): The host advances out_cons, or is refused and flagged. -/
def execOutConsWrite (fn : Fin 33) (set : Fin 32) (v : W32) (s : State) : Host.Outcome State Fault Refusal :=
  s.runPlain (fun s => s.outConsWrite fn.val set.val v)

/-- MSIX_HOLDOFF_EXPIRY (R398): A mailbox vector's hold-off expires and its MSI-X write is sent. -/
def execMsixHoldoffExpiry (fn : Fin 33) (vec : Fin 34) (s : State) : Host.Outcome State Fault Refusal :=
  s.runPlain (fun s => s.holdoffExpiry fn.val vec.val)

/-- HELLO (R400): A HELLO negotiates and opens a session. -/
def execHello (set : Fin 32) (fn : Fin 33) (head : HostHead) (s : State) : Host.Outcome State Fault Refusal :=
  s.runPlain (fun s => s.receive set.val fn.val (hostMessage 0x0001 head) none none)

/-- CANCEL (R280): A CANCEL names a request to be cancelled at the next step 3. -/
def execCancel (set : Fin 32) (fn : Fin 33) (head : HostHead) (s : State) : Host.Outcome State Fault Refusal :=
  s.runPlain (fun s => s.receive set.val fn.val (hostMessage 0x0011 head) none none)

/-- DATA_PUT (R404): A DATA_PUT writes host data into an allocation. -/
def execDataPut (set : Fin 32) (fn : Fin 33) (head : HostHead) (s : State) : Host.Outcome State Fault Refusal :=
  s.runPlain (fun s => s.receive set.val fn.val (hostMessage 0x0023 head) none none)

/-- DATA_GET (R404): A DATA_GET returns data of an allocation. -/
def execDataGet (set : Fin 32) (fn : Fin 33) (head : HostHead) (s : State) : Host.Outcome State Fault Refusal :=
  s.runPlain (fun s => s.receive set.val fn.val (hostMessage 0x0024 head) none none)

/-- SEAM (R401): A host SEAM message submits a seam. -/
def execSeam (set : Fin 32) (fn : Fin 33) (head : HostHead) (s : State) : Host.Outcome State Fault Refusal :=
  s.runPlain (fun s => s.receive set.val fn.val (hostMessage 0x0030 head) none none)

/-- SEAM_ABORT (R256): A host SEAM_ABORT requests unpicking a seam. -/
def execSeamAbort (set : Fin 32) (fn : Fin 33) (head : HostHead) (s : State) : Host.Outcome State Fault Refusal :=
  s.runPlain (fun s => s.receive set.val fn.val (hostMessage 0x0031 head) none none)

/-- DISABLE (R57): An ordinary disable of a function. -/
def execDisable (set : Fin 32) (fn : Fin 33) (head : HostHead) (s : State) : Host.Outcome State Fault Refusal :=
  s.runPlain (fun s => s.receive set.val fn.val (hostMessage 0x0040 head) none none)

/-- EMERGENCY_DISABLE (R58): An emergency disable stops a function at the next tile boundary. -/
def execEmergencyDisable (set : Fin 32) (fn : Fin 33) (head : HostHead) (s : State) : Host.Outcome State Fault Refusal :=
  s.runPlain (fun s => s.receive set.val fn.val (hostMessage 0x0040 head) none none)

/-- ENABLE (R59): A function is enabled again. -/
def execEnable (set : Fin 32) (fn : Fin 33) (head : HostHead) (s : State) : Host.Outcome State Fault Refusal :=
  s.runPlain (fun s => s.receive set.val fn.val (hostMessage 0x0041 head) none none)

/-- SET_LEG (R34): A SET_LEG message arms a period change. -/
def execSetLeg (set : Fin 32) (fn : Fin 33) (head : HostHead) (s : State) : Host.Outcome State Fault Refusal :=
  s.runPlain (fun s => s.receive set.val fn.val (hostMessage 0x0042 head) none none)

/-- SET_POWER (R461): A SET_POWER sets and persists the sustained cap. -/
def execSetPower (set : Fin 32) (fn : Fin 33) (head : HostHead) (s : State) : Host.Outcome State Fault Refusal :=
  s.runPlain (fun s => s.receive set.val fn.val (hostMessage 0x0043 head) none none)

/-- QUERY (R401): A QUERY returns the selected state. -/
def execQuery (set : Fin 32) (fn : Fin 33) (head : HostHead) (s : State) : Host.Outcome State Fault Refusal :=
  s.runPlain (fun s => s.receive set.val fn.val (hostMessage 0x0050 head) none none)

/-- EVENT_MASK (R416): An EVENT_MASK sets which events reach the set. -/
def execEventMask (set : Fin 32) (fn : Fin 33) (head : HostHead) (s : State) : Host.Outcome State Fault Refusal :=
  s.runPlain (fun s => s.receive set.val fn.val (hostMessage 0x0051 head) none none)

/-- FW_UPDATE (R419): A FW_UPDATE starts an update by state hand-off. -/
def execFwUpdate (set : Fin 32) (fn : Fin 33) (head : HostHead) (s : State) : Host.Outcome State Fault Refusal :=
  s.runPlain (fun s => s.receive set.val fn.val (hostMessage 0x0060 head) none none)

/-- CP_RESTART (R412): A CP_RESTART commands one processor to restart. -/
def execCpRestart (set : Fin 32) (fn : Fin 33) (head : HostHead) (s : State) : Host.Outcome State Fault Refusal :=
  s.runPlain (fun s => s.receive set.val fn.val (hostMessage 0x0061 head) none none)

/-- PF_FLR (R389): A physical function FLR resets its configuration and closes its sessions. -/
def execPfFlr (s : State) : Host.Outcome State Fault Refusal :=
  s.runPlain (fun s => s.pfFlr)

/-- VF_FLR (R389): A virtual function FLR closes its session and cancels its partition's requests. -/
def execVfFlr (vf : Fin 32) (s : State) : Host.Outcome State Fault Refusal :=
  s.runPlain (fun s => s.vfFlr vf.val)

/-- CP_WATCHDOG_EXPIRY (R410): A processor's watchdog expires, so it crashes and is reloaded. -/
def execCpWatchdogExpiry (cp : Fin 4) (s : State) : Host.Outcome State Fault Refusal :=
  s.runPlain (fun s => s.crash cp.val 1 0)

/-- CP_EXCEPTION (R410): An unrecoverable exception crashes a processor. -/
def execCpException (cp : Fin 4) (addr : W32) (s : State) : Host.Outcome State Fault Refusal :=
  s.runPlain (fun s => s.crash cp.val 2 addr.toNat)

/-- FW_RESTART_WRITE (R412): Writing FW_RESTART restarts one processor. -/
def execFwRestartWrite (fn : Fin 33) (v : W32) (own : Option (Fin 4)) (s : State) : Host.Outcome State Fault Refusal :=
  s.runPlain (fun s => match own with | some c => s.crash c.val 3 0 | none => s.barWrite fn.val Reg.FW_RESTART 4 v.toNat)

/-- CP_RESTART_DONE (R410): A restarted processor resumes duty and raises CP_RESTARTED. -/
def execCpRestartDone (cp : Fin 4) (s : State) : Host.Outcome State Fault Refusal :=
  s.runPlain (fun s => s.restartDone cp.val)

/-- FW_IMAGE_VERIFIED (R419): The enclave finishes verifying an update image. -/
def execFwImageVerified (s : State) : Host.Outcome State Fault Refusal :=
  s.runPlain (fun s => s.imageVerified)

/-- FW_HANDOFF_TIMEOUT (R420): A processor not resumed within 2 ms reverts the update. -/
def execFwHandoffTimeout (refused : Bool) (s : State) : Host.Outcome State Fault Refusal :=
  s.runPlain (fun s => s.handOffFailed refused)

end Sys2Proof.Machine
end

