-- ==== Sys2Proof/Machine/ExecMatrix.lean ====
section
/-!
DEFINITION. Meanings: matrix instructions. One definition for each command, over the operations of the other files.
-/
namespace Sys2Proof.Machine

/-- MCFG (R100): Set matrix operand formats and darning enable. -/
def execMcfg (core : BitVec 10) (low : BitVec 56) (s : State) : Host.Outcome State Fault Refusal :=
  s.runCore (fun s => State.issue 0x20 (fun w => resI w || mcfgBad w) bodyMcfg core low s)

/-- MLOADW (R76): Load a weight block into the inactive half of the weight store. -/
def execMloadw (core : BitVec 10) (low : BitVec 56) (s : State) : Host.Outcome State Fault Refusal :=
  s.runCore (fun s => State.issue 0x21 resR bodyMloadw core low s)

/-- MSWAP (R73): Make the inactive weight half active once loaded. -/
def execMswap (core : BitVec 10) (low : BitVec 56) (s : State) : Host.Outcome State Fault Refusal :=
  s.runCore (fun s => State.issue 0x22 resR bodyMswap core low s)

/-- MMAC (R109): Stream activation rows through the weight block into an accumulator tile. -/
def execMmac (core : BitVec 10) (low : BitVec 56) (s : State) : Host.Outcome State Fault Refusal :=
  s.runCore (fun s => State.issue 0x23 (fun w => bits w 20 0 != 0) bodyMmac core low s)

/-- MDARN (R113): Load darning rows for the next MMAC. -/
def execMdarn (core : BitVec 10) (low : BitVec 56) (s : State) : Host.Outcome State Fault Refusal :=
  s.runCore (fun s => State.issue 0x24 resR bodyMdarn core low s)

/-- MCLR (R73): Zero rows of an accumulator tile. -/
def execMclr (core : BitVec 10) (low : BitVec 56) (s : State) : Host.Outcome State Fault Refusal :=
  s.runCore (fun s => State.issue 0x25 resM bodyMclr core low s)

/-- DRAIN (R177): Pass tile rows through the finishing chain and convert them to scratchpad. -/
def execDrain (core : BitVec 10) (low : BitVec 56) (s : State) : Host.Outcome State Fault Refusal :=
  s.runCore (fun s => State.issue 0x30 resM bodyDrain core low s)

/-- AREAD (R73): Read an accumulator row into a vector register. -/
def execAread (core : BitVec 10) (low : BitVec 56) (s : State) : Host.Outcome State Fault Refusal :=
  s.runCore (fun s => State.issue 0x31 (fun w => resM w || vBad (iD w) || decide (iRows w ≠ 1)) bodyAread core low s)

/-- AWRITE (R73): Write or add a vector register into an accumulator row. -/
def execAwrite (core : BitVec 10) (low : BitVec 56) (s : State) : Host.Outcome State Fault Refusal :=
  s.runCore (fun s => State.issue 0x32 (fun w => resM w || vBad (iA w) || decide (iRows w ≠ 1)) bodyAwrite core low s)

end Sys2Proof.Machine
end

