-- ==== Sys2Proof/Machine/ExecMgmt.lean ====
section
/-!
DEFINITION. Meanings: management endpoint and enclave. One definition for each command, over the operations of the other files.
-/
namespace Sys2Proof.Machine

/-- MCTP_CONTROL (R405): An MCTP control message is answered. -/
def execMctpControl (command : BitVec 8) (data : BitVec 8) (s : State) : Host.Outcome State Fault Refusal :=
  s.runPlain (fun s => s.mctpControl command.toNat data.toNat)

/-- PLDM_COMMAND (R406): A PLDM monitoring command is answered, or refused before P4. -/
def execPldmCommand (op : PldmOp) (s : State) : Host.Outcome State Fault Refusal :=
  s.runPlain (fun s => s.pldm op)

/-- PLDM_FW_UPDATE (R405): A PLDM firmware update starts an update. -/
def execPldmFwUpdate (image : List Byte) (s : State) : Host.Outcome State Fault Refusal :=
  s.runPlain (fun s => s.pldmUpdate image)

/-- HEARTBEAT (R407): A heartbeat vendor message carries the power budget. -/
def execHeartbeat (budget : BitVec 11) (s : State) : Host.Outcome State Fault Refusal :=
  s.runPlain (fun s => s.heartbeat budget.toNat)

/-- HEARTBEAT_LOST (R407): No heartbeat for 3 s declares heartbeat loss. -/
def execHeartbeatLost (s : State) : Host.Outcome State Fault Refusal :=
  s.runPlain (fun s => s.heartbeatLost)

/-- SPDM_GET_VERSION (R479): SPDM GET_VERSION. -/
def execSpdmGetVersion (s : State) : Host.Outcome State Fault Refusal :=
  s.runPlain (fun s => s.spdm State.spdmVersion)

/-- SPDM_GET_CAPABILITIES (R479): SPDM GET_CAPABILITIES. -/
def execSpdmGetCapabilities (s : State) : Host.Outcome State Fault Refusal :=
  s.runPlain (fun s => s.spdm State.spdmCapabilities)

/-- SPDM_NEGOTIATE_ALGORITHMS (R479): SPDM NEGOTIATE_ALGORITHMS. -/
def execSpdmNegotiateAlgorithms (s : State) : Host.Outcome State Fault Refusal :=
  s.runPlain (fun s => s.spdm State.spdmAlgorithms)

/-- SPDM_GET_DIGESTS (R479): SPDM GET_DIGESTS. -/
def execSpdmGetDigests (s : State) : Host.Outcome State Fault Refusal :=
  s.runPlain (fun s => s.spdm State.spdmDigests)

/-- SPDM_GET_CERTIFICATE (R479): SPDM GET_CERTIFICATE from slot 0. -/
def execSpdmGetCertificate (slot : BitVec 8) (off : BitVec 16) (n : BitVec 16) (s : State) : Host.Outcome State Fault Refusal :=
  s.runPlain (fun s => s.spdm (State.spdmCertificate slot.toNat off.toNat n.toNat))

/-- SPDM_CHALLENGE (R479): SPDM CHALLENGE. -/
def execSpdmChallenge (slot : BitVec 8) (nonce : List Byte) (s : State) : Host.Outcome State Fault Refusal :=
  s.runPlain (fun s => s.spdm (State.spdmChallenge slot.toNat nonce))

/-- SPDM_GET_MEASUREMENTS (R480): SPDM GET_MEASUREMENTS signed by the Alias key. -/
def execSpdmGetMeasurements (index : BitVec 8) (nonce : List Byte) (s : State) : Host.Outcome State Fault Refusal :=
  s.runPlain (fun s => s.spdm (State.spdmMeasurements index.toNat nonce))

/-- LC_STATUS (R482): Returns life-cycle state and identity. -/
def execLcStatus (s : State) : Host.Outcome State Fault Refusal :=
  s.runPlain (fun s => s.lcStatus)

/-- LC_NONCE (R482): Returns a fresh nonce. -/
def execLcNonce (s : State) : Host.Outcome State Fault Refusal :=
  s.runPlain (fun s => s.lcNonce)

/-- LC_NONCE_EXPIRY (R482): A nonce expires after 60 s. -/
def execLcNonceExpiry (s : State) : Host.Outcome State Fault Refusal :=
  s.runPlain (fun s => s.nonceExpiry)

/-- LC_TOKEN (R483): A signed token requests a transition, SVN_COMMIT or key revocation. -/
def execLcToken (token : LcToken) (s : State) : Host.Outcome State Fault Refusal :=
  s.run (fun s => s.lcToken token)

/-- PROVISION (R483): A signed bundle provisions owner key and configuration. -/
def execProvision (bundle : LcBundle) (s : State) : Host.Outcome State Fault Refusal :=
  s.run (fun s => s.provision bundle)

end Sys2Proof.Machine
end

