-- ==== Sys2Proof/Machine/ExecNet.lean ====
section
/-!
DEFINITION. Meanings: cores and networks beside instructions: registers, arrivals, presses, wrings, descriptors. One definition for each command, over the operations of the other files.
-/
namespace Sys2Proof.Machine

/-- CORE_FAULT_CLEAR (R97): Writing valid clears the fault record and CORE_FAULT_PC. -/
def execCoreFaultClear (fn : Fin 33) (core : BitVec 10) (v : W32) (s : State) : Host.Outcome State Fault Refusal :=
  s.runPlain (fun s => s.barWrite fn.val (Reg.CORE_FAULT core.toNat) 4 v.toNat)

/-- CORE_ARITH_CLEAR_COUNTS (R133): Writing counts clears the arithmetic and audit counters. -/
def execCoreArithClearCounts (fn : Fin 33) (core : BitVec 10) (v : W32) (s : State) : Host.Outcome State Fault Refusal :=
  s.runPlain (fun s => s.barWrite fn.val (Reg.CORE_ARITH_CLEAR core.toNat) 4 v.toNat)

/-- CORE_ARITH_CLEAR_HIST (R133): Writing hist clears both audit histograms. -/
def execCoreArithClearHist (fn : Fin 33) (core : BitVec 10) (v : W32) (s : State) : Host.Outcome State Fault Refusal :=
  s.runPlain (fun s => s.barWrite fn.val (Reg.CORE_ARITH_CLEAR core.toNat) 4 v.toNat)

/-- FLIT_ENTER_QUEUE (R149): A flit or token reaches an input or steering queue and is epoch-checked. -/
def execFlitEnterQueue (core : BitVec 10) (net : Fin 3) (chan : Fin 16) (s : State) : Host.Outcome State Fault Refusal :=
  s.runDie (fun s => s.flitEnter core.toNat net.val chan.val)

/-- SEM_POST_ARRIVAL (R89): A post arrives at a semaphore pair and is applied or dropped. -/
def execSemPostArrival (core : BitVec 10) (pair : Fin 64) (room : Bool) (s : State) : Host.Outcome State Fault Refusal :=
  s.runDie (fun s => s.semArrive core.toNat pair.val room)

/-- STEERING_FIRE (R147): A steering unit fires once its token, data and room are present. -/
def execSteeringFire (core : BitVec 10) (unit : Fin 4) (s : State) : Host.Outcome State Fault Refusal :=
  s.runDie (fun s => s.steerFire core.toNat unit.val)

/-- EPOCH_ADVANCE (R150): A slot's epoch advances and its queued entries are flushed, after any blocking descriptor completes. -/
def execEpochAdvance (d : Fin 64) (slot : Fin 4) (s : State) : Host.Outcome State Fault Refusal :=
  s.runDie (fun s => s.epochAdvance d.val slot.val)

/-- STALL (R164): A district without movement for 65,536 cycles raises STALL and aborts its tasks. -/
def execStall (d : Fin 64) (s : State) : Host.Outcome State Fault Refusal :=
  s.runDie (fun s => s.stall d.val)

/-- PRESS_COMMIT (R158): A press commits in the first cycle every district is quiet. -/
def execPressCommit (k : Fin 256) (s : State) : Host.Outcome State Fault Refusal :=
  s.runDie (fun s => s.pressQuiet k.val)

/-- PRESS_NOT_QUIET (R158): Quiet not reached within 100 µs, so the press is unpicked. -/
def execPressNotQuiet (k : Fin 256) (s : State) : Host.Outcome State Fault Refusal :=
  s.runDie (fun s => s.pressNotQuiet k.val)

/-- PRESS_LOAD_COMPLETE (R159): Core records finish loading and the slot becomes valid. -/
def execPressLoadComplete (k : Fin 256) (failed : Bool) (s : State) : Host.Outcome State Fault Refusal :=
  s.runDie (fun s => s.pressLoadEnd k.val failed)

/-- WRING (R162): A write of op 0b01 starts wringing a district. -/
def execWring (fn : Fin 33) (d : Fin 64) (v : W32) (s : State) : Host.Outcome State Fault Refusal :=
  s.runPlain (fun s => s.barWrite fn.val (Reg.SERVING_DIST_WRING_CTRL d.val) 4 v.toNat)

/-- WRING_DONE (R162): A wring ends with its record written and the district stopped. -/
def execWringDone (d : Fin 64) (s : State) : Host.Outcome State Fault Refusal :=
  s.runDie (fun s => s.wringDone d.val)

/-- SCAN_IN (R163): A write of op 0b10 restores a wring record into a stopped district. -/
def execScanIn (fn : Fin 33) (d : Fin 64) (v : W32) (s : State) : Host.Outcome State Fault Refusal :=
  s.runPlain (fun s => s.barWrite fn.val (Reg.SERVING_DIST_WRING_CTRL d.val) 4 v.toNat)

/-- DISTRICT_RELEASE (R163): A write of op 0b11 releases a stopped district. -/
def execDistrictRelease (fn : Fin 33) (d : Fin 64) (v : W32) (s : State) : Host.Outcome State Fault Refusal :=
  s.runPlain (fun s => s.barWrite fn.val (Reg.SERVING_DIST_WRING_CTRL d.val) 4 v.toNat)

/-- SERVING_PLAN_CTRL_WRITE (R182): A write of target_cycles makes CP0 recompute every resident context's plans. -/
def execServingPlanCtrlWrite (fn : Fin 33) (v : W32) (s : State) : Host.Outcome State Fault Refusal :=
  s.runPlain (fun s => s.barWrite fn.val (Reg.SERVING_PLAN_CTRL) 4 v.toNat)

/-- DESCRIPTOR_START (R191): A stream engine starts a descriptor's far requests once a slot or ordering allows. -/
def execDescriptorStart (core : BitVec 10) (write : Bool) (place : Fin 4) (s : State) : Host.Outcome State Fault Refusal :=
  s.runDie (fun s => s.descStart core.toNat write place.val)

/-- DESCRIPTOR_COMPLETE (R192): A descriptor completes, returns its ticket and makes its local post. -/
def execDescriptorComplete (core : BitVec 10) (write : Bool) (place : Fin 4) (facts : DescFacts) (s : State) : Host.Outcome State Fault Refusal :=
  s.runDie (fun s => s.descComplete core.toNat write place.val facts)

/-- FAR_POST (R192): A far post arrives at the far core's pair after the data. -/
def execFarPost (core : BitVec 10) (pair : Fin 64) (room : Bool) (s : State) : Host.Outcome State Fault Refusal :=
  s.runDie (fun s => s.farPost core.toNat pair.val room)

/-- REMOTE_TIMEOUT (R202): A REMOTE far request gets no response within 200 µs. -/
def execRemoteTimeout (node : Fin 4096) (txn : W32) (s : State) : Host.Outcome State Fault Refusal :=
  s.runDie (fun s => s.remoteTimeout node.val txn.toNat)

/-- DESCRIPTOR_SLOT_FREED (R204): A cancelled descriptor's engine slot is freed when its last far request returns. -/
def execDescriptorSlotFreed (core : BitVec 10) (write : Bool) (place : Fin 4) (s : State) : Host.Outcome State Fault Refusal :=
  s.runDie (fun s => s.descFreed core.toNat write place.val)

/-- TIER_STREAM_FAULT_CLEAR (R207): Writing valid clears the stream fault record, tag and address. -/
def execTierStreamFaultClear (fn : Fin 33) (v : W32) (s : State) : Host.Outcome State Fault Refusal :=
  s.runPlain (fun s => s.barWrite fn.val (Reg.TIER_STREAM_FAULT) 4 v.toNat)

end Sys2Proof.Machine
end

