-- ==== Sys2Proof/Machine/ExecPower.lean ====
section
/-!
DEFINITION. Meanings: start, power and thermal control, pins. One definition for each command, over the operations of the other files.
-/
namespace Sys2Proof.Machine

/-- VAUX_GOOD (R450): VAUX becomes good and P0 begins. -/
def execVauxGood (s : State) : Host.Outcome State Fault Refusal :=
  s.run (fun s => s.vauxGoodNow)

/-- P1_COMPLETE (R450): Boot verification and store reading complete, ending P1. -/
def execP1Complete (found : StartFound) (s : State) : Host.Outcome State Fault Refusal :=
  s.runPlain (fun s => s.p1Complete found)

/-- START_GRANT_ASSERT (R451): START_GRANT is asserted and P2 begins. -/
def execStartGrantAssert (s : State) : Host.Outcome State Fault Refusal :=
  s.runPlain (fun s => s.grantAssert)

/-- START_GRANT_WITHDRAW (R449): START_GRANT deasserted for 1 ms triggers the power-fail save. -/
def execStartGrantWithdraw (s : State) : Host.Outcome State Fault Refusal :=
  s.runPlain (fun s => s.grantWithdraw)

/-- VMAIN_GOOD (R451): Core-die rails come into regulation and washes and the timebase start. -/
def execVmainGood (s : State) : Host.Outcome State Fault Refusal :=
  s.runPlain (fun s => s.vmainGoodNow)

/-- PCIE_LINK_UP (R452): The PCI Express endpoint finishes training. -/
def execPcieLinkUp (s : State) : Host.Outcome State Fault Refusal :=
  s.runPlain (fun s => s.linkUpNow)

/-- PERST_N_DEASSERT (R452): PERST_N is deasserted and the endpoint may train. -/
def execPerstDeassert (s : State) : Host.Outcome State Fault Refusal :=
  s.runPlain (fun s => s.perstDeassert)

/-- PERST_N_ASSERT (R452): An assertion of PERST_N after its first deassertion resets the module. -/
def execPerstAssert (s : State) : Host.Outcome State Fault Refusal :=
  s.run (fun s => s.perstAssert)

/-- P2_COMPLETE (R451): Tables and registers are set and the fallback pattern serves. -/
def execP2Complete (press : Option (BitVec 8)) (s : State) : Host.Outcome State Fault Refusal :=
  s.runPlain (fun s => s.p2Complete (press.map (·.toNat)))

/-- P3_COMPLETE (R451): LPDDR6 trained, save applied and directory rebuilt. -/
def execP3Complete (failed : List (Fin 128)) (s : State) : Host.Outcome State Fault Refusal :=
  s.runPlain (fun s => s.p3Complete (failed.map (·.val)))

/-- P4_COMPLETE (R454): Ports and synchronisation settle and full serving begins. -/
def execP4Complete (s : State) : Host.Outcome State Fault Refusal :=
  s.runPlain (fun s => s.p4Complete)

/-- POWER_SAMPLE (R461): Power and Tj are sampled every 10 µs and the hardware clamps act. -/
def execPowerSample (sample : PowerSample) (s : State) : Host.Outcome State Fault Refusal :=
  s.runPlain (fun s => s.powerSample sample)

/-- CLAMP_RELEASE (R465): A clamp condition clear for 1 ms releases its ceiling. -/
def execClampRelease (power : Bool) (s : State) : Host.Outcome State Fault Refusal :=
  s.runPlain (fun s => s.clampRelease power)

/-- PWRFAIL_N_ASSERT (R467): PWRFAIL_N asserted triggers the power-fail save. -/
def execPwrfailAssert (s : State) : Host.Outcome State Fault Refusal :=
  s.runPlain (fun s => s.pwrfailAssert)

/-- VMAIN_LOW (R467): VMAIN below 38 V for 2 µs triggers the save. -/
def execVmainLow (s : State) : Host.Outcome State Fault Refusal :=
  s.runPlain (fun s => s.vmainLow)

/-- VAUX_LOW (R467): VAUX below 10.8 V for 100 µs triggers the save. -/
def execVauxLow (s : State) : Host.Outcome State Fault Refusal :=
  s.runPlain (fun s => s.vauxLow)

/-- RESET_N_ASSERT (R456): RESET_N asserted runs the save and holds the module in P0. -/
def execResetAssert (s : State) : Host.Outcome State Fault Refusal :=
  s.run (fun s => s.resetAssert)

/-- RESET_N_DEASSERT (R456): RESET_N deasserted restarts the module. -/
def execResetDeassert (s : State) : Host.Outcome State Fault Refusal :=
  s.run (fun s => s.resetDeassert)

/-- SAVE_COMPLETE (R467): The save image is programmed and write protect is asserted. -/
def execSaveComplete (s : State) : Host.Outcome State Fault Refusal :=
  s.run (fun s => s.saveComplete)

/-- PWRFAIL_N_DEASSERT (R468): PWRFAIL_N deasserted with VMAIN good starts a new start after a save. -/
def execPwrfailDeassert (s : State) : Host.Outcome State Fault Refusal :=
  s.run (fun s => s.pwrfailDeassert)

/-- POWER_CAP_WRITE (R461): A write sets the sustained cap for the next step 6. -/
def execPowerCapWrite (fn : Fin 33) (v : W32) (s : State) : Host.Outcome State Fault Refusal :=
  s.runPlain (fun s => s.barWrite fn.val (Reg.POWER_CAP) 4 v.toNat)

/-- FL_SUPPLY_OVERCURRENT (R510): A store supply over its current for 1 ms is switched off. -/
def execFlSupplyOvercurrent (volts : Nat) (s : State) : Host.Outcome State Fault Refusal :=
  s.runPlain (fun s => s.supplyOver volts)

/-- LPDDR_RETRAIN (R507): A sub-channel is recalibrated or retrained, and fails after three attempts. -/
def execLpddrRetrain (chan : Fin 128) (code : Fin 8) (ce : Nat) (failed : Bool) (s : State) : Host.Outcome State Fault Refusal :=
  s.runDie (fun s => s.lpddrRetrain chan.val code.val ce failed)

end Sys2Proof.Machine
end

