-- ==== Sys2Proof/Machine/ExecQueues.lean ====
section
/-!
DEFINITION. Meanings: streams, semaphores, queues, work counters and statistics, and a tile that runs too long. One definition for each command, over the operations of the other files.
-/
namespace Sys2Proof.Machine

/-- SRD (R188): Issue a descriptor to the read stream engine. -/
def execSrd (core : BitVec 10) (low : BitVec 56) (s : State) : Host.Outcome State Fault Refusal :=
  s.runCore (fun s => State.issue 0x50 resR (bodyStream false) core low s)

/-- SWR (R188): Issue a descriptor to the write stream engine. -/
def execSwr (core : BitVec 10) (low : BitVec 56) (s : State) : Host.Outcome State Fault Refusal :=
  s.runCore (fun s => State.issue 0x51 resR (bodyStream true) core low s)

/-- SWAIT (R190): Wait until a descriptor ticket completes. -/
def execSwait (core : BitVec 10) (low : BitVec 56) (s : State) : Host.Outcome State Fault Refusal :=
  s.runCore (fun s => State.issue 0x52 resR bodySwait core low s)

/-- SEMPOST (R89): Add to a semaphore pair count. -/
def execSempost (core : BitVec 10) (low : BitVec 56) (s : State) : Host.Outcome State Fault Refusal :=
  s.runCore (fun s => State.issue 0x60 resI bodySempost core low s)

/-- SEMWAIT (R89): Wait for a semaphore count and subtract it. -/
def execSemwait (core : BitVec 10) (low : BitVec 56) (s : State) : Host.Outcome State Fault Refusal :=
  s.runCore (fun s => State.issue 0x61 resI bodySemwait core low s)

/-- SEMTRY (R89): Try to subtract a semaphore count without waiting. -/
def execSemtry (core : BitVec 10) (low : BitVec 56) (s : State) : Host.Outcome State Fault Refusal :=
  s.runCore (fun s => State.issue 0x62 (fun w => resI w || pBad (iD w)) bodySemtry core low s)

/-- QPUSH (R141): Push a scalar value to an output channel. -/
def execQpush (core : BitVec 10) (low : BitVec 56) (s : State) : Host.Outcome State Fault Refusal :=
  s.runCore (fun s => State.issue 0x70 resI bodyQpush core low s)

/-- QPOP (R141): Pop a scalar value from an input channel. -/
def execQpop (core : BitVec 10) (low : BitVec 56) (s : State) : Host.Outcome State Fault Refusal :=
  s.runCore (fun s => State.issue 0x71 resI bodyQpop core low s)

/-- CPUSH (R141): Push a control token. -/
def execCpush (core : BitVec 10) (low : BitVec 56) (s : State) : Host.Outcome State Fault Refusal :=
  s.runCore (fun s => State.issue 0x72 resI bodyCpush core low s)

/-- CPOP (R141): Pop a control token. -/
def execCpop (core : BitVec 10) (low : BitVec 56) (s : State) : Host.Outcome State Fault Refusal :=
  s.runCore (fun s => State.issue 0x73 resI bodyCpop core low s)

/-- VQPUSH (R141): Push a vector register as four flits. -/
def execVqpush (core : BitVec 10) (low : BitVec 56) (s : State) : Host.Outcome State Fault Refusal :=
  s.runCore (fun s => State.issue 0x74 (fun w => resI w || vBad (iA w)) bodyVqpush core low s)

/-- VQPOP (R141): Pop four flits into a vector register. -/
def execVqpop (core : BitVec 10) (low : BitVec 56) (s : State) : Host.Outcome State Fault Refusal :=
  s.runCore (fun s => State.issue 0x75 (fun w => resI w || vBad (iD w)) bodyVqpop core low s)

/-- CARM (R92): Arm a work counter. -/
def execCarm (core : BitVec 10) (low : BitVec 56) (s : State) : Host.Outcome State Fault Refusal :=
  s.runCore (fun s =>
    State.issue 0x80 (fun w => resI w || decide (bits (iImm w) 14 0 = 0) || decide (16384 < bits (iImm w) 14 0)) bodyCarm core low s)

/-- CFETCH (R92): Fetch tile indices from a work counter. -/
def execCfetch (core : BitVec 10) (low : BitVec 56) (s : State) : Host.Outcome State Fault Refusal :=
  s.runCore (fun s =>
    State.issue 0x81 (fun w => resI w || decide (bits (iImm w) 6 0 = 0) || decide (64 < bits (iImm w) 6 0)) bodyCfetch core low s)

/-- CDONE (R93): Complete a claimed index on a work counter. -/
def execCdone (core : BitVec 10) (low : BitVec 56) (s : State) : Host.Outcome State Fault Refusal :=
  s.runCore (fun s => State.issue 0x82 (fun w => resR w || pBad (iD w)) bodyCdone core low s)

/-- RDSTAT (R500): Read a live core statistic into a scalar. -/
def execRdstat (core : BitVec 10) (low : BitVec 56) (s : State) : Host.Outcome State Fault Refusal :=
  s.runCore (fun s => State.issue 0x90 (fun w => resI w || !statListed (bits (iImm w) 7 0)) bodyRdstat core low s)

/-- TILE_OVERTIME (R68): A tile reaches 80,000 cycles without a boundary and faults. -/
def execTileOvertime (core : BitVec 10) (s : State) : Host.Outcome State Fault Refusal :=
  s.runCore (fun s => s.tileOvertime core.toNat)

end Sys2Proof.Machine
end

