-- ==== Sys2Proof/Machine/ExecRegs.lean ====
section
/-!
DEFINITION. Meanings: registers without an action of their own, and the commands the table adds at its end. One definition for each command, over the operations of the other files.
-/
namespace Sys2Proof.Machine

/-- GLOBAL_PLL_CTRL_WRITE (R504): A posted write changes clock spreading. -/
def execGlobalPllCtrlWrite (fn : Fin 33) (v : W32) (s : State) : Host.Outcome State Fault Refusal :=
  s.runPlain (fun s => s.barWrite fn.val Reg.GLOBAL_PLL_CTRL 4 v.toNat)

/-- SNAP_TAKE (R497): Writing take copies every snapshot register in one cycle. -/
def execSnapTake (fn : Fin 33) (v : W32) (s : State) : Host.Outcome State Fault Refusal :=
  s.runPlain (fun s => s.barWrite fn.val (Reg.SNAP_CTRL) 4 v.toNat)

/-- SNAP_RELEASE (R498): Writing release ends the snapshot. -/
def execSnapRelease (fn : Fin 33) (v : W32) (s : State) : Host.Outcome State Fault Refusal :=
  s.runPlain (fun s => s.barWrite fn.val (Reg.SNAP_CTRL) 4 v.toNat)

/-- ALIAS_WRITE (R501): A bit-alias write changes one bit by its access code. -/
def execAliasWrite (fn : Fin 33) (off : Nat) (v : W32) (s : State) : Host.Outcome State Fault Refusal :=
  s.runPlain (fun s => s.barWrite fn.val off 4 v.toNat)

/-- REGISTER_WRITE (R490): A write to a register with no behaviour of its own. -/
def execRegisterWrite (fn : Fin 33) (off : Nat) (bytes : Nat) (v : W64) (s : State) : Host.Outcome State Fault Refusal :=
  s.runPlain (fun s => s.barWrite fn.val off bytes v.toNat)

/-- SCAN_IN_COMPLETE (R163): A scan-in finishes restoring its record within 20 µs, releases the district and clears busy. -/
def execScanInComplete (d : Fin 64) (s : State) : Host.Outcome State Fault Refusal :=
  s.runDie (fun s => s.scanInDone d.val)

/-- LASER_LIGHT_RESTORED (R358): Laser light returns at an enabled port's optical engine and training begins. -/
def execLaserLightRestored (port : Fin 16) (s : State) : Host.Outcome State Fault Refusal :=
  s.runDie (fun s => s.lightRestored port.val)

/-- VMAIN_AT_40_V (R511): VMAIN reaches 40 V after START_GRANT has counted as asserted, and P2 begins. -/
def execVmainAt40V (s : State) : Host.Outcome State Fault Refusal :=
  s.runPlain (fun s => s.vmainAt40)

/-- CONFIGURATION_REQUEST (R389): A PCI Express configuration request is answered, or gets Retry Status while resetting or starting. -/
def execConfigurationRequest (fn : Fin 33) (op : ConfigOp) (done : Bool) (s : State) : Host.Outcome State Fault Refusal :=
  s.runPlain (fun s => s.configRequest fn.val op done)

/-- DIRECTORY_COPY_REWRITTEN (R210): The rewrite of a bad directory copy completes and TIER_STATUS.dir_degraded clears. -/
def execDirectoryCopyRewritten (s : State) : Host.Outcome State Fault Refusal :=
  s.runDie (fun s => s.dirRewritten)

/-- MAP_PAGE_REBUILD_DONE (R437): CP1 finishes rebuilding a lost map page, clears STORE_STATUS.rebuild and releases waiting reads. -/
def execMapPageRebuildDone (page : Nat) (s : State) : Host.Outcome State Fault Refusal :=
  s.runPlain (fun s => s.mapRebuilt page)

/-- REPLICA_MADE (R222): A replica finishes being made by the prefetch scheduler or a PREFETCH move and becomes readable. -/
def execReplicaMade (object : W32) (version : W32) (g : Nat) (failed : Bool) (s : State) : Host.Outcome State Fault Refusal :=
  s.runDie (fun s => s.replicaMade object.toNat version.toNat g failed)

/-- BANK_RECORD_WRITTEN (R438): A bank record write completes, letting a kept-table seam leave state 4 or a SET_LEG/SET_POWER REPLY be
placed. -/
def execBankRecordWritten (kind : BitVec 8) (index : Nat) (failed : Bool) (s : State) : Host.Outcome State Fault Refusal :=
  s.runPlain (fun s => s.recordWritten kind.toNat index failed)

/-- WEIGHT_BROADCAST_START (R338): CP2 of the reader starts a weight broadcast of a published object's range over a tree. -/
def execWeightBroadcastStart (tree : Fin 256) (object : W32) (version : W32) (first : Nat) (count : Nat) (part : Fin 32) (tier : Fin 4) (rehoming : Bool) (s : State) : Host.Outcome State Fault Refusal :=
  s.runDie (fun s => s.broadcastStart tree.val object.toNat version.toNat first count part.val tier.val rehoming)

/-- TEST_PORT_INSTRUCTION (R481): An IEEE 1149.1 instruction arrives at the test port and is offered or refused by life-cycle state. -/
def execTestPortInstruction (instr : Fin 5) (s : State) : Host.Outcome State Fault Refusal :=
  s.runPlain (fun s => s.testInstr instr.val)

end Sys2Proof.Machine
end

