-- ==== Sys2Proof/Machine/ExecScalar.lean ====
section
/-!
DEFINITION. Meanings: sequencer and scalar instructions, and tile boundaries. One definition for each command, over the operations of the other files.
-/
namespace Sys2Proof.Machine

/-- NOP (R73): No operation. -/
def execNop (core : BitVec 10) (low : BitVec 56) (s : State) : Host.Outcome State Fault Refusal :=
  s.runCore (fun s => State.issue 0x00 resR bodyNop core low s)

/-- TBOUND (R67): A tile boundary instruction. -/
def execTbound (core : BitVec 10) (low : BitVec 56) (s : State) : Host.Outcome State Fault Refusal :=
  s.runCore (fun s => State.issue 0x01 resR (bodyBound false) core low s)

/-- END (R67): A tile boundary that ends the work item. -/
def execEnd_ (core : BitVec 10) (low : BitVec 56) (s : State) : Host.Outcome State Fault Refusal :=
  s.runCore (fun s => State.issue 0x02 resR (bodyBound true) core low s)

/-- TILE_BOUNDARY (R67): After in-flight instructions complete, the sequencer decides stop, wait, switch slot, next item or new tile.
-/
def execTileBoundary (core : BitVec 10) (work : TileFacts) (results : List (W64 × List Byte)) (s : State) : Host.Outcome State Fault Refusal :=
  s.runCore (fun s => (s.returnResults core.toNat results).atBoundary core.toNat work)

/-- BR (R73): Jump to a target. -/
def execBr (core : BitVec 10) (low : BitVec 56) (s : State) : Host.Outcome State Fault Refusal :=
  s.runCore (fun s => State.issue 0x03 (fun w => bits w 20 0 != 0) bodyBr core low s)

/-- LOOP (R70): Run a loop body a counted number of times. -/
def execLoop (core : BitVec 10) (low : BitVec 56) (s : State) : Host.Outcome State Fault Refusal :=
  s.runCore (fun s => State.issue 0x04 (fun _ => false) bodyLoop core low s)

/-- FENCE (R73): Wait until earlier scratchpad accesses complete. -/
def execFence (core : BitVec 10) (low : BitVec 56) (s : State) : Host.Outcome State Fault Refusal :=
  s.runCore (fun s => State.issue 0x05 resR bodyNop core low s)

/-- FAULT (R73): Raise PROGRAM_FAULT with a detail. -/
def execFault (core : BitVec 10) (low : BitVec 56) (s : State) : Host.Outcome State Fault Refusal :=
  s.runCore (fun s => State.issue 0x06 resI bodyFault core low s)

/-- ADD (R73): Scalar add. -/
def execAdd (core : BitVec 10) (low : BitVec 56) (s : State) : Host.Outcome State Fault Refusal :=
  s.runCore (fun s => State.issue 0x10 resR (bodyAlu (fun a b => a + b)) core low s)

/-- SUB (R73): Scalar subtract. -/
def execSub (core : BitVec 10) (low : BitVec 56) (s : State) : Host.Outcome State Fault Refusal :=
  s.runCore (fun s => State.issue 0x11 resR (bodyAlu (fun a b => a - b)) core low s)

/-- MUL (R73): Scalar multiply, low 64 bits. -/
def execMul (core : BitVec 10) (low : BitVec 56) (s : State) : Host.Outcome State Fault Refusal :=
  s.runCore (fun s => State.issue 0x12 resR (bodyAlu (fun a b => a * b)) core low s)

/-- AND (R73): Bitwise and. -/
def execAnd (core : BitVec 10) (low : BitVec 56) (s : State) : Host.Outcome State Fault Refusal :=
  s.runCore (fun s => State.issue 0x13 resR (bodyAlu (fun a b => a &&& b)) core low s)

/-- OR (R73): Bitwise or. -/
def execOr (core : BitVec 10) (low : BitVec 56) (s : State) : Host.Outcome State Fault Refusal :=
  s.runCore (fun s => State.issue 0x14 resR (bodyAlu (fun a b => a ||| b)) core low s)

/-- XOR (R73): Bitwise exclusive or. -/
def execXor (core : BitVec 10) (low : BitVec 56) (s : State) : Host.Outcome State Fault Refusal :=
  s.runCore (fun s => State.issue 0x15 resR (bodyAlu (fun a b => a ^^^ b)) core low s)

/-- SHL (R73): Logical shift left. -/
def execShl (core : BitVec 10) (low : BitVec 56) (s : State) : Host.Outcome State Fault Refusal :=
  s.runCore (fun s => State.issue 0x16 resR (bodyAlu (fun a b => a <<< (b.toNat % 64))) core low s)

/-- SHR (R73): Logical shift right. -/
def execShr (core : BitVec 10) (low : BitVec 56) (s : State) : Host.Outcome State Fault Refusal :=
  s.runCore (fun s => State.issue 0x17 resR (bodyAlu (fun a b => a >>> (b.toNat % 64))) core low s)

/-- MIN (R73): Unsigned minimum. -/
def execMin (core : BitVec 10) (low : BitVec 56) (s : State) : Host.Outcome State Fault Refusal :=
  s.runCore (fun s => State.issue 0x18 resR (bodyAlu (fun a b => if a.ult b then a else b)) core low s)

/-- MAX (R73): Unsigned maximum. -/
def execMax (core : BitVec 10) (low : BitVec 56) (s : State) : Host.Outcome State Fault Refusal :=
  s.runCore (fun s => State.issue 0x19 resR (bodyAlu (fun a b => if a.ult b then b else a)) core low s)

/-- ADDI (R73): Add a sign-extended immediate. -/
def execAddi (core : BitVec 10) (low : BitVec 56) (s : State) : Host.Outcome State Fault Refusal :=
  s.runCore (fun s => State.issue 0x1A resI bodyAddi core low s)

/-- MOVHI (R73): Set the high 32 bits of a scalar. -/
def execMovhi (core : BitVec 10) (low : BitVec 56) (s : State) : Host.Outcome State Fault Refusal :=
  s.runCore (fun s => State.issue 0x1B resI bodyMovhi core low s)

/-- CMP (R73): Compare scalars into a predicate. -/
def execCmp (core : BitVec 10) (low : BitVec 56) (s : State) : Host.Outcome State Fault Refusal :=
  s.runCore (fun s => State.issue 0x1C (fun w => resI w || pBad (iD w) || decide (5 < bits (iImm w) 2 0)) bodyCmp core low s)

/-- LDS (R73): Load 8 bytes from scratchpad. -/
def execLds (core : BitVec 10) (low : BitVec 56) (s : State) : Host.Outcome State Fault Refusal :=
  s.runCore (fun s => State.issue 0x1D resI bodyLds core low s)

/-- STS (R73): Store 8 bytes to scratchpad. -/
def execSts (core : BitVec 10) (low : BitVec 56) (s : State) : Host.Outcome State Fault Refusal :=
  s.runCore (fun s => State.issue 0x1E resI bodySts core low s)

/-- PLOG (R73): Predicate logic operation. -/
def execPlog (core : BitVec 10) (low : BitVec 56) (s : State) : Host.Outcome State Fault Refusal :=
  s.runCore (fun s => State.issue 0x1F (fun w => resI w || pBad (iD w) || pBad (iA w) || pBad (iB w)) bodyPlog core low s)

end Sys2Proof.Machine
end

