-- ==== Sys2Proof/Machine/ExecSeam.lean ====
section
/-!
DEFINITION. Meanings: seams. One definition for each command, over the operations of the other files.
-/
namespace Sys2Proof.Machine

/-- SEAM_SUBMIT (R238): A submitter opens a seam. -/
def execSeamSubmit (submitter : Fin 6) (scope : Option (Fin 32 × Fin 4)) (owner : Option (Fin 8192)) (reqId : W64) (timing : Bool) (actions : List (W64 × W64)) (s : State) : Host.Outcome State Fault Refusal :=
  s.runDie (fun s =>
    s.submit submitter.val (scope.map (fun (x : Fin 32 × Fin 4) => (x.1.val, x.2.val))) (owner.map (·.val)) reqId.toNat (b2n timing) actions)

/-- SEAM_LOCAL_PREPARE (R243): A seam, once its targets are free, tests its key and prepares its actions. -/
def execSeamLocalPrepare (k : Fin 256) (s : State) : Host.Outcome State Fault Refusal :=
  s.runDie (fun s => s.localPrepare k.val)

/-- SEAM_COMMIT_POINT (R252): A timing-0 seam commits once ready and its conditions hold, and its actions take effect. -/
def execSeamCommitPoint (k : Fin 256) (s : State) : Host.Outcome State Fault Refusal :=
  s.runDie (fun s => s.tryCommit k.val)

/-- SEAM_TIMEOUT (R252): A seam not closed within timeout_us is unpicked. -/
def execSeamTimeout (k : Fin 256) (s : State) : Host.Outcome State Fault Refusal :=
  s.runDie (fun s => s.seamTimeout k.val)

/-- SEAM_PREPARE (R257): A participant receives SEAM_PREPARE and opens and prepares its part. -/
def execSeamPrepare (node : Fin 4096) (id : W32) (scope : BitVec 8) (actions : List (W64 × W64)) (staged : List Byte) (s : State) : Host.Outcome State Fault Refusal :=
  s.runDie (fun s => s.seamPrepare node.val id.toNat scope.toNat actions staged)

/-- SEAM_READY (R257): The coordinator receives SEAM_READY. -/
def execSeamReady (node : Fin 4096) (id : W32) (s : State) : Host.Outcome State Fault Refusal :=
  s.runDie (fun s => s.seamReady node.val id.toNat)

/-- SEAM_REFUSE (R257): The coordinator receives SEAM_REFUSE and unpicks. -/
def execSeamRefuse (node : Fin 4096) (id : W32) (code : BitVec 8) (s : State) : Host.Outcome State Fault Refusal :=
  s.runDie (fun s => s.seamRefuse node.val id.toNat code.toNat)

/-- SEAM_COMMIT (R257): A participant receives SEAM_COMMIT and applies its part. -/
def execSeamCommit (node : Fin 4096) (id : W32) (s : State) : Host.Outcome State Fault Refusal :=
  s.runDie (fun s => s.seamCommit node.val id.toNat)

/-- SEAM_UNPICK (R257): A participant receives SEAM_UNPICK and releases its part. -/
def execSeamUnpick (node : Fin 4096) (id : W32) (code : BitVec 8) (s : State) : Host.Outcome State Fault Refusal :=
  s.runDie (fun s => s.seamUnpick node.val id.toNat code.toNat)

/-- SEAM_DONE (R257): The coordinator receives SEAM_DONE and frees its record after the last one. -/
def execSeamDone (node : Fin 4096) (id : W32) (status : BitVec 8) (s : State) : Host.Outcome State Fault Refusal :=
  s.runDie (fun s => s.seamDone node.val id.toNat status.toNat)

/-- SEAM_QUERY (R258): The coordinator answers a participant's SEAM_QUERY from its record. -/
def execSeamQuery (node : Fin 4096) (id : W32) (s : State) : Host.Outcome State Fault Refusal :=
  s.runDie (fun s => s.seamQuery node.val id.toNat)

/-- SEAM_QUERY_TIMER (R258): A ready participant without a decision for 500 µs sends SEAM_QUERY. -/
def execSeamQueryTimer (k : Fin 256) (s : State) : Host.Outcome State Fault Refusal :=
  s.runDie (fun s => s.queryTimer k.val)

/-- SEAM_PEER_TIMEOUT (R257): No participant answer within 200 µs unpicks the seam. -/
def execSeamPeerTimeout (k : Fin 256) (s : State) : Host.Outcome State Fault Refusal :=
  s.runDie (fun s => s.peerTimeout k.val)

/-- SEAM_CTRL_CLEAR_MAX (R262): Writing clear_max clears SEAM_LEDGER_TIME. -/
def execSeamCtrlClearMax (fn : Fin 33) (v : W32) (s : State) : Host.Outcome State Fault Refusal :=
  s.runPlain (fun s => s.barWrite fn.val (Reg.SEAM_CTRL) 4 v.toNat)

end Sys2Proof.Machine
end

