-- ==== Sys2Proof/Machine/ExecServing.lean ====
section
/-!
DEFINITION. Meanings: requests, the prefix index, experts, residency and broadcasts. One definition for each command, over the operations of the other files.
-/
namespace Sys2Proof.Machine

/-- REQUEST (R267): A REQUEST message is tested for admission and admitted or refused. -/
def execRequest (set : Fin 32) (fn : Fin 33) (head : HostHead) (cut : Option Nat) (s : State) : Host.Outcome State Fault Refusal :=
  s.runPlain (fun s => s.receive set.val fn.val (hostMessage 0x0010 head) none cut)

/-- PREFIX_INSERT (R292): After publication of a retired KV space, its blocks are inserted in the prefix index. -/
def execPrefixInsert (h : BitVec 20) (s : State) : Host.Outcome State Fault Refusal :=
  s.runDie (fun s => s.prefixInsert h.toNat)

/-- PREFIX_FLUSH (R305): Writing flush removes unreferenced prefix records. -/
def execPrefixFlush (fn : Fin 33) (v : W32) (s : State) : Host.Outcome State Fault Refusal :=
  s.runPlain (fun s => s.barWrite fn.val (Reg.SERVING_PREFIX_CTRL) 4 v.toNat)

/-- PREFIX_TREE_LOG2_WRITE (R305): A tree_log2 write empties unreferenced records and schedules a resize. -/
def execPrefixTreeLog2Write (fn : Fin 33) (v : W32) (s : State) : Host.Outcome State Fault Refusal :=
  s.runPlain (fun s => s.barWrite fn.val (Reg.SERVING_PREFIX_CTRL) 4 v.toNat)

/-- EXCHANGE_TAKE_BLOCK (R309): The expert exchange takes a dispatch block once it has room. -/
def execExchangeTakeBlock (ctx : Fin 64) (s : State) : Host.Outcome State Fault Refusal :=
  s.runDie (fun s => s.takeBlock ctx.val)

/-- CLAIM (R311): A host receives a CLAIM and opens or joins a settling window. -/
def execClaim (node : Fin 4096) (txn : W32) (part : Fin 32) (model : Fin 1024) (tags : List W64) (s : State) : Host.Outcome State Fault Refusal :=
  s.runDie (fun s =>
    s.expertClaim { node := node.val, txn := txn.toNat, part := part.val, model := model.val, tags := tags.map (fun t => (t, 0)) })

/-- EXPERT_WINDOW_SETTLE (R312): A settling window expires and grants choices in key order up to capacity. -/
def execExpertWindowSettle (key : Nat) (s : State) : Host.Outcome State Fault Refusal :=
  s.runDie (fun s => s.windowSettle key)

/-- GRANT (R314): A source receives a GRANT and sends rows of granted choices. -/
def execGrant (node : Fin 4096) (txn : W32) (granted : W64) (notResident : W64) (s : State) : Host.Outcome State Fault Refusal :=
  s.runDie (fun s => s.expertGrant node.val txn.toNat granted.toNat notResident.toNat)

/-- ROW (R314): A host receives a ROW and computes its granted choices. -/
def execRow (node : Fin 4096) (tags : List W64) (data : List Byte) (s : State) : Host.Outcome State Fault Refusal :=
  s.runDie (fun s => s.expertRow node.val tags data)

/-- RESULT (R314): A source receives a RESULT row for a choice. -/
def execResult (tag : W64) (data : List Byte) (s : State) : Host.Outcome State Fault Refusal :=
  s.runDie (fun s => s.expertResult tag data)

/-- FAILED (R320): A source receives FAILED and bypasses the choice. -/
def execFailed (tag : W64) (s : State) : Host.Outcome State Fault Refusal :=
  s.runDie (fun s => s.expertFailed tag)

/-- EXPERT_TIMEOUT (R317): A choice without a result after timeout_us is bypassed. -/
def execExpertTimeout (ctx : Fin 64) (off : Nat) (choice : Nat) (s : State) : Host.Outcome State Fault Refusal :=
  s.runDie (fun s => s.expertTimeout ctx.val off choice)

/-- PRIVATE_EXPERT_LOAD_DONE (R319): A private expert's load into the bay completes and it becomes resident. -/
def execPrivateExpertLoadDone (part : Fin 32) (object : W32) (version : W32) (e : Fin 8) (failed : Bool) (s : State) : Host.Outcome State Fault Refusal :=
  s.runDie (fun s => s.privateLoaded part.val object.toNat version.toNat e.val failed)

/-- FORMATION_MOVES_DONE (R335): Formation's moves and checks complete and the first press is opened. -/
def execFormationMovesDone (ctx : Fin 64) (s : State) : Host.Outcome State Fault Refusal :=
  s.runDie (fun s => s.formationMoved ctx.val)

/-- EVICTION_QUIET (R334): An evicting context's slot is quiet and is cleared. -/
def execEvictionQuiet (ctx : Fin 64) (s : State) : Host.Outcome State Fault Refusal :=
  s.runDie (fun s => s.evictionQuiet ctx.val)

/-- EVICTION_TIMEOUT (R334): An evicting slot not quiet in 100 µs is wrung and cleared. -/
def execEvictionTimeout (ctx : Fin 64) (s : State) : Host.Outcome State Fault Refusal :=
  s.runDie (fun s => s.evictionTimeout ctx.val)

/-- DEMOTION_SAVE_DONE (R346): A demoted context's share save completes and its slot is cleared. -/
def execDemotionSaveDone (ctx : Fin 64) (s : State) : Host.Outcome State Fault Refusal :=
  s.runDie (fun s => s.demotionSaved ctx.val)

/-- BCAST (R338): A receiver registers a broadcast granule as a replica and forwards it. -/
def execBcast (port : Fin 16) (tree : Fin 256) (seqNo : W32) (part : Fin 32) (object : W32) (version : W32) (g : Nat) (block : Fin 16) (tier : Fin 4) (rehoming : Bool) (data : List Byte) (s : State) : Host.Outcome State Fault Refusal :=
  s.runDie (fun s => s.treeTxn port.val tree.val seqNo.toNat
    { node := 4096 + tree.val, part := some part.val, flow := tree.val, op := 0x10, args := [tree.val, object.toNat, version.toNat, g, block.val, tier.val, b2n rehoming], data := data })

/-- BCAST_END (R339): A receiver checks the broadcast object's digest, and a rehoming broadcast flips home. -/
def execBcastEnd (port : Fin 16) (tree : Fin 256) (seqNo : W32) (part : Fin 32) (object : W32) (version : W32) (count : Nat) (first : Nat) (tier : Fin 4) (rehoming : Bool) (s : State) : Host.Outcome State Fault Refusal :=
  s.runDie (fun s => s.treeTxn port.val tree.val seqNo.toNat
    { node := 4096 + tree.val, part := some part.val, flow := tree.val, op := 0x11, args := [tree.val, object.toNat, version.toNat, count, first, tier.val, b2n rehoming], data := [] })

/-- BCAST_RESUME (R371): The root resends granules a receiver lacks. -/
def execBcastResume (node : Fin 4096) (tree : Fin 256) (object : W32) (version : W32) (g : Nat) (s : State) : Host.Outcome State Fault Refusal :=
  s.runDie (fun s => s.bcastResume node.val tree.val object.toNat version.toNat g)

/-- SERVING_RES_CLEAR (R348): Writing clear_max clears SERVING_RES_FORM_TIME. -/
def execServingResClear (fn : Fin 33) (v : W32) (s : State) : Host.Outcome State Fault Refusal :=
  s.runPlain (fun s => s.barWrite fn.val (Reg.SERVING_RES_CLEAR) 4 v.toNat)

end Sys2Proof.Machine
end

