-- ==== Sys2Proof/Machine/ExecStore.lean ====
section
/-!
DEFINITION. Meanings: the store's background work. One definition for each command, over the operations of the other files.
-/
namespace Sys2Proof.Machine

/-- GARBAGE_COLLECTION (R431): Store free blocks fall below threshold and garbage collection runs. -/
def execGarbageCollection (target : Nat) (freeNow : Nat) (units : Nat) (erased : Nat) (bad : Nat) (lo : Nat) (hi : Nat) (mean : Nat) (s : State) : Host.Outcome State Fault Refusal :=
  s.runPlain (fun s => s.askWork (.collect target freeNow units erased bad lo hi mean))

/-- STATIC_WEAR_LEVELLING (R432): Uneven erase counts move data of least-erased blocks. -/
def execStaticWearLevelling (target : Nat) (units : Nat) (lo : Nat) (hi : Nat) (mean : Nat) (s : State) : Host.Outcome State Fault Refusal :=
  s.runPlain (fun s => s.askWork (.level target units lo hi mean))

/-- MAP_WRITEBACK (R429): Staging counts reach their limit and dirty map pages are written back. -/
def execMapWriteback (pages : Nat) (s : State) : Host.Outcome State Fault Refusal :=
  s.runPlain (fun s => s.askWork (.writeback pages))

/-- BANK_COMPACTION (R436): A full bank log is compacted. -/
def execBankCompaction (bank : Fin 2) (s : State) : Host.Outcome State Fault Refusal :=
  s.runPlain (fun s => s.askWork (.compact bank.val))

/-- STORE_PATROL_SCRUB (R434): Store patrol scrub reads pages and refreshes weak blocks. -/
def execStorePatrolScrub (retried : Nat) (refreshed : Nat) (units : Nat) (bad : Nat) (ue : Option (Nat × Nat)) (s : State) : Host.Outcome State Fault Refusal :=
  s.runPlain (fun s => s.askWork (.scrub retried refreshed units bad ue))

/-- STORE_ZQ_CALIBRATION (R422): Short ZQ calibration of the store every 100 ms. -/
def execStoreZqCalibration (s : State) : Host.Outcome State Fault Refusal :=
  s.runPlain (fun s => s.zqCalibration)

end Sys2Proof.Machine
end

