-- ==== Sys2Proof/Machine/ExecTier.lean ====
section
/-!
DEFINITION. Meanings: the tier store and its allocations. One definition for each command, over the operations of the other files.
-/
namespace Sys2Proof.Machine

/-- ALLOC (R215): A host ALLOC message asks for an allocation. -/
def execAlloc (set : Fin 32) (fn : Fin 33) (head : HostHead) (s : State) : Host.Outcome State Fault Refusal :=
  s.runPlain (fun s => s.receive set.val fn.val (hostMessage 0x0020 head) none none)

/-- FREE (R220): A host FREE message frees an allocation. -/
def execFree (set : Fin 32) (fn : Fin 33) (head : HostHead) (s : State) : Host.Outcome State Fault Refusal :=
  s.runPlain (fun s => s.receive set.val fn.val (hostMessage 0x0021 head) none none)

/-- ALLOCATION_FREE_COMMIT (R220): A free commits once no far request or seam names the allocation. -/
def execAllocationFreeCommit (h : BitVec 20) (s : State) : Host.Outcome State Fault Refusal :=
  s.runDie (fun s => s.freeCommit h.toNat)

/-- PUBLISH (R221): A host PUBLISH message starts publishing an allocation. -/
def execPublish (set : Fin 32) (fn : Fin 33) (head : HostHead) (s : State) : Host.Outcome State Fault Refusal :=
  s.runPlain (fun s => s.receive set.val fn.val (hostMessage 0x0022 head) none none)

/-- PUBLISH_DIGEST_DONE (R221): The digest completes and the allocation is published or refused. -/
def execPublishDigestDone (h : BitVec 20) (s : State) : Host.Outcome State Fault Refusal :=
  s.runDie (fun s => s.publishDone h.toNat)

/-- MOVE_COMMIT (R213): A granule move commits in the first cycle with no dirty block. -/
def execMoveCommit (k : Fin 256) (failed : Option MoveFailure) (s : State) : Host.Outcome State Fault Refusal :=
  s.runDie (fun s => s.moveCommit k.val failed)

/-- LARGE_TIER_SCRUB (R226): Patrol scrub reads and corrects large-tier sectors on its period. -/
def execLargeTierScrub (ce : Nat) (ue : Option (Fin 16)) (s : State) : Host.Outcome State Fault Refusal :=
  s.runDie (fun s => s.scrubSector ce (ue.map (·.val)))

/-- LEND_RECALL (R233): A lender recalls lent granules on low water, disable or need. -/
def execLendRecall (node : Fin 4096) (recalled : Recalled) (returned : Nat) (s : State) : Host.Outcome State Fault Refusal :=
  s.runDie (fun s => s.lendRecall node.val recalled.lent returned recalled.held)

/-- TIER_LEND_CTRL_WRITE (R232): A write sets lending, and clearing enable recalls every lent granule. -/
def execTierLendCtrlWrite (fn : Fin 33) (v : W32) (s : State) : Host.Outcome State Fault Refusal :=
  s.runPlain (fun s => s.barWrite fn.val (Reg.TIER_LEND_CTRL) 4 v.toNat)

/-- WASH_REGION_DONE (R453): A large-tier region finishes washing and is released for use. -/
def execWashRegionDone (s : State) : Host.Outcome State Fault Refusal :=
  s.runDie (fun s => s.washRegion)

end Sys2Proof.Machine
end

