-- ==== Sys2Proof/Machine/ExecTiming.lean ====
section
/-!
DEFINITION. Meanings: the milestone, its period and synchronisation. One definition for each command, over the operations of the other files.
-/
namespace Sys2Proof.Machine

/-- MILESTONE (R42): The milestone timer expires and the ordered steps 1 to 6 of Table 2.2 run. -/
def execMilestone (facts : MileFacts) (s : State) : Host.Outcome State Fault Refusal :=
  s.runDie (fun s => s.milestone facts)

/-- LEG_PERIOD_NEXT_WRITE (R34): A write of the next leg period, refused and flagged if out of range. -/
def execLegPeriodNextWrite (fn : Fin 33) (v : W32) (s : State) : Host.Outcome State Fault Refusal :=
  s.runPlain (fun s => s.barWrite fn.val (Reg.LEG_PERIOD_NEXT) 4 v.toNat)

/-- LEG_CHANGE_AT_WRITE (R33): A write of a milestone number arms or replaces a period change. -/
def execLegChangeAtWrite (fn : Fin 33) (v : W32) (s : State) : Host.Outcome State Fault Refusal :=
  s.runPlain (fun s => s.barWrite fn.val (Reg.LEG_CHANGE_AT) 4 v.toNat)

/-- LEG_SYNC_WRITE (R36): A write selects the milestone synchronisation mode. -/
def execLegSyncWrite (fn : Fin 33) (v : W32) (s : State) : Host.Outcome State Fault Refusal :=
  s.runPlain (fun s => s.barWrite fn.val (Reg.LEG_SYNC) 4 v.toNat)

/-- LEG_ERR_CLEAR_MAX (R60): Writing clear_max clears LEG_SLIP_AGE_MAX and LEG_OVERRUN_MAX. -/
def execLegErrClearMax (fn : Fin 33) (v : W32) (s : State) : Host.Outcome State Fault Refusal :=
  s.runPlain (fun s => s.barWrite fn.val (Reg.LEG_ERR) 4 v.toNat)

/-- MILE_IN_EDGE (R37): A rising edge on MILE_IN gives a pin follower its milestone instant. -/
def execMileInEdge (raw : Int) (s : State) : Host.Outcome State Fault Refusal :=
  s.runDie (fun s => s.mileInEdge raw)

/-- TIMING_MESSAGE (R38): A follower adopts the milestone number and period carried by a timing message, and forwards it. -/
def execTimingMessage (port : Fin 16) (hops : Nat) (source : Nat) (period : Nat) (milestone : Nat) (correction : Nat) (offset : Int) (residence : Nat) (s : State) : Host.Outcome State Fault Refusal :=
  s.runDie (fun s => s.timingMessage port.val hops source period milestone correction offset residence)

/-- HOLDOVER_ENTRY (R40): After three missed references a follower enters holdover and raises MILE_SYNC_LOST. -/
def execHoldoverEntry (s : State) : Host.Outcome State Fault Refusal :=
  s.runDie (fun s => s.holdoverEntry)

end Sys2Proof.Machine
end

