-- ==== Sys2Proof/Machine/ExecVector.lean ====
section
/-!
DEFINITION. Meanings: vector instructions. One definition for each command, over the operations of the other files.
-/
namespace Sys2Proof.Machine

/-- VLD (R73): Load 256 B into a vector register. -/
def execVld (core : BitVec 10) (low : BitVec 56) (s : State) : Host.Outcome State Fault Refusal :=
  s.runCore (fun s => State.issue 0x40 (fun w => resI w || vBad (iD w)) bodyVld core low s)

/-- VST (R73): Store a vector register to scratchpad. -/
def execVst (core : BitVec 10) (low : BitVec 56) (s : State) : Host.Outcome State Fault Refusal :=
  s.runCore (fun s => State.issue 0x41 (fun w => resI w || vBad (iB w)) bodyVst core low s)

/-- VADD (R82): Per-lane FP32 add. -/
def execVadd (core : BitVec 10) (low : BitVec 56) (s : State) : Host.Outcome State Fault Refusal :=
  s.runCore (fun s =>
    State.issue 0x42 (fun w => resR w || vBad (iD w) || vBad (iA w) || vBad (iB w)) (bodyLanes (fun v a b _ => addW v a b)) core low s)

/-- VMUL (R82): Per-lane FP32 multiply. -/
def execVmul (core : BitVec 10) (low : BitVec 56) (s : State) : Host.Outcome State Fault Refusal :=
  s.runCore (fun s =>
    State.issue 0x43 (fun w => resR w || vBad (iD w) || vBad (iA w) || vBad (iB w)) (bodyLanes (fun v a b _ => mulW v a b)) core low s)

/-- VFMA (R82): Per-lane fused multiply-add. -/
def execVfma (core : BitVec 10) (low : BitVec 56) (s : State) : Host.Outcome State Fault Refusal :=
  s.runCore (fun s => State.issue 0x44 (fun w => resR w || vBad (iD w) || vBad (iA w) || vBad (iB w)) (bodyLanes fmaW) core low s)

/-- VMAX (R73): Per-lane maximum. -/
def execVmax (core : BitVec 10) (low : BitVec 56) (s : State) : Host.Outcome State Fault Refusal :=
  s.runCore (fun s =>
    State.issue 0x45 (fun w => resR w || vBad (iD w) || vBad (iA w) || vBad (iB w)) (bodyLanes (fun v a b _ => maxW v false a b)) core low s)

/-- VMIN (R73): Per-lane minimum. -/
def execVmin (core : BitVec 10) (low : BitVec 56) (s : State) : Host.Outcome State Fault Refusal :=
  s.runCore (fun s =>
    State.issue 0x46 (fun w => resR w || vBad (iD w) || vBad (iA w) || vBad (iB w)) (bodyLanes (fun v a b _ => maxW v true a b)) core low s)

/-- VRED (R73): Reduce 64 lanes into lane 0. -/
def execVred (core : BitVec 10) (low : BitVec 56) (s : State) : Host.Outcome State Fault Refusal :=
  s.runCore (fun s =>
    State.issue 0x47 (fun w => resI w || vBad (iD w) || vBad (iA w) || decide (bits (iImm w) 1 0 = 3)) bodyVred core low s)

/-- VTAB (R82): Apply a table function per lane. -/
def execVtab (core : BitVec 10) (low : BitVec 56) (s : State) : Host.Outcome State Fault Refusal :=
  s.runCore (fun s => State.issue 0x48 (fun w => resI w || vBad (iD w) || vBad (iA w)) bodyVtab core low s)

/-- VCVT (R123): Convert lanes to or from a narrow format. -/
def execVcvt (core : BitVec 10) (low : BitVec 56) (s : State) : Host.Outcome State Fault Refusal :=
  s.runCore (fun s => State.issue 0x49 (fun w => resI w || vcvtBad w) bodyVcvt core low s)

/-- VBCAST (R73): Broadcast a scalar to every lane. -/
def execVbcast (core : BitVec 10) (low : BitVec 56) (s : State) : Host.Outcome State Fault Refusal :=
  s.runCore (fun s => State.issue 0x4A (fun w => resR w || vBad (iD w)) bodyVbcast core low s)

/-- VMOVS (R73): Move one lane into a scalar. -/
def execVmovs (core : BitVec 10) (low : BitVec 56) (s : State) : Host.Outcome State Fault Refusal :=
  s.runCore (fun s => State.issue 0x4B (fun w => resI w || vBad (iA w)) bodyVmovs core low s)

end Sys2Proof.Machine
end

