-- ==== Sys2Proof/Machine/Dispatch.lean ====
section
/-!
DEFINITION. One arm for each command: a direct call of its meaning.
-/
namespace Sys2Proof.Machine

/-- The effect of a command on everything but the queue. -/
def exec (i : Instr) (s : State) : Host.Outcome State Fault Refusal :=
  match i with
  | .milestone facts => Sys2Proof.Machine.execMilestone facts s
  | .legPeriodNextWrite fn v => Sys2Proof.Machine.execLegPeriodNextWrite fn v s
  | .legChangeAtWrite fn v => Sys2Proof.Machine.execLegChangeAtWrite fn v s
  | .legSyncWrite fn v => Sys2Proof.Machine.execLegSyncWrite fn v s
  | .legErrClearMax fn v => Sys2Proof.Machine.execLegErrClearMax fn v s
  | .mileInEdge raw => Sys2Proof.Machine.execMileInEdge raw s
  | .timingMessage port hops source period milestone correction offset residence => Sys2Proof.Machine.execTimingMessage port hops source period milestone correction offset residence s
  | .holdoverEntry => Sys2Proof.Machine.execHoldoverEntry s
  | .nop core low => Sys2Proof.Machine.execNop core low s
  | .tbound core low => Sys2Proof.Machine.execTbound core low s
  | .end_ core low => Sys2Proof.Machine.execEnd_ core low s
  | .tileBoundary core work results => Sys2Proof.Machine.execTileBoundary core work results s
  | .br core low => Sys2Proof.Machine.execBr core low s
  | .loop core low => Sys2Proof.Machine.execLoop core low s
  | .fence core low => Sys2Proof.Machine.execFence core low s
  | .fault core low => Sys2Proof.Machine.execFault core low s
  | .add core low => Sys2Proof.Machine.execAdd core low s
  | .sub core low => Sys2Proof.Machine.execSub core low s
  | .mul core low => Sys2Proof.Machine.execMul core low s
  | .and core low => Sys2Proof.Machine.execAnd core low s
  | .or core low => Sys2Proof.Machine.execOr core low s
  | .xor core low => Sys2Proof.Machine.execXor core low s
  | .shl core low => Sys2Proof.Machine.execShl core low s
  | .shr core low => Sys2Proof.Machine.execShr core low s
  | .min core low => Sys2Proof.Machine.execMin core low s
  | .max core low => Sys2Proof.Machine.execMax core low s
  | .addi core low => Sys2Proof.Machine.execAddi core low s
  | .movhi core low => Sys2Proof.Machine.execMovhi core low s
  | .cmp core low => Sys2Proof.Machine.execCmp core low s
  | .lds core low => Sys2Proof.Machine.execLds core low s
  | .sts core low => Sys2Proof.Machine.execSts core low s
  | .plog core low => Sys2Proof.Machine.execPlog core low s
  | .mcfg core low => Sys2Proof.Machine.execMcfg core low s
  | .mloadw core low => Sys2Proof.Machine.execMloadw core low s
  | .mswap core low => Sys2Proof.Machine.execMswap core low s
  | .mmac core low => Sys2Proof.Machine.execMmac core low s
  | .mdarn core low => Sys2Proof.Machine.execMdarn core low s
  | .mclr core low => Sys2Proof.Machine.execMclr core low s
  | .drain core low => Sys2Proof.Machine.execDrain core low s
  | .aread core low => Sys2Proof.Machine.execAread core low s
  | .awrite core low => Sys2Proof.Machine.execAwrite core low s
  | .vld core low => Sys2Proof.Machine.execVld core low s
  | .vst core low => Sys2Proof.Machine.execVst core low s
  | .vadd core low => Sys2Proof.Machine.execVadd core low s
  | .vmul core low => Sys2Proof.Machine.execVmul core low s
  | .vfma core low => Sys2Proof.Machine.execVfma core low s
  | .vmax core low => Sys2Proof.Machine.execVmax core low s
  | .vmin core low => Sys2Proof.Machine.execVmin core low s
  | .vred core low => Sys2Proof.Machine.execVred core low s
  | .vtab core low => Sys2Proof.Machine.execVtab core low s
  | .vcvt core low => Sys2Proof.Machine.execVcvt core low s
  | .vbcast core low => Sys2Proof.Machine.execVbcast core low s
  | .vmovs core low => Sys2Proof.Machine.execVmovs core low s
  | .srd core low => Sys2Proof.Machine.execSrd core low s
  | .swr core low => Sys2Proof.Machine.execSwr core low s
  | .swait core low => Sys2Proof.Machine.execSwait core low s
  | .sempost core low => Sys2Proof.Machine.execSempost core low s
  | .semwait core low => Sys2Proof.Machine.execSemwait core low s
  | .semtry core low => Sys2Proof.Machine.execSemtry core low s
  | .qpush core low => Sys2Proof.Machine.execQpush core low s
  | .qpop core low => Sys2Proof.Machine.execQpop core low s
  | .cpush core low => Sys2Proof.Machine.execCpush core low s
  | .cpop core low => Sys2Proof.Machine.execCpop core low s
  | .vqpush core low => Sys2Proof.Machine.execVqpush core low s
  | .vqpop core low => Sys2Proof.Machine.execVqpop core low s
  | .carm core low => Sys2Proof.Machine.execCarm core low s
  | .cfetch core low => Sys2Proof.Machine.execCfetch core low s
  | .cdone core low => Sys2Proof.Machine.execCdone core low s
  | .rdstat core low => Sys2Proof.Machine.execRdstat core low s
  | .tileOvertime core => Sys2Proof.Machine.execTileOvertime core s
  | .coreFaultClear fn core v => Sys2Proof.Machine.execCoreFaultClear fn core v s
  | .coreArithClearCounts fn core v => Sys2Proof.Machine.execCoreArithClearCounts fn core v s
  | .coreArithClearHist fn core v => Sys2Proof.Machine.execCoreArithClearHist fn core v s
  | .flitEnterQueue core net chan => Sys2Proof.Machine.execFlitEnterQueue core net chan s
  | .semPostArrival core pair room => Sys2Proof.Machine.execSemPostArrival core pair room s
  | .steeringFire core unit => Sys2Proof.Machine.execSteeringFire core unit s
  | .epochAdvance d slot => Sys2Proof.Machine.execEpochAdvance d slot s
  | .stall d => Sys2Proof.Machine.execStall d s
  | .pressCommit k => Sys2Proof.Machine.execPressCommit k s
  | .pressNotQuiet k => Sys2Proof.Machine.execPressNotQuiet k s
  | .pressLoadComplete k failed => Sys2Proof.Machine.execPressLoadComplete k failed s
  | .wring fn d v => Sys2Proof.Machine.execWring fn d v s
  | .wringDone d => Sys2Proof.Machine.execWringDone d s
  | .scanIn fn d v => Sys2Proof.Machine.execScanIn fn d v s
  | .districtRelease fn d v => Sys2Proof.Machine.execDistrictRelease fn d v s
  | .servingPlanCtrlWrite fn v => Sys2Proof.Machine.execServingPlanCtrlWrite fn v s
  | .descriptorStart core write place => Sys2Proof.Machine.execDescriptorStart core write place s
  | .descriptorComplete core write place facts => Sys2Proof.Machine.execDescriptorComplete core write place facts s
  | .farPost core pair room => Sys2Proof.Machine.execFarPost core pair room s
  | .remoteTimeout node txn => Sys2Proof.Machine.execRemoteTimeout node txn s
  | .descriptorSlotFreed core write place => Sys2Proof.Machine.execDescriptorSlotFreed core write place s
  | .tierStreamFaultClear fn v => Sys2Proof.Machine.execTierStreamFaultClear fn v s
  | .alloc set fn head => Sys2Proof.Machine.execAlloc set fn head s
  | .free set fn head => Sys2Proof.Machine.execFree set fn head s
  | .allocationFreeCommit h => Sys2Proof.Machine.execAllocationFreeCommit h s
  | .publish set fn head => Sys2Proof.Machine.execPublish set fn head s
  | .publishDigestDone h => Sys2Proof.Machine.execPublishDigestDone h s
  | .moveCommit k failed => Sys2Proof.Machine.execMoveCommit k failed s
  | .largeTierScrub ce ue => Sys2Proof.Machine.execLargeTierScrub ce ue s
  | .lendRecall node recalled returned => Sys2Proof.Machine.execLendRecall node recalled returned s
  | .tierLendCtrlWrite fn v => Sys2Proof.Machine.execTierLendCtrlWrite fn v s
  | .washRegionDone => Sys2Proof.Machine.execWashRegionDone s
  | .seamSubmit submitter scope owner reqId timing actions => Sys2Proof.Machine.execSeamSubmit submitter scope owner reqId timing actions s
  | .seamLocalPrepare k => Sys2Proof.Machine.execSeamLocalPrepare k s
  | .seamCommitPoint k => Sys2Proof.Machine.execSeamCommitPoint k s
  | .seamTimeout k => Sys2Proof.Machine.execSeamTimeout k s
  | .seamPrepare node id scope actions staged => Sys2Proof.Machine.execSeamPrepare node id scope actions staged s
  | .seamReady node id => Sys2Proof.Machine.execSeamReady node id s
  | .seamRefuse node id code => Sys2Proof.Machine.execSeamRefuse node id code s
  | .seamCommit node id => Sys2Proof.Machine.execSeamCommit node id s
  | .seamUnpick node id code => Sys2Proof.Machine.execSeamUnpick node id code s
  | .seamDone node id status => Sys2Proof.Machine.execSeamDone node id status s
  | .seamQuery node id => Sys2Proof.Machine.execSeamQuery node id s
  | .seamQueryTimer k => Sys2Proof.Machine.execSeamQueryTimer k s
  | .seamPeerTimeout k => Sys2Proof.Machine.execSeamPeerTimeout k s
  | .seamCtrlClearMax fn v => Sys2Proof.Machine.execSeamCtrlClearMax fn v s
  | .request set fn head cut => Sys2Proof.Machine.execRequest set fn head cut s
  | .prefixInsert h => Sys2Proof.Machine.execPrefixInsert h s
  | .prefixFlush fn v => Sys2Proof.Machine.execPrefixFlush fn v s
  | .prefixTreeLog2Write fn v => Sys2Proof.Machine.execPrefixTreeLog2Write fn v s
  | .exchangeTakeBlock ctx => Sys2Proof.Machine.execExchangeTakeBlock ctx s
  | .claim node txn part model tags => Sys2Proof.Machine.execClaim node txn part model tags s
  | .expertWindowSettle key => Sys2Proof.Machine.execExpertWindowSettle key s
  | .grant node txn granted notResident => Sys2Proof.Machine.execGrant node txn granted notResident s
  | .row node tags data => Sys2Proof.Machine.execRow node tags data s
  | .result tag data => Sys2Proof.Machine.execResult tag data s
  | .failed tag => Sys2Proof.Machine.execFailed tag s
  | .expertTimeout ctx off choice => Sys2Proof.Machine.execExpertTimeout ctx off choice s
  | .privateExpertLoadDone part object version e failed => Sys2Proof.Machine.execPrivateExpertLoadDone part object version e failed s
  | .formationMovesDone ctx => Sys2Proof.Machine.execFormationMovesDone ctx s
  | .evictionQuiet ctx => Sys2Proof.Machine.execEvictionQuiet ctx s
  | .evictionTimeout ctx => Sys2Proof.Machine.execEvictionTimeout ctx s
  | .demotionSaveDone ctx => Sys2Proof.Machine.execDemotionSaveDone ctx s
  | .bcast port tree seqNo part object version g block tier rehoming data => Sys2Proof.Machine.execBcast port tree seqNo part object version g block tier rehoming data s
  | .bcastEnd port tree seqNo part object version count first tier rehoming => Sys2Proof.Machine.execBcastEnd port tree seqNo part object version count first tier rehoming s
  | .bcastResume node tree object version g => Sys2Proof.Machine.execBcastResume node tree object version g s
  | .servingResClear fn v => Sys2Proof.Machine.execServingResClear fn v s
  | .flitReceive port flit facts => Sys2Proof.Machine.execFlitReceive port flit facts s
  | .retryRequest port seqNo => Sys2Proof.Machine.execRetryRequest port seqNo s
  | .retryTimer port => Sys2Proof.Machine.execRetryTimer port s
  | .linkState port aux => Sys2Proof.Machine.execLinkState port aux s
  | .linkStateTimer port => Sys2Proof.Machine.execLinkStateTimer port s
  | .portTrainingStep port stage lanes => Sys2Proof.Machine.execPortTrainingStep port stage lanes s
  | .portDown port cause => Sys2Proof.Machine.execPortDown port cause s
  | .transportMessage message via => Sys2Proof.Machine.execTransportMessage message via s
  | .ackTimer flow => Sys2Proof.Machine.execAckTimer flow s
  | .retransmitTimer flow seqNo => Sys2Proof.Machine.execRetransmitTimer flow seqNo s
  | .probeStart node => Sys2Proof.Machine.execProbeStart node s
  | .probe node => Sys2Proof.Machine.execProbe node s
  | .probeReply node incarnation => Sys2Proof.Machine.execProbeReply node incarnation s
  | .probeTimeout node => Sys2Proof.Machine.execProbeTimeout node s
  | .nodeLost node incarnation via => Sys2Proof.Machine.execNodeLost node incarnation via s
  | .nodeJoined node incarnation via => Sys2Proof.Machine.execNodeJoined node incarnation via s
  | .isolationTimer => Sys2Proof.Machine.execIsolationTimer s
  | .read node part txn addr n => Sys2Proof.Machine.execRead node part txn addr n s
  | .write node part txn addr data => Sys2Proof.Machine.execWrite node part txn addr data s
  | .moveData node part txn h g block data => Sys2Proof.Machine.execMoveData node part txn h g block data s
  | .msg node set data => Sys2Proof.Machine.execMsg node set data s
  | .readData node txn data => Sys2Proof.Machine.execReadData node txn data s
  | .writeAck node txn => Sys2Proof.Machine.execWriteAck node txn s
  | .refuse node txn => Sys2Proof.Machine.execRefuse node txn s
  | .moveAck txn => Sys2Proof.Machine.execMoveAck txn s
  | .delayTimer port => Sys2Proof.Machine.execDelayTimer port s
  | .delayRequest port turnaround => Sys2Proof.Machine.execDelayRequest port turnaround s
  | .delayResponse port trip turnaround => Sys2Proof.Machine.execDelayResponse port trip turnaround s
  | .portEnable port role => Sys2Proof.Machine.execPortEnable port role s
  | .portDisable port => Sys2Proof.Machine.execPortDisable port s
  | .portKill port => Sys2Proof.Machine.execPortKill port s
  | .causewayNodeWrite node => Sys2Proof.Machine.execCausewayNodeWrite node s
  | .postedWriteApply domain => Sys2Proof.Machine.execPostedWriteApply domain s
  | .mailboxHandover fn set slot area word => Sys2Proof.Machine.execMailboxHandover fn set slot area word s
  | .outConsWrite fn set v => Sys2Proof.Machine.execOutConsWrite fn set v s
  | .msixHoldoffExpiry fn vec => Sys2Proof.Machine.execMsixHoldoffExpiry fn vec s
  | .hello set fn head => Sys2Proof.Machine.execHello set fn head s
  | .cancel set fn head => Sys2Proof.Machine.execCancel set fn head s
  | .dataPut set fn head => Sys2Proof.Machine.execDataPut set fn head s
  | .dataGet set fn head => Sys2Proof.Machine.execDataGet set fn head s
  | .seam set fn head => Sys2Proof.Machine.execSeam set fn head s
  | .seamAbort set fn head => Sys2Proof.Machine.execSeamAbort set fn head s
  | .disable set fn head => Sys2Proof.Machine.execDisable set fn head s
  | .emergencyDisable set fn head => Sys2Proof.Machine.execEmergencyDisable set fn head s
  | .enable set fn head => Sys2Proof.Machine.execEnable set fn head s
  | .setLeg set fn head => Sys2Proof.Machine.execSetLeg set fn head s
  | .setPower set fn head => Sys2Proof.Machine.execSetPower set fn head s
  | .query set fn head => Sys2Proof.Machine.execQuery set fn head s
  | .eventMask set fn head => Sys2Proof.Machine.execEventMask set fn head s
  | .fwUpdate set fn head => Sys2Proof.Machine.execFwUpdate set fn head s
  | .cpRestart set fn head => Sys2Proof.Machine.execCpRestart set fn head s
  | .pfFlr => Sys2Proof.Machine.execPfFlr s
  | .vfFlr vf => Sys2Proof.Machine.execVfFlr vf s
  | .cpWatchdogExpiry cp => Sys2Proof.Machine.execCpWatchdogExpiry cp s
  | .cpException cp addr => Sys2Proof.Machine.execCpException cp addr s
  | .fwRestartWrite fn v own => Sys2Proof.Machine.execFwRestartWrite fn v own s
  | .cpRestartDone cp => Sys2Proof.Machine.execCpRestartDone cp s
  | .fwImageVerified => Sys2Proof.Machine.execFwImageVerified s
  | .fwHandoffTimeout refused => Sys2Proof.Machine.execFwHandoffTimeout refused s
  | .mctpControl command data => Sys2Proof.Machine.execMctpControl command data s
  | .pldmCommand op => Sys2Proof.Machine.execPldmCommand op s
  | .pldmFwUpdate image => Sys2Proof.Machine.execPldmFwUpdate image s
  | .heartbeat budget => Sys2Proof.Machine.execHeartbeat budget s
  | .heartbeatLost => Sys2Proof.Machine.execHeartbeatLost s
  | .spdmGetVersion => Sys2Proof.Machine.execSpdmGetVersion s
  | .spdmGetCapabilities => Sys2Proof.Machine.execSpdmGetCapabilities s
  | .spdmNegotiateAlgorithms => Sys2Proof.Machine.execSpdmNegotiateAlgorithms s
  | .spdmGetDigests => Sys2Proof.Machine.execSpdmGetDigests s
  | .spdmGetCertificate slot off n => Sys2Proof.Machine.execSpdmGetCertificate slot off n s
  | .spdmChallenge slot nonce => Sys2Proof.Machine.execSpdmChallenge slot nonce s
  | .spdmGetMeasurements index nonce => Sys2Proof.Machine.execSpdmGetMeasurements index nonce s
  | .lcStatus => Sys2Proof.Machine.execLcStatus s
  | .lcNonce => Sys2Proof.Machine.execLcNonce s
  | .lcNonceExpiry => Sys2Proof.Machine.execLcNonceExpiry s
  | .lcToken token => Sys2Proof.Machine.execLcToken token s
  | .provision bundle => Sys2Proof.Machine.execProvision bundle s
  | .garbageCollection target freeNow units erased bad lo hi mean => Sys2Proof.Machine.execGarbageCollection target freeNow units erased bad lo hi mean s
  | .staticWearLevelling target units lo hi mean => Sys2Proof.Machine.execStaticWearLevelling target units lo hi mean s
  | .mapWriteback pages => Sys2Proof.Machine.execMapWriteback pages s
  | .bankCompaction bank => Sys2Proof.Machine.execBankCompaction bank s
  | .storePatrolScrub retried refreshed units bad ue => Sys2Proof.Machine.execStorePatrolScrub retried refreshed units bad ue s
  | .storeZqCalibration => Sys2Proof.Machine.execStoreZqCalibration s
  | .vauxGood => Sys2Proof.Machine.execVauxGood s
  | .p1Complete found => Sys2Proof.Machine.execP1Complete found s
  | .startGrantAssert => Sys2Proof.Machine.execStartGrantAssert s
  | .startGrantWithdraw => Sys2Proof.Machine.execStartGrantWithdraw s
  | .vmainGood => Sys2Proof.Machine.execVmainGood s
  | .pcieLinkUp => Sys2Proof.Machine.execPcieLinkUp s
  | .perstDeassert => Sys2Proof.Machine.execPerstDeassert s
  | .perstAssert => Sys2Proof.Machine.execPerstAssert s
  | .p2Complete press => Sys2Proof.Machine.execP2Complete press s
  | .p3Complete failed => Sys2Proof.Machine.execP3Complete failed s
  | .p4Complete => Sys2Proof.Machine.execP4Complete s
  | .powerSample sample => Sys2Proof.Machine.execPowerSample sample s
  | .clampRelease power => Sys2Proof.Machine.execClampRelease power s
  | .pwrfailAssert => Sys2Proof.Machine.execPwrfailAssert s
  | .vmainLow => Sys2Proof.Machine.execVmainLow s
  | .vauxLow => Sys2Proof.Machine.execVauxLow s
  | .resetAssert => Sys2Proof.Machine.execResetAssert s
  | .resetDeassert => Sys2Proof.Machine.execResetDeassert s
  | .saveComplete => Sys2Proof.Machine.execSaveComplete s
  | .pwrfailDeassert => Sys2Proof.Machine.execPwrfailDeassert s
  | .powerCapWrite fn v => Sys2Proof.Machine.execPowerCapWrite fn v s
  | .flSupplyOvercurrent volts => Sys2Proof.Machine.execFlSupplyOvercurrent volts s
  | .lpddrRetrain chan code ce failed => Sys2Proof.Machine.execLpddrRetrain chan code ce failed s
  | .globalPllCtrlWrite fn v => Sys2Proof.Machine.execGlobalPllCtrlWrite fn v s
  | .snapTake fn v => Sys2Proof.Machine.execSnapTake fn v s
  | .snapRelease fn v => Sys2Proof.Machine.execSnapRelease fn v s
  | .aliasWrite fn off v => Sys2Proof.Machine.execAliasWrite fn off v s
  | .registerWrite fn off bytes v => Sys2Proof.Machine.execRegisterWrite fn off bytes v s
  | .scanInComplete d => Sys2Proof.Machine.execScanInComplete d s
  | .laserLightRestored port => Sys2Proof.Machine.execLaserLightRestored port s
  | .vmainAt40V => Sys2Proof.Machine.execVmainAt40V s
  | .configurationRequest fn op done => Sys2Proof.Machine.execConfigurationRequest fn op done s
  | .directoryCopyRewritten => Sys2Proof.Machine.execDirectoryCopyRewritten s
  | .mapPageRebuildDone page => Sys2Proof.Machine.execMapPageRebuildDone page s
  | .replicaMade object version g failed => Sys2Proof.Machine.execReplicaMade object version g failed s
  | .bankRecordWritten kind index failed => Sys2Proof.Machine.execBankRecordWritten kind index failed s
  | .weightBroadcastStart tree object version first count part tier rehoming => Sys2Proof.Machine.execWeightBroadcastStart tree object version first count part tier rehoming s
  | .testPortInstruction instr => Sys2Proof.Machine.execTestPortInstruction instr s

end Sys2Proof.Machine
end

