-- ==== Sys2Proof/Machine/Step.lean ====
section
/-!
DEFINITION. One step: the command at the front of the queue, or, where none waits, a tick.
-/
namespace Sys2Proof.Machine

/-- With no command waiting, 10 ns pass where the timebase runs (DESIGN CHOICE, log entry 32). -/
def tick (s : State) : State := if s.leg.running then { s with leg := { s.leg with sub := s.leg.sub + 1 } } else s

/-- One step. In a tick the store takes up the queued work that nothing goes before any more (R430, log entry 143). -/
def step (s : State) : Host.Outcome State Fault Refusal :=
  match s.pending with
  | [] => if s.store.queue = [] then .next (tick s) else (tick s).runPlain (fun s => s.serveStore s.store.queue.length)
  | c :: rest => exec c { s with pending := rest }

/-- The state with the command that a word spells put at the front of its queue; no word spells one. -/
def State.withFetchWord (s : State) (nbits w : Nat) : State :=
  match decodeTableWord nbits w with
  | some c => { s with pending := c :: s.pending }
  | none => s

end Sys2Proof.Machine
end

