-- ==== Sys2Proof/WellFormed.lean ====
section
/-!
DEFINITION. What the operands of a command must meet beyond their types: the field a register row names is written, a message or a
handover comes through a function that exposes the set (Table 15.2), counts and lengths are those the manual bounds.
-/
namespace Sys2Proof

open Sys2Proof.Machine

/-- A function exposes a mailbox set: the physical function every set, a virtual function its partition's (Table 15.2). -/
def exposes (fn : Fin 33) (set : Fin 32) : Bool := fn.val == 0 || fn.val == set.val + 1

/-- The command is one that the module can be given. -/
def wellFormed (i : Instr) : Bool :=
  match i with
  | .milestone facts => facts.unfinished.all (fun n => decide (2 ≤ n ∧ n ≤ 4))
  | .legPeriodNextWrite _ _ => true
  | .legChangeAtWrite _ _ => true
  | .legSyncWrite _ _ => true
  | .legErrClearMax _ v => bit v.toNat 2
  | .mileInEdge _ => true
  | .timingMessage _ hops source period milestone _ _ _ => decide (hops < 256 ∧ source < 4096 ∧ period < 2 ^ 32 ∧ milestone < 2 ^ 64)
  | .holdoverEntry => true
  | .nop _ _ => true
  | .tbound _ _ => true
  | .end_ _ _ => true
  | .tileBoundary _ work _ => work.badUnits.all (fun u => decide (u < 196608)) && work.badRows.all (fun r => decide (r < 1024))
  | .br _ _ => true
  | .loop _ _ => true
  | .fence _ _ => true
  | .fault _ _ => true
  | .add _ _ => true
  | .sub _ _ => true
  | .mul _ _ => true
  | .and _ _ => true
  | .or _ _ => true
  | .xor _ _ => true
  | .shl _ _ => true
  | .shr _ _ => true
  | .min _ _ => true
  | .max _ _ => true
  | .addi _ _ => true
  | .movhi _ _ => true
  | .cmp _ _ => true
  | .lds _ _ => true
  | .sts _ _ => true
  | .plog _ _ => true
  | .mcfg _ _ => true
  | .mloadw _ _ => true
  | .mswap _ _ => true
  | .mmac _ _ => true
  | .mdarn _ _ => true
  | .mclr _ _ => true
  | .drain _ _ => true
  | .aread _ _ => true
  | .awrite _ _ => true
  | .vld _ _ => true
  | .vst _ _ => true
  | .vadd _ _ => true
  | .vmul _ _ => true
  | .vfma _ _ => true
  | .vmax _ _ => true
  | .vmin _ _ => true
  | .vred _ _ => true
  | .vtab _ _ => true
  | .vcvt _ _ => true
  | .vbcast _ _ => true
  | .vmovs _ _ => true
  | .srd _ _ => true
  | .swr _ _ => true
  | .swait _ _ => true
  | .sempost _ _ => true
  | .semwait _ _ => true
  | .semtry _ _ => true
  | .qpush _ _ => true
  | .qpop _ _ => true
  | .cpush _ _ => true
  | .cpop _ _ => true
  | .vqpush _ _ => true
  | .vqpop _ _ => true
  | .carm _ _ => true
  | .cfetch _ _ => true
  | .cdone _ _ => true
  | .rdstat _ _ => true
  | .tileOvertime _ => true
  | .coreFaultClear _ _ v => bit v.toNat 31
  | .coreArithClearCounts _ _ v => bit v.toNat 0
  | .coreArithClearHist _ _ v => bit v.toNat 1
  | .flitEnterQueue _ _ _ => true
  | .semPostArrival _ _ _ => true
  | .steeringFire _ _ => true
  | .epochAdvance _ _ => true
  | .stall _ => true
  | .pressCommit _ => true
  | .pressNotQuiet _ => true
  | .pressLoadComplete _ _ => true
  | .wring _ _ v => bits v.toNat 1 0 == 1
  | .wringDone _ => true
  | .scanIn _ _ v => bits v.toNat 1 0 == 2
  | .districtRelease _ _ v => bits v.toNat 1 0 == 3
  | .servingPlanCtrlWrite _ _ => true
  | .descriptorStart _ _ _ => true
  | .descriptorComplete _ _ _ _ => true
  | .farPost _ _ _ => true
  | .remoteTimeout _ _ => true
  | .descriptorSlotFreed _ _ _ => true
  | .tierStreamFaultClear _ v => bit v.toNat 31
  | .alloc set fn _ => exposes fn set
  | .free set fn _ => exposes fn set
  | .allocationFreeCommit _ => true
  | .publish set fn _ => exposes fn set
  | .publishDigestDone _ => true
  | .moveCommit _ _ => true
  | .largeTierScrub ce _ => decide (ce ≤ 16)
  | .lendRecall _ _ _ => true
  | .tierLendCtrlWrite _ _ => true
  | .washRegionDone => true
  | .seamSubmit _ _ _ _ _ actions => decide (1 ≤ actions.length ∧ actions.length ≤ 64)
  | .seamLocalPrepare _ => true
  | .seamCommitPoint _ => true
  | .seamTimeout _ => true
  | .seamPrepare _ _ _ _ _ => true
  | .seamReady _ _ => true
  | .seamRefuse _ _ _ => true
  | .seamCommit _ _ => true
  | .seamUnpick _ _ _ => true
  | .seamDone _ _ _ => true
  | .seamQuery _ _ => true
  | .seamQueryTimer _ => true
  | .seamPeerTimeout _ => true
  | .seamCtrlClearMax _ v => bit v.toNat 16
  | .request set fn _ _ => exposes fn set
  | .prefixInsert _ => true
  | .prefixFlush _ v => bit v.toNat 8
  | .prefixTreeLog2Write _ _ => true
  | .exchangeTakeBlock _ => true
  | .claim _ _ _ _ tags => decide (1 ≤ tags.length ∧ tags.length ≤ 64)
  | .expertWindowSettle _ => true
  | .grant _ _ _ _ => true
  | .row _ tags _ => decide (1 ≤ tags.length ∧ tags.length ≤ 4)
  | .result _ _ => true
  | .failed _ => true
  | .expertTimeout _ _ _ => true
  | .privateExpertLoadDone _ _ _ _ _ => true
  | .formationMovesDone _ => true
  | .evictionQuiet _ => true
  | .evictionTimeout _ => true
  | .demotionSaveDone _ => true
  | .bcast _ _ _ _ _ _ _ _ _ _ data => decide (data.length = 4096)
  | .bcastEnd _ _ _ _ _ _ _ _ _ _ => true
  | .bcastResume _ _ _ _ _ => true
  | .servingResClear _ v => bit v.toNat 0
  | .flitReceive _ flit _ => decide (flit.length = 256)
  | .retryRequest _ _ => true
  | .retryTimer _ => true
  | .linkState _ _ => true
  | .linkStateTimer _ => true
  | .portTrainingStep _ stage _ => decide (1 ≤ stage.val)
  | .portDown _ cause => decide (1 ≤ cause.val)
  | .transportMessage _ _ => true
  | .ackTimer _ => true
  | .retransmitTimer _ _ => true
  | .probeStart _ => true
  | .probe _ => true
  | .probeReply _ _ => true
  | .probeTimeout _ => true
  | .nodeLost _ _ _ => true
  | .nodeJoined _ _ _ => true
  | .isolationTimer => true
  | .read _ _ _ _ n => decide (16 ≤ n ∧ n ≤ 4096 ∧ n % 16 = 0)
  | .write _ _ _ _ data => decide (16 ≤ data.length ∧ data.length ≤ 4096 ∧ data.length % 16 = 0)
  | .moveData _ _ _ _ _ _ data => decide (data.length = 4096)
  | .msg _ _ data => decide (data.length % 16 = 0 ∧ 16 ≤ data.length ∧ data.length ≤ 2000)
  | .readData _ _ _ => true
  | .writeAck _ _ => true
  | .refuse _ _ => true
  | .moveAck _ => true
  | .delayTimer _ => true
  | .delayRequest _ _ => true
  | .delayResponse _ _ _ => true
  | .portEnable _ role => decide (role.toNat ≠ 0)
  | .portDisable _ => true
  | .portKill _ => true
  | .causewayNodeWrite _ => true
  | .postedWriteApply _ => true
  | .mailboxHandover fn set slot area _ => exposes fn set && decide (1 ≤ slot.val ∧ area.length ≤ 2032)
  | .outConsWrite fn set _ => exposes fn set
  | .msixHoldoffExpiry fn vec => decide (fn.val = 0 ∨ vec.val = 0)
  | .hello set fn _ => exposes fn set
  | .cancel set fn _ => exposes fn set
  | .dataPut set fn _ => exposes fn set
  | .dataGet set fn _ => exposes fn set
  | .seam set fn _ => exposes fn set
  | .seamAbort set fn _ => exposes fn set
  | .disable set fn head => exposes fn set && !bit (fieldAt head.body 1 1) 0
  | .emergencyDisable set fn head => exposes fn set && bit (fieldAt head.body 1 1) 0
  | .enable set fn _ => exposes fn set
  | .setLeg set fn _ => exposes fn set
  | .setPower set fn _ => exposes fn set
  | .query set fn _ => exposes fn set
  | .eventMask set fn _ => exposes fn set
  | .fwUpdate set fn _ => exposes fn set
  | .cpRestart set fn _ => exposes fn set
  | .pfFlr => true
  | .vfFlr _ => true
  | .cpWatchdogExpiry _ => true
  | .cpException _ _ => true
  | .fwRestartWrite _ _ _ => true
  | .cpRestartDone _ => true
  | .fwImageVerified => true
  | .fwHandoffTimeout _ => true
  | .mctpControl _ _ => true
  | .pldmCommand _ => true
  | .pldmFwUpdate _ => true
  | .heartbeat _ => true
  | .heartbeatLost => true
  | .spdmGetVersion => true
  | .spdmGetCapabilities => true
  | .spdmNegotiateAlgorithms => true
  | .spdmGetDigests => true
  | .spdmGetCertificate _ _ _ => true
  | .spdmChallenge _ nonce => decide (nonce.length = 32)
  | .spdmGetMeasurements _ nonce => decide (nonce.length = 32)
  | .lcStatus => true
  | .lcNonce => true
  | .lcNonceExpiry => true
  | .lcToken _ => true
  | .provision _ => true
  | .garbageCollection _ _ _ _ _ _ _ _ => true
  | .staticWearLevelling _ _ _ _ _ => true
  | .mapWriteback _ => true
  | .bankCompaction _ => true
  | .storePatrolScrub _ _ _ _ _ => true
  | .storeZqCalibration => true
  | .vauxGood => true
  | .p1Complete _ => true
  | .startGrantAssert => true
  | .startGrantWithdraw => true
  | .vmainGood => true
  | .pcieLinkUp => true
  | .perstDeassert => true
  | .perstAssert => true
  | .p2Complete _ => true
  | .p3Complete _ => true
  | .p4Complete => true
  | .powerSample _ => true
  | .clampRelease _ => true
  | .pwrfailAssert => true
  | .vmainLow => true
  | .vauxLow => true
  | .resetAssert => true
  | .resetDeassert => true
  | .saveComplete => true
  | .pwrfailDeassert => true
  | .powerCapWrite _ _ => true
  | .flSupplyOvercurrent _ => true
  | .lpddrRetrain _ _ _ _ => true
  | .globalPllCtrlWrite _ _ => true
  | .snapTake _ v => bits v.toNat 1 0 == 1
  | .snapRelease _ v => bits v.toNat 1 0 == 2
  | .aliasWrite _ off _ => decide (0x2000000 ≤ off ∧ off < 0x4000000 ∧ off % 4 = 0)
  | .registerWrite _ off _ _ => decide (off < 0x4000000)
  | .scanInComplete _ => true
  | .laserLightRestored _ => true
  | .vmainAt40V => true
  | .configurationRequest _ _ _ => true
  | .directoryCopyRewritten => true
  | .mapPageRebuildDone _ => true
  | .replicaMade _ _ _ _ => true
  | .bankRecordWritten _ _ _ => true
  | .weightBroadcastStart _ _ _ _ _ _ _ _ => true
  | .testPortInstruction _ => true

end Sys2Proof
end

