-- ==== Sys2Proof/Safety.lean ====
section
/-!
DEFINITION. The terms in which statements speak of states and commands: a state that owes nothing, an instruction that a core issues,
what telling the host changes, and which commands belong to the core die.
-/
namespace Sys2Proof.Machine

/-- The core die is powered and no consequence of an earlier command is owed. -/
def State.ready (s : State) : Prop := s.power.vmainGood = true ∧ s.due = []

/-- The physical function reaches the module's registers and nothing is owed. -/
def State.hostOpen (s : State) : Prop := s.barOpen 0 = true ∧ s.due = []

/-! Instructions. -/

/-- An instruction word: opcode and low bits (Table 3.2). -/
def wordOf (op : Nat) (low : BitVec 56) : Nat := op * 2 ^ 56 + low.toNat

/-- A core runs a tile, is at no boundary, and the word stands at its program counter. -/
structure State.Issues (s : State) (op : Nat) (core : BitVec 10) (low : BitVec 56) : Prop where
  ready : s.ready
  running : s.coreState core.toNat = 1
  inTile : (s.core core.toNat).boundary = none
  word : (s.fetch core.toNat (s.core core.toNat).pc).toNat = wordOf op low

/-- The instruction's predicate lets it execute (Table 3.2). -/
def State.predicated (s : State) (op : Nat) (core : BitVec 10) (low : BitVec 56) : Prop :=
  (s.core core.toNat).p (iPred (wordOf op low)) ≠ iNeg (wordOf op low)

/-- The instruction after the one at the program counter lies in the slot. -/
def State.goesOn (s : State) (c : Nat) : Prop := (afterPc (s.core c).loops (s.core c).pc).1 ≤ 4095

/-- The core at its next instruction (R70). -/
def State.past (s : State) (c : Nat) : State :=
  s.updCore c (fun k => { k with pc := (afterPc k.loops k.pc).1, loops := (afterPc k.loops k.pc).2, moved := s.now })

/-- It issues, executes and goes on. -/
structure State.Executes (s : State) (op : Nat) (core : BitVec 10) (low : BitVec 56) : Prop where
  issues : s.Issues op core low
  holds : s.predicated op core low
  next : s.goesOn core.toNat

/-- An instruction's opcode and the test for its reserved encodings (Table 3.3, R72), with its core and low bits. -/
def tileRow (i : Instr) : Option (Nat × (Nat → Bool) × BitVec 10 × BitVec 56) :=
  match i with
  | .nop core low => some (0x00, resR, core, low)
  | .tbound core low => some (0x01, resR, core, low)
  | .end_ core low => some (0x02, resR, core, low)
  | .br core low => some (0x03, (fun w => bits w 20 0 != 0), core, low)
  | .loop core low => some (0x04, (fun _ => false), core, low)
  | .fence core low => some (0x05, resR, core, low)
  | .fault core low => some (0x06, resI, core, low)
  | .add core low => some (0x10, resR, core, low)
  | .sub core low => some (0x11, resR, core, low)
  | .mul core low => some (0x12, resR, core, low)
  | .and core low => some (0x13, resR, core, low)
  | .or core low => some (0x14, resR, core, low)
  | .xor core low => some (0x15, resR, core, low)
  | .shl core low => some (0x16, resR, core, low)
  | .shr core low => some (0x17, resR, core, low)
  | .min core low => some (0x18, resR, core, low)
  | .max core low => some (0x19, resR, core, low)
  | .addi core low => some (0x1A, resI, core, low)
  | .movhi core low => some (0x1B, resI, core, low)
  | .cmp core low => some (0x1C, (fun w => resI w || pBad (iD w) || decide (5 < bits (iImm w) 2 0)), core, low)
  | .lds core low => some (0x1D, resI, core, low)
  | .sts core low => some (0x1E, resI, core, low)
  | .plog core low => some (0x1F, (fun w => resI w || pBad (iD w) || pBad (iA w) || pBad (iB w)), core, low)
  | .mcfg core low => some (0x20, (fun w => resI w || mcfgBad w), core, low)
  | .mloadw core low => some (0x21, resR, core, low)
  | .mswap core low => some (0x22, resR, core, low)
  | .mmac core low => some (0x23, (fun w => bits w 20 0 != 0), core, low)
  | .mdarn core low => some (0x24, resR, core, low)
  | .mclr core low => some (0x25, resM, core, low)
  | .drain core low => some (0x30, resM, core, low)
  | .aread core low => some (0x31, (fun w => resM w || vBad (iD w) || decide (iRows w ≠ 1)), core, low)
  | .awrite core low => some (0x32, (fun w => resM w || vBad (iA w) || decide (iRows w ≠ 1)), core, low)
  | .vld core low => some (0x40, (fun w => resI w || vBad (iD w)), core, low)
  | .vst core low => some (0x41, (fun w => resI w || vBad (iB w)), core, low)
  | .vadd core low => some (0x42, (fun w => resR w || vBad (iD w) || vBad (iA w) || vBad (iB w)), core, low)
  | .vmul core low => some (0x43, (fun w => resR w || vBad (iD w) || vBad (iA w) || vBad (iB w)), core, low)
  | .vfma core low => some (0x44, (fun w => resR w || vBad (iD w) || vBad (iA w) || vBad (iB w)), core, low)
  | .vmax core low => some (0x45, (fun w => resR w || vBad (iD w) || vBad (iA w) || vBad (iB w)), core, low)
  | .vmin core low => some (0x46, (fun w => resR w || vBad (iD w) || vBad (iA w) || vBad (iB w)), core, low)
  | .vred core low => some (0x47, (fun w => resI w || vBad (iD w) || vBad (iA w) || decide (bits (iImm w) 1 0 = 3)), core, low)
  | .vtab core low => some (0x48, (fun w => resI w || vBad (iD w) || vBad (iA w)), core, low)
  | .vcvt core low => some (0x49, (fun w => resI w || vcvtBad w), core, low)
  | .vbcast core low => some (0x4A, (fun w => resR w || vBad (iD w)), core, low)
  | .vmovs core low => some (0x4B, (fun w => resI w || vBad (iA w)), core, low)
  | .srd core low => some (0x50, resR, core, low)
  | .swr core low => some (0x51, resR, core, low)
  | .swait core low => some (0x52, resR, core, low)
  | .sempost core low => some (0x60, resI, core, low)
  | .semwait core low => some (0x61, resI, core, low)
  | .semtry core low => some (0x62, (fun w => resI w || pBad (iD w)), core, low)
  | .qpush core low => some (0x70, resI, core, low)
  | .qpop core low => some (0x71, resI, core, low)
  | .cpush core low => some (0x72, resI, core, low)
  | .cpop core low => some (0x73, resI, core, low)
  | .vqpush core low => some (0x74, (fun w => resI w || vBad (iA w)), core, low)
  | .vqpop core low => some (0x75, (fun w => resI w || vBad (iD w)), core, low)
  | .carm core low => some (0x80, (fun w => resI w || decide (bits (iImm w) 14 0 = 0) || decide (16384 < bits (iImm w) 14 0)), core, low)
  | .cfetch core low => some (0x81, (fun w => resI w || decide (bits (iImm w) 6 0 = 0) || decide (64 < bits (iImm w) 6 0)), core, low)
  | .cdone core low => some (0x82, (fun w => resR w || pBad (iD w)), core, low)
  | .rdstat core low => some (0x90, (fun w => resI w || !statListed (bits (iImm w) 7 0)), core, low)
  | _ => none

/-- Commands of the core die: every one that needs its power. -/
def ofDie (i : Instr) : Bool :=
  match i with
  | .milestone _ => true
  | .legPeriodNextWrite _ _ => false
  | .legChangeAtWrite _ _ => false
  | .legSyncWrite _ _ => false
  | .legErrClearMax _ _ => false
  | .mileInEdge _ => true
  | .timingMessage _ _ _ _ _ _ _ _ => true
  | .holdoverEntry => true
  | .nop _ _ => true
  | .tbound _ _ => true
  | .end_ _ _ => true
  | .tileBoundary _ _ _ => true
  | .br _ _ => true
  | .loop _ _ => true
  | .fence _ _ => true
  | .fault _ _ => true
  | .add _ _ => true
  | .sub _ _ => true
  | .mul _ _ => true
  | .and _ _ => true
  | .or _ _ => true
  | .xor _ _ => true
  | .shl _ _ => true
  | .shr _ _ => true
  | .min _ _ => true
  | .max _ _ => true
  | .addi _ _ => true
  | .movhi _ _ => true
  | .cmp _ _ => true
  | .lds _ _ => true
  | .sts _ _ => true
  | .plog _ _ => true
  | .mcfg _ _ => true
  | .mloadw _ _ => true
  | .mswap _ _ => true
  | .mmac _ _ => true
  | .mdarn _ _ => true
  | .mclr _ _ => true
  | .drain _ _ => true
  | .aread _ _ => true
  | .awrite _ _ => true
  | .vld _ _ => true
  | .vst _ _ => true
  | .vadd _ _ => true
  | .vmul _ _ => true
  | .vfma _ _ => true
  | .vmax _ _ => true
  | .vmin _ _ => true
  | .vred _ _ => true
  | .vtab _ _ => true
  | .vcvt _ _ => true
  | .vbcast _ _ => true
  | .vmovs _ _ => true
  | .srd _ _ => true
  | .swr _ _ => true
  | .swait _ _ => true
  | .sempost _ _ => true
  | .semwait _ _ => true
  | .semtry _ _ => true
  | .qpush _ _ => true
  | .qpop _ _ => true
  | .cpush _ _ => true
  | .cpop _ _ => true
  | .vqpush _ _ => true
  | .vqpop _ _ => true
  | .carm _ _ => true
  | .cfetch _ _ => true
  | .cdone _ _ => true
  | .rdstat _ _ => true
  | .tileOvertime _ => true
  | .coreFaultClear _ _ _ => false
  | .coreArithClearCounts _ _ _ => false
  | .coreArithClearHist _ _ _ => false
  | .flitEnterQueue _ _ _ => true
  | .semPostArrival _ _ _ => true
  | .steeringFire _ _ => true
  | .epochAdvance _ _ => true
  | .stall _ => true
  | .pressCommit _ => true
  | .pressNotQuiet _ => true
  | .pressLoadComplete _ _ => true
  | .wring _ _ _ => false
  | .wringDone _ => true
  | .scanIn _ _ _ => false
  | .districtRelease _ _ _ => false
  | .servingPlanCtrlWrite _ _ => false
  | .descriptorStart _ _ _ => true
  | .descriptorComplete _ _ _ _ => true
  | .farPost _ _ _ => true
  | .remoteTimeout _ _ => true
  | .descriptorSlotFreed _ _ _ => true
  | .tierStreamFaultClear _ _ => false
  | .alloc _ _ _ => false
  | .free _ _ _ => false
  | .allocationFreeCommit _ => true
  | .publish _ _ _ => false
  | .publishDigestDone _ => true
  | .moveCommit _ _ => true
  | .largeTierScrub _ _ => true
  | .lendRecall _ _ _ => true
  | .tierLendCtrlWrite _ _ => false
  | .washRegionDone => true
  | .seamSubmit _ _ _ _ _ _ => true
  | .seamLocalPrepare _ => true
  | .seamCommitPoint _ => true
  | .seamTimeout _ => true
  | .seamPrepare _ _ _ _ _ => true
  | .seamReady _ _ => true
  | .seamRefuse _ _ _ => true
  | .seamCommit _ _ => true
  | .seamUnpick _ _ _ => true
  | .seamDone _ _ _ => true
  | .seamQuery _ _ => true
  | .seamQueryTimer _ => true
  | .seamPeerTimeout _ => true
  | .seamCtrlClearMax _ _ => false
  | .request _ _ _ _ => false
  | .prefixInsert _ => true
  | .prefixFlush _ _ => false
  | .prefixTreeLog2Write _ _ => false
  | .exchangeTakeBlock _ => true
  | .claim _ _ _ _ _ => true
  | .expertWindowSettle _ => true
  | .grant _ _ _ _ => true
  | .row _ _ _ => true
  | .result _ _ => true
  | .failed _ => true
  | .expertTimeout _ _ _ => true
  | .privateExpertLoadDone _ _ _ _ _ => true
  | .formationMovesDone _ => true
  | .evictionQuiet _ => true
  | .evictionTimeout _ => true
  | .demotionSaveDone _ => true
  | .bcast _ _ _ _ _ _ _ _ _ _ _ => true
  | .bcastEnd _ _ _ _ _ _ _ _ _ _ => true
  | .bcastResume _ _ _ _ _ => true
  | .servingResClear _ _ => false
  | .flitReceive _ _ _ => true
  | .retryRequest _ _ => true
  | .retryTimer _ => true
  | .linkState _ _ => true
  | .linkStateTimer _ => true
  | .portTrainingStep _ _ _ => true
  | .portDown _ _ => true
  | .transportMessage _ _ => true
  | .ackTimer _ => true
  | .retransmitTimer _ _ => true
  | .probeStart _ => true
  | .probe _ => true
  | .probeReply _ _ => true
  | .probeTimeout _ => true
  | .nodeLost _ _ _ => true
  | .nodeJoined _ _ _ => true
  | .isolationTimer => true
  | .read _ _ _ _ _ => true
  | .write _ _ _ _ _ => true
  | .moveData _ _ _ _ _ _ _ => true
  | .msg _ _ _ => true
  | .readData _ _ _ => true
  | .writeAck _ _ => true
  | .refuse _ _ => true
  | .moveAck _ => true
  | .delayTimer _ => true
  | .delayRequest _ _ => true
  | .delayResponse _ _ _ => true
  | .portEnable _ _ => true
  | .portDisable _ => true
  | .portKill _ => true
  | .causewayNodeWrite _ => true
  | .postedWriteApply _ => false
  | .mailboxHandover _ _ _ _ _ => false
  | .outConsWrite _ _ _ => false
  | .msixHoldoffExpiry _ _ => false
  | .hello _ _ _ => false
  | .cancel _ _ _ => false
  | .dataPut _ _ _ => false
  | .dataGet _ _ _ => false
  | .seam _ _ _ => false
  | .seamAbort _ _ _ => false
  | .disable _ _ _ => false
  | .emergencyDisable _ _ _ => false
  | .enable _ _ _ => false
  | .setLeg _ _ _ => false
  | .setPower _ _ _ => false
  | .query _ _ _ => false
  | .eventMask _ _ _ => false
  | .fwUpdate _ _ _ => false
  | .cpRestart _ _ _ => false
  | .pfFlr => false
  | .vfFlr _ => false
  | .cpWatchdogExpiry _ => false
  | .cpException _ _ => false
  | .fwRestartWrite _ _ _ => false
  | .cpRestartDone _ => false
  | .fwImageVerified => false
  | .fwHandoffTimeout _ => false
  | .mctpControl _ _ => false
  | .pldmCommand _ => false
  | .pldmFwUpdate _ => false
  | .heartbeat _ => false
  | .heartbeatLost => false
  | .spdmGetVersion => false
  | .spdmGetCapabilities => false
  | .spdmNegotiateAlgorithms => false
  | .spdmGetDigests => false
  | .spdmGetCertificate _ _ _ => false
  | .spdmChallenge _ _ => false
  | .spdmGetMeasurements _ _ => false
  | .lcStatus => false
  | .lcNonce => false
  | .lcNonceExpiry => false
  | .lcToken _ => false
  | .provision _ => false
  | .garbageCollection _ _ _ _ _ _ _ _ => false
  | .staticWearLevelling _ _ _ _ _ => false
  | .mapWriteback _ => false
  | .bankCompaction _ => false
  | .storePatrolScrub _ _ _ _ _ => false
  | .storeZqCalibration => false
  | .vauxGood => false
  | .p1Complete _ => false
  | .startGrantAssert => false
  | .startGrantWithdraw => false
  | .vmainGood => false
  | .pcieLinkUp => false
  | .perstDeassert => false
  | .perstAssert => false
  | .p2Complete _ => false
  | .p3Complete _ => false
  | .p4Complete => false
  | .powerSample _ => false
  | .clampRelease _ => false
  | .pwrfailAssert => false
  | .vmainLow => false
  | .vauxLow => false
  | .resetAssert => false
  | .resetDeassert => false
  | .saveComplete => false
  | .pwrfailDeassert => false
  | .powerCapWrite _ _ => false
  | .flSupplyOvercurrent _ => false
  | .lpddrRetrain _ _ _ _ => true
  | .globalPllCtrlWrite _ _ => false
  | .snapTake _ _ => false
  | .snapRelease _ _ => false
  | .aliasWrite _ _ _ => false
  | .registerWrite _ _ _ _ => false
  | .scanInComplete _ => true
  | .laserLightRestored _ => true
  | .vmainAt40V => false
  | .configurationRequest _ _ _ => false
  | .directoryCopyRewritten => true
  | .mapPageRebuildDone _ => false
  | .replicaMade _ _ _ _ => true
  | .bankRecordWritten _ _ _ => false
  | .weightBroadcastStart _ _ _ _ _ _ _ _ => true
  | .testPortInstruction _ => false

/-- Commands that may reach the life cycle: tokens, bundles, and what starts the safe domain (R456, R483, R484). -/
def reachesLifeCycle (i : Instr) : Bool :=
  match i with
  | .lcToken _ => true
  | .provision _ => true
  | .vauxGood => true
  | .perstAssert => true
  | .resetAssert => true
  | .resetDeassert => true
  | .saveComplete => true
  | .pwrfailDeassert => true
  | _ => false

/-! Frames. -/

/-- A core's scalar, predicate and vector registers are those of another state of it. -/
def Core.sameRegs (j k : Core) : Prop := j.scal = k.scal ∧ j.pred = k.pred ∧ j.vec = k.vec

/-- Every core but one is the same in two states. -/
def OtherCores (c : Nat) (s t : State) : Prop := ∀ d, d ≠ c → t.core d = s.core d

/-- A core with what counting and auditing change as another has it: the increments of the leg, whether events were raised, the audit in
flight, the starts counted for it and the rounding register. -/
def Core.uncounted (j k : Core) : Core :=
  { j with
    legSat := k.legSat, legOvf := k.legOvf, limitRaised := k.limitRaised, auditRaised := k.auditRaised, audit := k.audit
    auditNext := k.auditNext, auditCount := k.auditCount, lfsr := k.lfsr }

/-- One state is another but for one core, and the number of the next free value. -/
def OnlyCore (c : Nat) (s t : State) : Prop := { t with cores := s.cores, free := s.free } = s ∧ OtherCores c s t

/-- Counters of a core's arithmetic and audits: CORE_ARITH_SAT to CORE_HIST_DRAIN, but for what the host sets there (Table 4.7). -/
def countsOf (c off : Nat) : Bool :=
  decide (Reg.CORE_ARITH_SAT c ≤ off) && decide (off ≤ Reg.CORE_HIST_DRAIN c 15) && off != Reg.CORE_ARITH_LIMIT c &&
    off != Reg.CORE_AUDIT_CTRL c && off != Reg.CORE_AUDIT_THRESH c && off != Reg.CORE_ARITH_CLEAR c

/-- Registers that telling the host changes: MAILBOX_BACKLOG and MAILBOX_LOST of a set, EVENT_PROD, EVENT_LOST, FW_LOG_PROD. -/
def tells (off : Nat) : Bool :=
  (decide (0x030100 ≤ off) && decide (off < 0x030300) && off % 8 == 4) || off == Reg.EVENT_PROD || off == Reg.EVENT_LOST || off == Reg.FW_LOG_PROD

/-- One state is another after the host has been told something: events, messages, vectors and the log, and nothing else. -/
structure Told (s t : State) : Prop where
  part : t.part = s.part
  snap : t.snap = s.snap
  posted : t.posted = s.posted
  leg : t.leg = s.leg
  serving : t.serving = s.serving
  tables : t.tables = s.tables
  seams : t.seams = s.seams
  tier : t.tier = s.tier
  cause : t.cause = s.cause
  cores : t.cores = s.cores
  net : t.net = s.net
  expert : t.expert = s.expert
  store : t.store = s.store
  power : t.power = s.power
  enclave : t.enclave = s.enclave
  mgmt : t.mgmt = s.mgmt
  test : t.test = s.test
  due : t.due = s.due
  pending : t.pending = s.pending
  regs : ∀ off, tells off = false → t.reg off = s.reg off

/-- One state is another after a core has computed: the core, its counters of arithmetic and audits and the event they raise, and nothing
else. -/
structure Worked (c : Nat) (s t : State) : Prop where
  told : Told { s with cores := t.cores, regs := t.regs } t
  cores : OtherCores c s t
  regs : ∀ off, tells off = false → countsOf c off = false → t.reg off = s.reg off

/-- Registers that handing a packet to a port changes: CAUSEWAY_PORT_TX_FLITS of a port and CAUSEWAY_NOROUTE. -/
def carries (off : Nat) : Bool :=
  off == Reg.CAUSEWAY_NOROUTE || (decide (0x400020 ≤ off) && decide (off < 0x410000) && off % 0x1000 == 0x20)

/-- One state is another after the host or another node has been told something: what `Told` allows, the Causeway transport and what it
has put on its links, and nothing else. -/
structure Talked (s t : State) : Prop where
  part : t.part = s.part
  snap : t.snap = s.snap
  posted : t.posted = s.posted
  leg : t.leg = s.leg
  serving : t.serving = s.serving
  tables : t.tables = s.tables
  seams : t.seams = s.seams
  tier : t.tier = s.tier
  cores : t.cores = s.cores
  net : t.net = s.net
  expert : t.expert = s.expert
  store : t.store = s.store
  power : t.power = s.power
  enclave : t.enclave = s.enclave
  mgmt : t.mgmt = s.mgmt
  test : t.test = s.test
  due : t.due = s.due
  pending : t.pending = s.pending
  regs : ∀ off, tells off = false → carries off = false → t.reg off = s.reg off

/-- The transport takes a system message for a node now: it is not lost, and fewer flows than the limit wait for acknowledgement (R365,
R382). -/
def State.canSend (s : State) (node : Nat) : Prop :=
  s.nodeLost node = false ∧ (s.cause.tx.filter (fun f => !f.unacked.isEmpty)).length < State.flowLimit

/-- A system transaction as it is handed to the transport. -/
def sysTxn (node op : Nat) (args : List Nat) : Txn := { node, part := none, op, status := 0, args, data := [] }

/-- A message of a type passes every test of Table 15.7 when it is read from a set. -/
def State.accepts (s : State) (set : Fin 32) (fn : Fin 33) (type : Nat) (head : HostHead) : Prop :=
  let b := hostMessage type head
  State.lengthBad b = false ∧ fieldAt b 4 2 = b.length ∧ s.headerStatus set.val fn.val b = 0

/-- A seam record that no port and no press of a context waits for, with a generation of eight bits and sets and partitions that exist. -/
def Seam.plain (x : Seam) : Prop :=
  x.gen < 256 ∧ x.port = none ∧ x.pressCtx = none ∧ (∀ p i, x.scope = some (p, i) → p < 32) ∧ (∀ p q, x.host = some (p, q) → p < 32)

/-- A seam record has become free with a status of an unpicked seam: counted, and shown by SEAM_LAST (Tables 9.9, 9.10). -/
def State.unpicked (s t : State) (k status : Nat) : Prop :=
  t.seam? k = none ∧ t.rd Reg.SEAM_UNPICKED = (s.rd Reg.SEAM_UNPICKED + 1) % 2 ^ 32 ∧ t.fld Reg.SEAM_LAST 31 24 = status

/-- Two states agree in all but their registers, and in every register but those that pass a test. -/
def OnlyRegs (touched : Nat → Bool) (s t : State) : Prop :=
  { t with regs := s.regs } = s ∧ ∀ off, touched off = false → t.reg off = s.reg off

/-- P0 has begun: phase 0, nothing of the start done, and nothing left of what the core die and the host interface held (R16, R236, R486). -/
def State.atP0 (s : State) : Prop :=
  s.phase = 0 ∧ s.power.p1Done = false ∧ s.power.loadsOn = false ∧ s.power.vmainGood = false ∧ s.power.saving = none ∧ s.power.held = false ∧
    s.leg = {} ∧ s.serving = {} ∧ s.tables = [] ∧ s.seams = {} ∧ s.cores = [] ∧ s.net = {} ∧ s.expert = {} ∧ s.cause = {} ∧ s.host.mboxes = [] ∧
    s.enclave.pending = none ∧ s.enclave.nonce = none

/-! Register writes. -/

/-- Registers whose writes do more than change their fields (Tables 2.5 to 19.7). -/
def actingRegs : List String := ["LEG_PERIOD_NEXT", "LEG_CHANGE_AT", "LEG_SYNC", "LEG_ERR", "CORE_FAULT", "CORE_ARITH_CLEAR",
  "SERVING_DIST_WRING_CTRL", "SERVING_PLAN_CTRL", "SERVING_SCHED", "SERVING_PREFIX_CTRL", "SERVING_RES_CLEAR", "TIER_STREAM_FAULT",
  "TIER_LEND_CTRL", "SEAM_CTRL", "CAUSEWAY_PORT_CTRL", "CAUSEWAY_NODE", "FW_RESTART", "SNAP_CTRL"]

/-- Commands that are a 4-byte write to a register: the function that writes, the offset and the value. -/
def regWrite (i : Instr) : Option (Fin 33 × Nat × W32) :=
  match i with
  | .legPeriodNextWrite fn v => some (fn, Reg.LEG_PERIOD_NEXT, v)
  | .legChangeAtWrite fn v => some (fn, Reg.LEG_CHANGE_AT, v)
  | .legSyncWrite fn v => some (fn, Reg.LEG_SYNC, v)
  | .legErrClearMax fn v => some (fn, Reg.LEG_ERR, v)
  | .coreFaultClear fn core v => some (fn, Reg.CORE_FAULT core.toNat, v)
  | .coreArithClearCounts fn core v => some (fn, Reg.CORE_ARITH_CLEAR core.toNat, v)
  | .coreArithClearHist fn core v => some (fn, Reg.CORE_ARITH_CLEAR core.toNat, v)
  | .wring fn d v => some (fn, Reg.SERVING_DIST_WRING_CTRL d.val, v)
  | .scanIn fn d v => some (fn, Reg.SERVING_DIST_WRING_CTRL d.val, v)
  | .districtRelease fn d v => some (fn, Reg.SERVING_DIST_WRING_CTRL d.val, v)
  | .servingPlanCtrlWrite fn v => some (fn, Reg.SERVING_PLAN_CTRL, v)
  | .tierStreamFaultClear fn v => some (fn, Reg.TIER_STREAM_FAULT, v)
  | .tierLendCtrlWrite fn v => some (fn, Reg.TIER_LEND_CTRL, v)
  | .seamCtrlClearMax fn v => some (fn, Reg.SEAM_CTRL, v)
  | .prefixFlush fn v => some (fn, Reg.SERVING_PREFIX_CTRL, v)
  | .prefixTreeLog2Write fn v => some (fn, Reg.SERVING_PREFIX_CTRL, v)
  | .servingResClear fn v => some (fn, Reg.SERVING_RES_CLEAR, v)
  | .powerCapWrite fn v => some (fn, Reg.POWER_CAP, v)
  | .globalPllCtrlWrite fn v => some (fn, Reg.GLOBAL_PLL_CTRL, v)
  | .snapTake fn v => some (fn, Reg.SNAP_CTRL, v)
  | .snapRelease fn v => some (fn, Reg.SNAP_CTRL, v)
  | .fwRestartWrite fn v none => some (fn, Reg.FW_RESTART, v)
  | _ => none

/-! The life cycle. -/

/-- A state of Table 18.4. -/
def legalState (n : Nat) : Bool := decide (n ≤ 4)

/-- The life cycle is in a state of Table 18.4, a pending transition leads to one that a token or bundle can reach, and the epochs lie
within their counters. -/
def State.lifeCycleLegal (s : State) : Prop :=
  legalState s.enclave.state = true ∧ s.enclave.storeEpoch ≤ 64 ∧ s.enclave.systemEpoch ≤ 2 ∧
    ∀ t b, s.enclave.pending = some (t, b) → 1 ≤ t ∧ legalState t = true

end Sys2Proof.Machine
end

