-- ==== Sys2Proof/Certificates/Slice0/Obligations.lean ====
section
/-!
DEFINITION. Statements about the model for the provers.
-/
open Sys2Proof Sys2Proof.Machine

/-! The queue. -/

/-- A step takes the command at the front of the queue: it is that command's effect on the state with the queue's rest. -/
def Obligations.StepTakesTheFrontCommand : Prop :=
  ∀ (s : State) (c : Instr) (rest : List Instr), s.pending = c :: rest → step s = exec c { s with pending := rest }

/-- On an empty queue 10 ns pass where the timebase runs, and where no work of the store is queued nothing else happens (the model's choice,
log entry 32); queued work that nothing goes before is then taken up (log entry 143). Every command completes, and leaves the part and the
queue's rest; so the queue, however long, runs to its end. -/
def Obligations.QueueRunsDryAndTimeGoesOn : Prop :=
  (∀ s : State, s.pending = [] → s.store.queue = [] →
      (s.leg.running = false → step s = .next s) ∧
      (s.leg.running = true → step s = .next { s with leg := { s.leg with sub := s.leg.sub + 1 } })) ∧
  (∀ (s : State) (x : StoreReq) (rest : List StoreReq), s.pending = [] → s.store.queue = x :: rest →
      step s = (tick s).runPlain (fun s => s.serveStore (rest.length + 1)) ∧
      (s.due = [] → (∀ y ∈ s.store.queue, (tick s).workWaits y = true) → step s = .next (tick s))) ∧
  (∀ s : State, ∃ t : State, Host.Core.run Sys2Proof.core s.pending.length s = Host.Outcome.next t ∧ t.pending = [] ∧ t.part = s.part ∧ (s.due = [] → t.due = []))

/-- Without the core die's power, no command of the core die changes anything. -/
def Obligations.UnpoweredDieStandsStill : Prop :=
  ∀ (s : State) (c : Instr), ofDie c = true → s.power.vmainGood = false → s.due = [] → exec c s = .next s

/-! The life cycle (R481 to R485). -/

/-- In every state whose life cycle is legal, every step leaves it legal. -/
def Obligations.EveryStepKeepsTheLifeCycleLegal : Prop :=
  ∀ s t : State, s.lifeCycleLegal → step s = .next t → t.lifeCycleLegal

/-- The life cycle is legal at reset. -/
def Obligations.LifeCycleIsLegalAtReset : Prop := State.reset.lifeCycleLegal

/-- No command but a token, a bundle and those that start the safe domain changes the life cycle, the epochs, the least security version,
the revoked keys or the owner. A retired module stays retired: no step leads out of RETIRED. -/
def Obligations.OnlyTokensAndBundlesReachTheLifeCycle : Prop :=
  (∀ (s t : State) (c : Instr), reachesLifeCycle c = false → exec c s = .next t →
      t.enclave.state = s.enclave.state ∧ t.enclave.pending = s.enclave.pending ∧ t.enclave.storeEpoch = s.enclave.storeEpoch ∧
        t.enclave.systemEpoch = s.enclave.systemEpoch ∧ t.enclave.minSvn = s.enclave.minSvn ∧ t.enclave.revoked = s.enclave.revoked ∧
        t.enclave.ownerHash = s.enclave.ownerHash) ∧
  (∀ s t : State, s.enclave.state = 4 → s.enclave.pending = none → step s = .next t →
      t.enclave.state = 4 ∧ t.enclave.pending = none)

/-! Issue of tile instructions (R63, R71, R72). -/

/-- A core that runs no tile, or stands at a boundary, issues nothing; nor does one at whose program counter another listed word stands
(the model's choice, log entry 21). An instruction whose predicate does not hold completes as NOP. -/
def Obligations.InstructionIssuesWhereItStandsAndHolds : Prop :=
  (∀ (s : State) (i : Instr) (op : Nat) (res : Nat → Bool) (core : BitVec 10) (low : BitVec 56),
      tileRow i = some (op, res, core, low) → s.ready →
      let at_ := (s.fetch core.toNat (s.core core.toNat).pc).toNat
      (s.coreState core.toNat ≠ 1 ∨ (s.core core.toNat).boundary ≠ none ∨ (State.opListed (at_ / 2 ^ 56) = true ∧ at_ ≠ wordOf op low)) →
      exec i s = .next s) ∧
  (∀ (s : State) (i : Instr) (op : Nat) (res : Nat → Bool) (core : BitVec 10) (low : BitVec 56),
      tileRow i = some (op, res, core, low) → s.Issues op core low → res (wordOf op low) = false → ¬ s.predicated op core low →
      s.goesOn core.toNat → exec i s = .next (s.past core.toNat))

/-- A reserved encoding raises ILLEGAL_OP at issue, whether or not the predicate holds. Where a word with an opcode outside Table 3.3
stands at the program counter, issuing raises ILLEGAL_OP. Going on past instruction 4,095 raises SLOT_OVERRUN; the index then recorded is
a free value. -/
def Obligations.ReservedWordsRaiseIllegalOp : Prop :=
  (∀ (s : State) (i : Instr) (op : Nat) (res : Nat → Bool) (core : BitVec 10) (low : BitVec 56),
      tileRow i = some (op, res, core, low) → s.Issues op core low → res (wordOf op low) = true →
      exec i s = s.runCore (fun s => s.coreFault core.toNat (s.activeSlot core.toNat) 0x01 (s.core core.toNat).pc)) ∧
  (∀ (s : State) (i : Instr) (op : Nat) (res : Nat → Bool) (core : BitVec 10) (low : BitVec 56),
      tileRow i = some (op, res, core, low) → s.ready → s.coreState core.toNat = 1 → (s.core core.toNat).boundary = none →
      State.opListed ((s.fetch core.toNat (s.core core.toNat).pc).toNat / 2 ^ 56) = false →
      exec i s = s.runCore (fun s => s.coreFault core.toNat (s.activeSlot core.toNat) 0x01 (s.core core.toNat).pc)) ∧
  (∀ (s : State) (core : BitVec 10) (low : BitVec 56),
      let c := core.toNat
      let overrun := s.runCore (fun s => s.drawn.coreFault c (s.activeSlot c) 0x02 (s.draw.toNat % 4096))
      (∀ (i : Instr) (op : Nat) (res : Nat → Bool), tileRow i = some (op, res, core, low) → s.Issues op core low → res (wordOf op low) = false →
        ¬ s.predicated op core low → ¬ s.goesOn c → exec i s = overrun) ∧
      (s.Issues 0x00 core low → s.predicated 0x00 core low → resR (wordOf 0x00 low) = false → ¬ s.goesOn c → exec (.nop core low) s = overrun) ∧
      (s.Issues 0x1A core low → s.predicated 0x1A core low → resI (wordOf 0x1A low) = false → ¬ s.goesOn c →
        exec (.addi core low) s = s.runCore (fun s =>
          let w := wordOf 0x1A low
          let u := s.updCore c (fun k => k.setS (iD w) (k.s (iA w) + (BitVec.ofNat 32 (iImm w)).signExtend 64))
          u.drawn.coreFault c (u.activeSlot c) 0x02 (u.draw.toNat % 4096))))

/-- s0 reads 0 and p0 reads 1, and what is written to them is discarded. Tile entry leaves no register's value: the scalar registers
hold the item's arguments alone, the predicates but p0 are 0, the vector registers 0, and both halves of the weight store are empty. -/
def Obligations.RegisterZeroIsFixed : Prop :=
  (∀ (k : Machine.Core) (v : W64) (b : Bool), k.s 0 = 0 ∧ k.setS 0 v = k ∧ k.p 0 = true ∧ k.setP 0 b = k) ∧
  (∀ (s : State) (core pc : Nat) (i : Item),
      let k := (s.enterTile core pc (s.itemArgs i)).core core
      (∀ n, n = 0 ∨ 8 < n → k.s n = 0) ∧ (∀ n, 0 < n → k.p n = false) ∧ (∀ n, k.v n = 0) ∧ k.pc = pc ∧ k.loops = [] ∧
        k.active = {} ∧ k.inactive = {} ∧ k.darns = [] ∧ (∀ d, d ≠ core → (s.enterTile core pc (s.itemArgs i)).core d = s.core d))

/-! Sequencer and scalar instructions (Table 3.3). -/

/-- NOP and FENCE only go on; TBOUND and END stop the core at a boundary with the instruction after them; BR goes to its target and
pops the loops whose body it leaves, and no other; LOOP pushes its body with the passes of s[a], or of count where a is s0, and skips it
for 0 passes; the stack holds at most four loops, and a fifth raises LOOP_DEPTH. -/
def Obligations.SequencerInstructions : Prop :=
  (∀ (dest : Nat) (loops : List (Nat × Nat × Nat)), ∃ gone, loops = gone ++ popLoops dest loops ∧ (∀ x ∈ gone, ¬ (x.1 ≤ dest ∧ dest ≤ x.2.1)) ∧
    (∀ x, (popLoops dest loops).head? = some x → x.1 ≤ dest ∧ dest ≤ x.2.1)) ∧
  ∀ (s : State) (core : BitVec 10) (low : BitVec 56),
    let c := core.toNat
    let pc := (s.core c).pc
    (s.Executes 0x00 core low → resR (wordOf 0x00 low) = false → exec (.nop core low) s = .next (s.past c)) ∧
    (s.Executes 0x05 core low → resR (wordOf 0x05 low) = false → exec (.fence core low) s = .next (s.past c)) ∧
    (s.Issues 0x01 core low → s.predicated 0x01 core low → resR (wordOf 0x01 low) = false →
      exec (.tbound core low) s = .next (s.updCore c (fun k => { k with boundary := some (pc + 1, false), moved := s.now }))) ∧
    (s.Issues 0x02 core low → s.predicated 0x02 core low → resR (wordOf 0x02 low) = false →
      exec (.end_ core low) s = .next (s.updCore c (fun k => { k with boundary := some (pc + 1, true), moved := s.now }))) ∧
    (s.Issues 0x03 core low → s.predicated 0x03 core low → bits (wordOf 0x03 low) 20 0 = 0 →
      exec (.br core low) s = .next (s.updCore c (fun k => { k with
        pc := iTarget (wordOf 0x03 low), loops := popLoops (iTarget (wordOf 0x03 low)) (s.core c).loops, moved := s.now }))) ∧
    (s.Issues 0x04 core low → s.predicated 0x04 core low → (s.core c).loops.length < 4 → pc + 1 ≤ 4095 → pc < iTarget (wordOf 0x04 low) →
      let w := wordOf 0x04 low
      let n := if iA w = 0 then iCount w else ((s.core c).s (iA w)).toNat
      n ≠ 0 → exec (.loop core low) s = .next (s.updCore c (fun k => { k with
        pc := pc + 1, loops := (pc + 1, iTarget w, n) :: (s.core c).loops, moved := s.now }))) ∧
    (s.Issues 0x04 core low → s.predicated 0x04 core low → (s.core c).loops.length < 4 →
      let w := wordOf 0x04 low
      (if iA w = 0 then iCount w else ((s.core c).s (iA w)).toNat) = 0 → (afterPc (s.core c).loops (iTarget w)).1 ≤ 4095 →
      exec (.loop core low) s = .next (s.updCore c (fun k => { k with
        pc := (afterPc (s.core c).loops (iTarget w)).1, loops := (afterPc (s.core c).loops (iTarget w)).2, moved := s.now }))) ∧
    (s.Issues 0x04 core low → s.predicated 0x04 core low → 4 ≤ (s.core c).loops.length →
      exec (.loop core low) s = s.runCore (fun s => s.coreFault c (s.activeSlot c) 0x0C pc))

/-- FAULT raises PROGRAM_FAULT with its detail; a fifth nested LOOP raises LOOP_DEPTH; a tile of 80,000 cycles raises TILE_OVERTIME. The fault
is recorded with its slot, code and index; where no task stands in the slot and no item waits, the core is left without an item. -/
def Obligations.InstructionsThatFault : Prop :=
  ∀ (s : State) (core : BitVec 10) (low : BitVec 56),
    let c := core.toNat
    let slot := s.activeSlot c
    let pc := (s.core c).pc
    let faults (i : Instr) (code : Nat) (detail : List Nat) : Prop :=
      exec i s = s.runCore (fun s => s.coreFault c slot code pc detail) ∧
      (s.ctxOf (State.districtOf c) slot = none → s.serving.items = [] → ∃ t, exec i s = .next t ∧
        t.rd (Reg.CORE_FAULT c) = 2 ^ 31 + slot * 2 ^ 14 + code ∧ t.rd (Reg.CORE_FAULT_PC c) = pc % 4096 ∧ t.coreState c = 4 ∧
        (t.core c).item = none ∧ OtherCores c s t)
    (s.Issues 0x06 core low → s.predicated 0x06 core low → resI (wordOf 0x06 low) = false →
      faults (.fault core low) 0x0A [bits (iImm (wordOf 0x06 low)) 15 0]) ∧
    (s.Issues 0x04 core low → s.predicated 0x04 core low → 4 ≤ (s.core c).loops.length → faults (.loop core low) 0x0C []) ∧
    (s.ready → s.coreState c = 1 → (s.core c).boundary = none → (s.core c).tileStart + 5000 ≤ s.now → faults (.tileOvertime core) 0x0B [])

/-- Scalar arithmetic writes s[d] alone: each instruction with its operation on s[a], s[b] or the immediate. -/
def Obligations.ScalarArithmetic : Prop :=
  ∀ (s : State) (core : BitVec 10) (low : BitVec 56),
    let c := core.toNat
    let alu (op : Nat) (i : Instr) (f : W64 → W64 → W64) : Prop :=
      let w := wordOf op low
      s.Executes op core low → resR w = false →
        exec i s = .next ((s.updCore c (fun k => k.setS (iD w) (f (k.s (iA w)) (k.s (iB w))))).past c)
    alu 0x10 (.add core low) (fun a b => a + b) ∧ alu 0x11 (.sub core low) (fun a b => a - b) ∧
    alu 0x12 (.mul core low) (fun a b => a * b) ∧ alu 0x13 (.and core low) (fun a b => a &&& b) ∧
    alu 0x14 (.or core low) (fun a b => a ||| b) ∧ alu 0x15 (.xor core low) (fun a b => a ^^^ b) ∧
    alu 0x16 (.shl core low) (fun a b => a <<< (b.toNat % 64)) ∧ alu 0x17 (.shr core low) (fun a b => a >>> (b.toNat % 64)) ∧
    alu 0x18 (.min core low) (fun a b => if a.ult b then a else b) ∧ alu 0x19 (.max core low) (fun a b => if a.ult b then b else a) ∧
    (s.Executes 0x1A core low → resI (wordOf 0x1A low) = false →
      let w := wordOf 0x1A low
      exec (.addi core low) s = .next ((s.updCore c (fun k => k.setS (iD w) (k.s (iA w) + (BitVec.ofNat 32 (iImm w)).signExtend 64))).past c)) ∧
    (s.Executes 0x1B core low → resI (wordOf 0x1B low) = false →
      let w := wordOf 0x1B low
      exec (.movhi core low) s = .next ((s.updCore c (fun k =>
        k.setS (iD w) (BitVec.ofNat 32 (iImm w) ++ (k.s (iD w)).extractLsb' 0 32))).past c))

/-- CMP writes p[d] with its comparison and PLOG with its operation on predicates; VMOVS and RDSTAT write s[d] with a lane and with a core
statistic. -/
def Obligations.PredicatesLanesAndStatistics : Prop :=
  ∀ (s : State) (core : BitVec 10) (low : BitVec 56),
    let c := core.toNat
    (s.Executes 0x1C core low →
      let w := wordOf 0x1C low
      (resI w || pBad (iD w) || decide (5 < bits (iImm w) 2 0)) = false →
      exec (.cmp core low) s = .next ((s.updCore c (fun k => k.setP (iD w)
        (match bits (iImm w) 2 0 with
          | 0 => k.s (iA w) == k.s (iB w)
          | 1 => k.s (iA w) != k.s (iB w)
          | 2 => (k.s (iA w)).ult (k.s (iB w))
          | 3 => (k.s (iA w)).ule (k.s (iB w))
          | 4 => (k.s (iA w)).slt (k.s (iB w))
          | _ => (k.s (iA w)).sle (k.s (iB w))))).past c)) ∧
    (s.Executes 0x1F core low →
      let w := wordOf 0x1F low
      (resI w || pBad (iD w) || pBad (iA w) || pBad (iB w)) = false →
      exec (.plog core low) s = .next ((s.updCore c (fun k => k.setP (iD w)
        (match bits (iImm w) 1 0 with
          | 0 => k.p (iA w) && k.p (iB w)
          | 1 => k.p (iA w) || k.p (iB w)
          | 2 => k.p (iA w) != k.p (iB w)
          | _ => k.p (iA w) && !k.p (iB w)))).past c)) ∧
    (s.Executes 0x4B core low →
      let w := wordOf 0x4B low
      (resI w || vBad (iA w)) = false →
      exec (.vmovs core low) s = .next ((s.updCore c (fun k =>
        k.setS (iD w) ((lane (k.v (iA w)) (bits (iImm w) 5 0)).setWidth 64))).past c)) ∧
    (s.Executes 0x90 core low →
      let w := wordOf 0x90 low
      (resI w || !statListed (bits (iImm w) 7 0)) = false →
      exec (.rdstat core low) s = .next ((s.updCore c (fun k =>
        k.setS (iD w) (BitVec.ofNat 64 (statValue s c (bits (iImm w) 7 0))))).past c))

/-- LDS and VLD read 8 and 256 bytes of scratchpad at s[a] + imm, STS and VST write them; every other byte of the scratchpad, every other
field of the core and everything else of the state stays, but that a 16-byte unit wholly written is readable again. A scratchpad access of a load or store outside the active share or in the journal raises SCRATCH_BOUNDS, a misaligned one
MISALIGNED, one that meets an unreadable unit, which a write does not wholly cover, SCRATCH_UE; any other raises nothing. -/
def Obligations.ScratchpadLoadsStoresAndFaults : Prop :=
  let stored (c a n : Nat) (s t : State) : Prop :=
    (∀ b, b < a ∨ a + n ≤ b → (t.core c).scratch.byte b = (s.core c).scratch.byte b) ∧
    (∀ u, u ∈ (t.core c).bad ↔ u ∈ (s.core c).bad ∧ ¬ (a ≤ u * 16 ∧ u * 16 + 16 ≤ a + n)) ∧
    { t.core c with scratch := (s.core c).scratch, bad := (s.core c).bad } = (s.past c).core c ∧ OnlyCore c s t
  (∀ (s : State) (c w : Nat), scratchAddr s c w = (((s.core c).s (iA w)).toNat + iImm w) % 2 ^ 64) ∧
  (∀ (s : State) (core : BitVec 10) (low : BitVec 56),
      let c := core.toNat
      (s.Executes 0x1D core low →
        let w := wordOf 0x1D low
        resI w = false → s.accessFault c (scratchAddr s c w) 8 8 = none →
        exec (.lds core low) s = .next ((s.updCore c (fun k =>
          k.setS (iD w) (BitVec.ofNat 64 (leNat (s.scratch c (scratchAddr s c w) 8))))).past c)) ∧
      (s.Executes 0x40 core low →
        let w := wordOf 0x40 low
        (resI w || vBad (iD w)) = false → s.accessFault c (scratchAddr s c w) 256 16 = none →
        exec (.vld core low) s = .next ((s.updCore c (fun k =>
          k.setV (iD w) (BitVec.ofNat 2048 (leNat (s.scratch c (scratchAddr s c w) 256))))).past c)) ∧
      (s.Executes 0x1E core low →
        let w := wordOf 0x1E low
        let a := scratchAddr s c w
        resI w = false → s.storeFault c a 8 8 = none →
        ∃ t, exec (.sts core low) s = .next t ∧ t.scratch c a 8 = leBytes 8 ((s.core c).s (iB w)).toNat ∧ stored c a 8 s t) ∧
      (s.Executes 0x41 core low →
        let w := wordOf 0x41 low
        let a := scratchAddr s c w
        (resI w || vBad (iB w)) = false → s.storeFault c a 256 16 = none →
        ∃ t, exec (.vst core low) s = .next t ∧ t.scratch c a 256 = leBytes 256 ((s.core c).v (iB w)).toNat ∧ stored c a 256 s t)) ∧
  (∀ (s : State) (core : BitVec 10) (low : BitVec 56) (f : Nat),
      let c := core.toNat
      let fault : Host.Outcome State Fault Refusal := s.runCore (fun s => s.coreFault c (s.activeSlot c) f (s.core c).pc)
      (s.Issues 0x1D core low → s.predicated 0x1D core low → resI (wordOf 0x1D low) = false →
        s.accessFault c (scratchAddr s c (wordOf 0x1D low)) 8 8 = some f → exec (.lds core low) s = fault) ∧
      (s.Issues 0x1E core low → s.predicated 0x1E core low → resI (wordOf 0x1E low) = false →
        s.storeFault c (scratchAddr s c (wordOf 0x1E low)) 8 8 = some f → exec (.sts core low) s = fault) ∧
      (s.Issues 0x40 core low → s.predicated 0x40 core low → (resI (wordOf 0x40 low) || vBad (iD (wordOf 0x40 low))) = false →
        s.accessFault c (scratchAddr s c (wordOf 0x40 low)) 256 16 = some f → exec (.vld core low) s = fault) ∧
      (s.Issues 0x41 core low → s.predicated 0x41 core low → (resI (wordOf 0x41 low) || vBad (iB (wordOf 0x41 low))) = false →
        s.storeFault c (scratchAddr s c (wordOf 0x41 low)) 256 16 = some f → exec (.vst core low) s = fault) ∧
      (∀ a n al, a % al ≠ 0 → s.accessFault c a n al = some 0x04 ∧ s.storeFault c a n al = some 0x04) ∧
      (∀ a n al, a % al = 0 → 0 < n →
        let share := s.rd (Reg.CORE_SHARE0 c + 4 * s.activeSlot c)
        let inside : Prop := bits share 5 0 * 65536 ≤ a ∧ a + n ≤ (bits share 5 0 + bits share 13 8) * 65536 ∧ a + n ≤ 0x2FFC00
        let meets (u : Nat) : Prop := u ∈ (s.core c).bad ∧ u * 16 < a + n ∧ a < u * 16 + 16
        (¬ inside → s.accessFault c a n al = some 0x03 ∧ s.storeFault c a n al = some 0x03) ∧
        (inside → (∃ u, meets u) → s.accessFault c a n al = some 0x05) ∧
        (inside → (∃ u, meets u ∧ ¬ (a ≤ u * 16 ∧ u * 16 + 16 ≤ a + n)) → s.storeFault c a n al = some 0x05) ∧
        (inside → (∀ u, ¬ meets u) → s.accessFault c a n al = none ∧ s.storeFault c a n al = none)))


/-! Matrix and accumulator instructions. -/

/-- MCFG sets the formats and darning; MLOADW loads the inactive half from the scratchpad and drops the darning rows, and changes nothing
else but the core's counts; MSWAP exchanges the halves once the inactive one is loaded, and waits until then; MDARN takes the valid entries
of its header and their rows, and raises ILLEGAL_OP while darning is not enabled, or where two entries name one row. An access that may not
be made raises its fault. -/
def Obligations.WeightsAndFormats : Prop :=
  ∀ (s : State) (core : BitVec 10) (low : BitVec 56),
    let c := core.toNat
    let k := s.core c
    let faults (f : Nat) : Host.Outcome State Fault Refusal := s.runCore (fun s => s.coreFault c (s.activeSlot c) f k.pc)
    (s.Executes 0x20 core low →
      let w := wordOf 0x20 low
      (resI w || mcfgBad w) = false →
      exec (.mcfg core low) s = .next ((s.updCore c (fun k => { k with
        wf := bits (iImm w) 4 0, af := bits (iImm w) 12 8, darn := bit (iImm w) 16 })).past c)) ∧
    (s.Executes 0x21 core low →
      let w := wordOf 0x21 low
      let kk := kOf k.wf k.af
      let n := 64 * runBytes k.wf kk
      let m := if fmtScaled k.wf then 64 * (kk / 32) else 0
      resR w = false →
      s.accessesFault c [((k.s (iA w)).toNat, n, 16), (if fmtScaled k.wf then (k.s (iB w)).toNat else 0, m, 4)] = none →
      ∃ t, exec (.mloadw core low) s = .next t ∧ Worked c s t ∧
        { t.core c with legSat := k.legSat, legOvf := k.legOvf, limitRaised := k.limitRaised } = { (s.past c).core c with
          inactive := { loaded := true, wf := k.wf, af := k.af, rows := kk, elems := s.scratch c (k.s (iA w)).toNat n
                        scales := s.scratch c (k.s (iB w)).toNat m }
          darns := [] }) ∧
    (∀ f, s.Issues 0x21 core low → s.predicated 0x21 core low →
      let w := wordOf 0x21 low
      let kk := kOf k.wf k.af
      resR w = false →
      s.accessesFault c [((k.s (iA w)).toNat, 64 * runBytes k.wf kk, 16), (if fmtScaled k.wf then (k.s (iB w)).toNat else 0,
        if fmtScaled k.wf then 64 * (kk / 32) else 0, 4)] = some f → exec (.mloadw core low) s = faults f) ∧
    (s.Executes 0x22 core low → resR (wordOf 0x22 low) = false → k.inactive.loaded = true →
      exec (.mswap core low) s = .next ((s.updCore c (fun k => { k with active := k.inactive, inactive := k.active })).past c)) ∧
    (s.Executes 0x22 core low → resR (wordOf 0x22 low) = false → k.inactive.loaded = false → exec (.mswap core low) s = .next s) ∧
    (s.Executes 0x24 core low →
      let w := wordOf 0x24 low
      let a := (k.s (iA w)).toNat
      let head := 4 * (kOf k.wf k.af / 128)
      let rows := (List.range head).filterMap (fun i =>
        let e := ((s.scratch c a head).getD i 0).toNat
        if bit e 7 then some (i / 4 * 128 + e % 128) else none)
      resR w = false → k.darn = true → s.accessFault c a head 4 = none →
      s.accessFault c a (head + 64 * rows.length) 4 = none → rows.eraseDups.length = rows.length →
      exec (.mdarn core low) s = .next ((s.updCore c (fun k => { k with
        darns := (rows.zip (List.range rows.length)).map (fun (r, i) => (r, s.scratch c (a + head + 64 * i) 64)) })).past c)) ∧
    (s.Issues 0x24 core low → s.predicated 0x24 core low →
      let w := wordOf 0x24 low
      let a := (k.s (iA w)).toNat
      let head := 4 * (kOf k.wf k.af / 128)
      let rows := (List.range head).filterMap (fun i =>
        let e := ((s.scratch c a head).getD i 0).toNat
        if bit e 7 then some (i / 4 * 128 + e % 128) else none)
      resR w = false →
      (k.darn = false → exec (.mdarn core low) s = faults 0x01) ∧
      (∀ f, k.darn = true → s.accessFault c a head 4 = some f → exec (.mdarn core low) s = faults f) ∧
      (∀ f, k.darn = true → s.accessFault c a head 4 = none → s.accessFault c a (head + 64 * rows.length) 4 = some f →
        exec (.mdarn core low) s = faults f) ∧
      (k.darn = true → s.accessFault c a head 4 = none → s.accessFault c a (head + 64 * rows.length) 4 = none →
        rows.eraseDups.length ≠ rows.length → exec (.mdarn core low) s = faults 0x01))

/-- MCLR makes the first rows of a tile 0; AREAD reads a row into v[d], and raises ACC_UE where the row is bad; AWRITE writes a row from
v[a], or adds it with one rounding, which in an integer tile gives free values. The other rows and tiles stay, and so does everything else
but the accumulator's classes, the rows known bad, an audit's progress and the core's counts. Of a row above 127, which no tile has, AREAD
reads free values and AWRITE writes an open row (the model's choice, log entry 71). -/
def Obligations.AccumulatorRows : Prop :=
  ∀ (s : State) (core : BitVec 10) (low : BitVec 56),
    let c := core.toNat
    let k := s.core c
    let only (t : State) : Prop := Worked c s t ∧
      { (t.core c).uncounted k with acc := k.acc, accClass := k.accClass, accBad := k.accBad } = (s.past c).core c
    (s.Executes 0x25 core low →
      let w := wordOf 0x25 low
      resM w = false →
      ∃ t, exec (.mclr core low) s = .next t ∧
        (∀ i n, i < iRows w → n < 64 → (t.core c).accWord (iTile w) i n = 0) ∧
        (∀ u i n, u < 8 → i < 128 → n < 64 → (u ≠ iTile w ∨ iRows w ≤ i) → (t.core c).accWord u i n = k.accWord u i n) ∧
        (iRows w = 128 → (t.core c).classOf (iTile w) = 0) ∧ only t) ∧
    (s.Executes 0x31 core low →
      let w := wordOf 0x31 low
      let r := (k.s (iB w)).toNat
      (resM w || vBad (iD w) || decide (iRows w ≠ 1)) = false → r ≤ 127 → k.accBad.contains (iTile w * 128 + r) = false →
      exec (.aread core low) s = .next ((s.updCore c (fun k => k.setV (iD w) (ofLanes (k.accRow (iTile w) r)))).past c)) ∧
    (s.Executes 0x31 core low →
      let w := wordOf 0x31 low
      let r := (k.s (iB w)).toNat
      (resM w || vBad (iD w) || decide (iRows w ≠ 1)) = false → r ≤ 127 → k.accBad.contains (iTile w * 128 + r) = true →
      exec (.aread core low) s = s.runCore (fun s => s.coreFault c (s.activeSlot c) 0x06 k.pc)) ∧
    (s.Executes 0x31 core low →
      let w := wordOf 0x31 low
      (resM w || vBad (iD w) || decide (iRows w ≠ 1)) = false → 127 < (k.s (iB w)).toNat →
      exec (.aread core low) s = .next (((s.drawn 64).updCore c (fun k => k.setV (iD w)
        (ofLanes ((List.range 64).map (fun n => (Config.freeValue (s.free + n)).setWidth 32))))).past c)) ∧
    (s.Executes 0x32 core low →
      let w := wordOf 0x32 low
      let r := (k.s (iB w)).toNat
      (resM w || vBad (iA w) || decide (iRows w ≠ 1)) = false →
      ∃ t r', exec (.awrite core low) s = .next t ∧ r' < 128 ∧ (r ≤ 127 → r' = r) ∧
        (iAcc w = false → ∀ n, n < 64 → (t.core c).accWord (iTile w) r' n = lane (k.v (iA w)) n) ∧
        (iAcc w = true → k.classOf (iTile w) ≠ 2 → ∀ n, n < 64 →
          (t.core c).accWord (iTile w) r' n = addW (s.free + 1 + n) (k.accWord (iTile w) r' n) (lane (k.v (iA w)) n)) ∧
        (iAcc w = true → k.classOf (iTile w) = 2 → ∀ n, n < 64 →
          (t.core c).accWord (iTile w) r' n = (Config.freeValue (s.free + 1 + n)).setWidth 32) ∧
        (∀ u i n, u < 8 → i < 128 → n < 64 → (u ≠ iTile w ∨ i ≠ r') → (t.core c).accWord u i n = k.accWord u i n) ∧
        (t.core c).classOf (iTile w) = (if k.classOf (iTile w) = 0 then 1 else k.classOf (iTile w)) ∧ only t)

/-- MMAC writes each word of its rows of the tile with the product of the activation row and the weight column, accumulated where the
instruction says so, and no other word of the accumulator, and waits while no weights are active; with darn = 1 it raises ILLEGAL_OP while
darning is not enabled, or into an integer tile, and with acc = 1 into a tile of the other class. An access that may not be made raises
its fault. DRAIN writes to the scratchpad what its chain and conversion give, each FP32 output word at
its row and column, and leaves the accumulator. Everything else stays, but for DRAIN's trackers, an audit's progress and the core's
counts. -/
def Obligations.ProductsAndDrains : Prop :=
  ∀ (s : State) (core : BitVec 10) (low : BitVec 56),
    let c := core.toNat
    let k := s.core c
    let faults (f : Nat) : Host.Outcome State Fault Refusal := s.runCore (fun s => s.coreFault c (s.activeSlot c) f k.pc)
    (s.Executes 0x23 core low →
      let w := wordOf 0x23 low
      let kk := kOf k.wf k.af
      let cls := if intClass k.wf k.af k.darn then 2 else 1
      bits w 20 0 = 0 → (iDarn w = true → k.darn = true ∧ k.classOf (iTile w) ≠ 2) →
      (iAcc w = true → k.classOf (iTile w) = 0 ∨ k.classOf (iTile w) = cls) → k.active.loaded = true →
      s.accessesFault c [((k.s (iA w)).toNat, iRows w * runBytes k.af kk, 16),
        (if fmtScaled k.af then (k.s (iB w)).toNat else 0, iRows w * (if fmtScaled k.af then kk / 32 else 0), 4)] = none →
      ∃ t f, exec (.mmac core low) s = .next t ∧
        (∀ i n, i < iRows w → n < 64 → (t.core c).accWord (iTile w) i n = (mmacCell s c w (f + (i * 64 + n) * 128) i n).1) ∧
        (∀ u i n, u < 8 → i < 128 → n < 64 → (u ≠ iTile w ∨ iRows w ≤ i) → (t.core c).accWord u i n = k.accWord u i n) ∧
        (t.core c).classOf (iTile w) = cls ∧ Worked c s t ∧
        { (t.core c).uncounted k with acc := k.acc, accClass := k.accClass, accBad := k.accBad } = (s.past c).core c) ∧
    (s.Issues 0x23 core low → s.predicated 0x23 core low →
      let w := wordOf 0x23 low
      let cls := if intClass k.wf k.af k.darn then 2 else 1
      let kk := kOf k.wf k.af
      bits w 20 0 = 0 →
      (iDarn w = true → (k.darn = false ∨ k.classOf (iTile w) = 2) → exec (.mmac core low) s = faults 0x01) ∧
      (iAcc w = true → k.classOf (iTile w) ≠ 0 → k.classOf (iTile w) ≠ cls → exec (.mmac core low) s = faults 0x01) ∧
      ((iDarn w = true → k.darn = true ∧ k.classOf (iTile w) ≠ 2) →
        (iAcc w = true → k.classOf (iTile w) = 0 ∨ k.classOf (iTile w) = cls) → k.active.loaded = true →
        ∀ f, s.accessesFault c [((k.s (iA w)).toNat, iRows w * runBytes k.af kk, 16),
          (if fmtScaled k.af then (k.s (iB w)).toNat else 0, iRows w * (if fmtScaled k.af then kk / 32 else 0), 4)] = some f →
        exec (.mmac core low) s = faults f)) ∧
    (s.Executes 0x23 core low →
      let w := wordOf 0x23 low
      let cls := if intClass k.wf k.af k.darn then 2 else 1
      bits w 20 0 = 0 → (iDarn w = true → k.darn = true ∧ k.classOf (iTile w) ≠ 2) →
      (iAcc w = true → k.classOf (iTile w) = 0 ∨ k.classOf (iTile w) = cls) → k.active.loaded = false → exec (.mmac core low) s = .next s) ∧
    (s.Executes 0x30 core low →
      let w := wordOf 0x30 low
      let r := drainChain s c w
      resM w = false → drainFault s c w = none →
      ∃ t, exec (.drain core low) s = .next t ∧
        (t.core c).scratch = (drainWrites s c w).foldl (fun m x => m.write x.1 x.2) k.scratch ∧
        (r.fmt = 0x08 → ∀ i n, i < iRows w → n < 64 → r.rowOn i = true → r.colOn n = true →
          t.scratch c ((k.s (iA w)).toNat + i * r.rowStride + 4 * n) 4 = leBytes 4 ((drainRow s c w i).1.getD n 0).toNat) ∧
        Worked c s t ∧
        { (t.core c).uncounted k with scratch := k.scratch, bad := k.bad, amax := k.amax } = (s.past c).core c) ∧
    (∀ f, s.Issues 0x30 core low → s.predicated 0x30 core low → resM (wordOf 0x30 low) = false → drainFault s c (wordOf 0x30 low) = some f →
      exec (.drain core low) s = faults f)

/-! Vector instructions. -/

/-- The lane instructions write every lane of v[d] with their operation on the lanes of v[a], v[b] and, for VFMA, v[d]; nothing else
changes. -/
def Obligations.VectorLanes : Prop :=
  ∀ (s : State) (core : BitVec 10) (low : BitVec 56),
    let c := core.toNat
    let perLane (op : Nat) (i : Instr) (f : Nat → W32 → W32 → W32 → W32) : Prop :=
      let w := wordOf op low
      s.Executes op core low → (resR w || vBad (iD w) || vBad (iA w) || vBad (iB w)) = false →
      exec i s = .next (((s.drawn 64).updCore c (fun k => k.setV (iD w) (ofLanes ((List.range 64).map (fun n =>
        f (s.free + n) (lane (k.v (iA w)) n) (lane (k.v (iB w)) n) (lane (k.v (iD w)) n)))))).past c)
    perLane 0x42 (.vadd core low) (fun v a b _ => addW v a b) ∧ perLane 0x43 (.vmul core low) (fun v a b _ => mulW v a b) ∧
    perLane 0x44 (.vfma core low) (fun v a b d => fmaW v a b d) ∧ perLane 0x45 (.vmax core low) (fun v a b _ => maxW v false a b) ∧
    perLane 0x46 (.vmin core low) (fun v a b _ => maxW v true a b) ∧
    (s.Executes 0x48 core low →
      let w := wordOf 0x48 low
      (resI w || vBad (iD w) || vBad (iA w)) = false →
      exec (.vtab core low) s = .next (((s.drawn 64).updCore c (fun k => k.setV (iD w) (ofLanes ((List.range 64).map (fun n =>
        tableW (s.free + n) (bits (iImm w) 2 0) (lane (k.v (iA w)) n)))))).past c)) ∧
    (s.Executes 0x4A core low →
      let w := wordOf 0x4A low
      (resR w || vBad (iD w)) = false →
      exec (.vbcast core low) s = .next ((s.updCore c (fun k => k.setV (iD w)
        (ofLanes (List.replicate 64 ((k.s (iA w)).setWidth 32))))).past c))

/-- VRED writes lane 0 of v[d] with the sum, the maximum or the largest magnitude of v[a] and the other lanes with 0; VCVT packs v[a] into
the format, its scale bytes at byte 128, or expands it; rounding stochastically, each element takes a draw of the rounding register, in an
order that is open. Nothing else changes but the core's counts. -/
def Obligations.VectorReductionAndConversion : Prop :=
  ∀ (s : State) (core : BitVec 10) (low : BitVec 56),
    let c := core.toNat
    let k := s.core c
    let counted (j : Machine.Core) : Machine.Core := { j with legSat := k.legSat, legOvf := k.legOvf, limitRaised := k.limitRaised }
    let packed (f : Nat) (o : List Nat × List Nat × Supply × CvtCount) : BitVec 2048 :=
      let b := packRun f o.1
      BitVec.ofNat 2048 (leNat (b ++ List.replicate (128 - b.length) 0 ++ o.2.1.map (BitVec.ofNat 8)))
    (s.Executes 0x47 core low →
      let w := wordOf 0x47 low
      (resI w || vBad (iD w) || vBad (iA w) || decide (bits (iImm w) 1 0 = 3)) = false →
      exec (.vred core low) s = .next (((s.drawn 256).updCore c (fun k => k.setV (iD w)
        (BitVec.ofNat 2048 (reduceW s.free (bits (iImm w) 1 0) (lanes (k.v (iA w)))).toNat))).past c)) ∧
    (s.Executes 0x49 core low →
      let w := wordOf 0x49 low
      let f := bits (iImm w) 4 0
      (resI w || vcvtBad w) = false → bit (iImm w) 8 = true →
      ∃ t, exec (.vcvt core low) s = .next t ∧ Worked c s t ∧
        (let b := leBytes 256 (k.v (iA w)).toNat
         counted (t.core c) = ((s.past c).core c).setV (iD w) (ofLanes (((runElems f 64 b).1.zip (List.range 64)).map (fun (x, j) =>
           expandW (s.free + j) (FV.mul x (runScale f (b.drop 128) (j / 32)))))))) ∧
    (s.Executes 0x49 core low →
      let w := wordOf 0x49 low
      let f := bits (iImm w) 4 0
      (resI w || vcvtBad w) = false → bit (iImm w) 8 = false → bit (iImm w) 9 = false →
      ∃ t, exec (.vcvt core low) s = .next t ∧ Worked c s t ∧
        counted (t.core c) = ((s.past c).core c).setV (iD w) (packed f (narrow f (lanes (k.v (iA w))) none))) ∧
    (s.Executes 0x49 core low →
      let w := wordOf 0x49 low
      let f := bits (iImm w) 4 0
      (resI w || vcvtBad w) = false → bit (iImm w) 8 = false → bit (iImm w) 9 = true →
      ∃ t n drawn, exec (.vcvt core low) s = .next t ∧ Worked c s t ∧ drawn.Perm (lfsrDraw n k.lfsr).1 ∧
        (narrow f (lanes (k.v (iA w))) (some (List.replicate 64 0))).2.2.1 = some (List.replicate (64 - n) 0) ∧ n ≤ 64 ∧
        counted (t.core c) = { ((s.past c).core c).setV (iD w) (packed f (narrow f (lanes (k.v (iA w))) (some drawn))) with
          lfsr := (lfsrDraw n k.lfsr).2 })

/-! Streams, semaphores, queues and work counters. -/

/-- SRD and SWR copy a descriptor from the scratchpad into a free place of their engine and give its ticket, and wait while all four places
are held; an access that may not be made raises its fault. SWAIT waits while its ticket's descriptor is held or has ended without completing, and passes where it has gone, or the word is no
ticket. -/
def Obligations.StreamTickets : Prop :=
  ∀ (s : State) (core : BitVec 10) (low : BitVec 56),
    let c := core.toNat
    let k := s.core c
    let faults (f : Nat) : Host.Outcome State Fault Refusal := s.runCore (fun s => s.coreFault c (s.activeSlot c) f k.pc)
    let issues (op : Nat) (i : Instr) (write : Bool) : Prop :=
      let w := wordOf op low
      let a := (k.s (iA w)).toNat
      let q := if write then k.writeSeq else k.readSeq
      s.Executes op core low → resR w = false → s.accessFault c a 32 32 = none → (s.engine c write).length < 4 →
      ∃ t x, exec i s = .next t ∧ (t.core c).descs = k.descs ++ [x] ∧ x.seqNo = q ∧ x.write = write ∧ x.place < 4 ∧
        (s.engine c write).all (fun y => y.place != x.place) = true ∧ x.state = 0 ∧ x.addr = a ∧ x.slot = s.activeSlot c ∧
        (∀ i, i < 4 → x.words.getD i 0 = BitVec.ofNat 64 (fieldAt (s.scratch c a 32) (8 * i) 8)) ∧
        (∀ u, u ∈ (t.core c).dead ↔ u ∈ k.dead ∧ u / 8 ≠ q * 2 + b2n write) ∧
        (t.core c).scal = (k.setS (iD w) (BitVec.ofNat 64 (q * 16 + b2n write * 8 + x.place))).scal ∧
        (t.core c).writeSeq = (if write then (q + 1) % 4096 else k.writeSeq) ∧
        (t.core c).readSeq = (if write then k.readSeq else (q + 1) % 4096) ∧
        { t.core c with descs := k.descs, dead := k.dead, scal := k.scal, readSeq := k.readSeq, writeSeq := k.writeSeq } =
          (s.past c).core c ∧ OnlyCore c s t
    let full (op : Nat) (i : Instr) (write : Bool) : Prop :=
      s.Executes op core low → resR (wordOf op low) = false → s.accessFault c (k.s (iA (wordOf op low))).toNat 32 32 = none →
      (∀ p, p < 4 → ∃ x ∈ s.engine c write, x.place = p) → exec i s = .next s
    (∀ f, s.Issues 0x50 core low → s.predicated 0x50 core low → resR (wordOf 0x50 low) = false →
      s.accessFault c (k.s (iA (wordOf 0x50 low))).toNat 32 32 = some f → exec (.srd core low) s = faults f) ∧
    (∀ f, s.Issues 0x51 core low → s.predicated 0x51 core low → resR (wordOf 0x51 low) = false →
      s.accessFault c (k.s (iA (wordOf 0x51 low))).toNat 32 32 = some f → exec (.swr core low) s = faults f) ∧
    issues 0x50 (.srd core low) false ∧ issues 0x51 (.swr core low) true ∧ full 0x50 (.srd core low) false ∧
    full 0x51 (.swr core low) true ∧
    (s.Executes 0x52 core low →
      let t := (k.s (iA (wordOf 0x52 low))).toNat
      resR (wordOf 0x52 low) = false →
      (bits t 63 16 ≠ 0 ∨ bit t 2 = true ∨ ((∀ x ∈ k.descs, x.ticket ≠ t) ∧ t ∉ k.dead)) →
      exec (.swait core low) s = .next (s.past c)) ∧
    (s.Executes 0x52 core low →
      let t := (k.s (iA (wordOf 0x52 low))).toNat
      resR (wordOf 0x52 low) = false → bits t 63 16 = 0 → bit t 2 = false →
      ((∃ x ∈ k.descs, x.ticket = t) ∨ t ∈ k.dead) → exec (.swait core low) s = .next s)

/-- On a pair of the active slot SEMPOST adds to a count, SEMWAIT takes an amount once it is there and waits until then, and SEMTRY takes
it or says in p[d] that it was not there; on another slot's pair each raises SEM_NOT_OWNED, and a sum above 65,535 SEM_OVERFLOW. A push sends
its entries, in order, to the transit buffer of the core's local port where the slot owns the output channel and each finds one of its four
places, waits where one does not, and is counted as a stray for each entry (log entry 132)
where the slot does not own the channel; a pop takes the entries
at the head of the input channel, and waits while it may not be popped or holds too few; an entry fetched from an unreadable place of its
channel's region raises SCRATCH_UE. -/
def Obligations.SemaphoresAndQueues : Prop :=
  (∀ (s : State) (core : BitVec 10) (low : BitVec 56),
      let c := core.toNat
      let mine (w : Nat) : Prop := s.semOwner c (iPair w) = some (s.activeSlot c)
      let count (w : Nat) : Nat := s.semCount c (iPair w) (iRoom w)
      let fault (code : Nat) : Host.Outcome State Fault Refusal := s.runCore (fun s => s.coreFault c (s.activeSlot c) code (s.core c).pc)
      (s.Executes 0x60 core low →
        let w := wordOf 0x60 low
        resI w = false → mine w → count w + iAmount w ≤ 65535 →
        exec (.sempost core low) s = .next ((s.setSemCount c (iPair w) (iRoom w) (count w + iAmount w)).past c)) ∧
      (s.Executes 0x60 core low →
        let w := wordOf 0x60 low
        resI w = false → mine w → 65535 < count w + iAmount w → exec (.sempost core low) s = fault 0x07) ∧
      (s.Executes 0x61 core low →
        let w := wordOf 0x61 low
        resI w = false → mine w → iAmount w ≤ count w →
        exec (.semwait core low) s = .next ((s.setSemCount c (iPair w) (iRoom w) (count w - iAmount w)).past c)) ∧
      (s.Executes 0x61 core low →
        let w := wordOf 0x61 low
        resI w = false → mine w → count w < iAmount w → exec (.semwait core low) s = .next s) ∧
      (s.Executes 0x62 core low →
        let w := wordOf 0x62 low
        (resI w || pBad (iD w)) = false → mine w → iAmount w ≤ count w →
        exec (.semtry core low) s = .next (((s.setSemCount c (iPair w) (iRoom w) (count w - iAmount w)).updCore c
          (fun k => k.setP (iD w) true)).past c)) ∧
      (s.Executes 0x62 core low →
        let w := wordOf 0x62 low
        (resI w || pBad (iD w)) = false → mine w → count w < iAmount w →
        exec (.semtry core low) s = .next ((s.updCore c (fun k => k.setP (iD w) false)).past c)) ∧
      (∀ op i, (op, i) ∈ [(0x60, Instr.sempost core low), (0x61, Instr.semwait core low), (0x62, Instr.semtry core low)] →
        let w := wordOf op low
        s.Executes op core low → resI w = false → pBad (iD w) = false → ¬ mine w → exec i s = fault 0x08)) ∧
  (∀ (s : State) (core : BitVec 10) (low : BitVec 56),
      let c := core.toNat
      let k := s.core c
      let push (op : Nat) (i : Instr) (net : Nat) (res : Nat → Bool) (l : List (BitVec 512)) : Prop :=
        let ch := bits (iImm (wordOf op low)) 11 8
        s.Executes op core low → res (wordOf op low) = false →
        (s.ownsOut c net ch = true → ∀ t, s.sendOut c net ch l = some t → exec i s = .next (t.past c)) ∧
        (s.ownsOut c net ch = true → s.sendOut c net ch l = none → exec i s = .next s) ∧
        (s.ownsOut c net ch = false → exec i s = .next ((l.foldl (fun s _ => s.stray c) s).past c))
      let pop (op : Nat) (i : Instr) (net n : Nat) (res : Nat → Bool) (take : Nat → List QEntry → Machine.Core → Machine.Core) : Prop :=
        let w := wordOf op low
        let ch := bits (iImm w) 11 8
        let q := s.chanQueue c net ch
        s.Executes op core low → res w = false →
        (s.mayPop c net ch = true → n ≤ q.length → k.bad = [] →
          exec i s = .next (((s.popQueue c net ch n).2.updCore c (take (iD w) (s.popQueue c net ch n).1)).past c)) ∧
        (s.mayPop c net ch = true → n ≤ q.length → exec i s = s.runCore (fun s =>
          ((s.popQueue c net ch n).2.updCore c (take (iD w) (s.popQueue c net ch n).1)).past c)) ∧
        (∀ e p, e.place = some p → s.fill c net ch e = ({ e with data := s.entryData c net ch e, place := none },
          if s.scratchBad c (s.placeAddr c e.slot net ch p) (extBytes net) then s.owe (.fault c e.slot 0x05) else s)) ∧
        ((∀ e ∈ q, e.place = none) → s.popQueue c net ch n =
          (q.take n, (s.setQueue c net ch (q.drop n)).updCore c (fun k => { k with moved := s.now }))) ∧
        ((s.mayPop c net ch = false ∨ q.length < n) → exec i s = .next s)
      let w70 := wordOf 0x70 low
      (∀ net ch v, s.inTransit net c 0 < 4 → s.sendOut c net ch [v] =
        some ({ s with net := { s.net with flight := s.net.flight ++ [s.pushed c net ch v] } } : State).flow) ∧
      (∀ net ch v, 4 ≤ s.inTransit net c 0 → s.sendOut c net ch [v] = none) ∧
      push 0x70 (.qpush core low) 1 resI [BitVec.ofNat 512 (((k.s (iA w70)).toNat % 2 ^ 32) + bits (iImm w70) 3 0 * 2 ^ 32)] ∧
      push 0x72 (.cpush core low) 2 resI [BitVec.ofNat 512 (bits (iImm (wordOf 0x72 low)) 7 0)] ∧
      push 0x74 (.vqpush core low) 0 (fun w => resI w || vBad (iA w))
        [(k.v (iA (wordOf 0x74 low))).extractLsb' 0 512, (k.v (iA (wordOf 0x74 low))).extractLsb' 512 512,
         (k.v (iA (wordOf 0x74 low))).extractLsb' 1024 512, (k.v (iA (wordOf 0x74 low))).extractLsb' 1536 512] ∧
      pop 0x71 (.qpop core low) 1 1 resI (fun d l k => k.setS d (BitVec.ofNat 64 ((l.headD {}).data.toNat % 2 ^ 36))) ∧
      pop 0x73 (.cpop core low) 2 1 resI (fun d l k => k.setS d (BitVec.ofNat 64 ((l.headD {}).data.toNat % 256))) ∧
      pop 0x75 (.vqpop core low) 0 4 (fun w => resI w || vBad (iD w)) (fun d l k => k.setV d
        ((l.getD 3 {}).data ++ (l.getD 2 {}).data ++ (l.getD 1 {}).data ++ (l.getD 0 {}).data)))

/-- On a counter of the core's partition CARM arms it at the next generation, CFETCH claims the next indices and gives them with the
generation, or, once all are claimed and the counter re-issues, the lowest index neither completed nor re-issued, and else nothing; CDONE
completes an index and says in p[d] whether it was the first to, a completion that comes second or late being counted. On another
partition's counter each raises CTR_NOT_OWNED. Where the core's item has left the list, its task having been aborted, CARM arms nothing. An
index of 16,384 or more, which the bitmap has not, makes CDONE act on an open one (the model's choice, log entry 28). -/
def Obligations.WorkCounters : Prop :=
  ∀ (s : State) (core : BitVec 10) (low : BitVec 56),
    let c := core.toNat
    let k := s.core c
    let num (w : Nat) : Nat := ((k.s (iA w)).toNat) % 4096
    let gen (n : Nat) : Nat := s.fld (Reg.SERVING_CTR_CFG n) 23 20
    let armed (n : Nat) : Prop := s.fld (Reg.SERVING_CTR_CFG n) 31 31 = 1
    let limit (n : Nat) : Nat := s.fld (Reg.SERVING_CTR_CFG n) 14 0
    let next (n : Nat) : Nat := s.fld (Reg.SERVING_CTR_STATE n) 14 0
    (s.Executes 0x80 core low →
      let w := wordOf 0x80 low
      let n := num w
      (resI w || decide (bits (iImm w) 14 0 = 0) || decide (16384 < bits (iImm w) 14 0)) = false → s.ownsCounter c n = true →
      (∀ u, k.item = some u → s.item? u = none) → k.item ≠ none → exec (.carm core low) s = .next (s.past c)) ∧
    (s.Executes 0x80 core low →
      let w := wordOf 0x80 low
      let n := num w
      (resI w || decide (bits (iImm w) 14 0 = 0) || decide (16384 < bits (iImm w) 14 0)) = false → s.ownsCounter c n = true →
      (∀ u, k.item = some u → s.item? u ≠ none) →
      ∃ t, exec (.carm core low) s = .next t ∧ t.fld (Reg.SERVING_CTR_CFG n) 31 31 = 1 ∧
        t.fld (Reg.SERVING_CTR_CFG n) 23 20 = (gen n + 1) % 16 ∧ t.fld (Reg.SERVING_CTR_CFG n) 14 0 = bits (iImm w) 14 0 ∧
        t.fld (Reg.SERVING_CTR_CFG n) 19 19 = bits (iImm w) 16 16 ∧ t.rd (Reg.SERVING_CTR_STATE n) = 0 ∧
        t.fld (Reg.SERVING_CTR_CFG n) 28 24 = s.fld (Reg.SERVING_CTR_CFG n) 28 24 ∧
        (∀ i, i < 16384 → t.net.done.contains (n * 16384 + i) = false ∧ t.net.reissued.contains (n * 16384 + i) = false) ∧
        (∀ i, i / 16384 ≠ n → t.net.done.contains i = s.net.done.contains i ∧ t.net.reissued.contains i = s.net.reissued.contains i) ∧
        (∀ off, off ≠ Reg.SERVING_CTR_CFG n → off ≠ Reg.SERVING_CTR_STATE n → t.reg off = s.reg off) ∧
        { t with regs := s.regs, net := { t.net with done := s.net.done, reissued := s.net.reissued } } = s.past c) ∧
    (s.Executes 0x81 core low →
      let w := wordOf 0x81 low
      let n := num w
      let nothing := exec (.cfetch core low) s =
        .next ((s.updCore c (fun k => k.setS (iD w) (BitVec.ofNat 64 (gen n * 2 ^ 24 + 0xFFFF)))).past c)
      let left (i : Nat) : Prop := i < limit n ∧ s.net.done.contains (n * 16384 + i) = false ∧ s.net.reissued.contains (n * 16384 + i) = false
      (resI w || decide (bits (iImm w) 6 0 = 0) || decide (64 < bits (iImm w) 6 0)) = false → s.ownsCounter c n = true →
      (¬ armed n → nothing) ∧
      (armed n → limit n ≤ next n → s.fld (Reg.SERVING_CTR_CFG n) 19 19 = 0 → nothing) ∧
      (armed n → limit n ≤ next n → s.fld (Reg.SERVING_CTR_CFG n) 19 19 = 1 →
        ((∀ i, ¬ left i) → nothing) ∧
        (∀ i, left i → (∀ j, left j → i ≤ j) → exec (.cfetch core low) s =
          .next ((({ s with net := { s.net with reissued := s.net.reissued ++ [n * 16384 + i] } } : State).updCore c (fun k =>
            k.setS (iD w) (BitVec.ofNat 64 (2 ^ 32 + gen n * 2 ^ 24 + 2 ^ 16 + i)))).past c)))) ∧
    (s.Executes 0x81 core low →
      let w := wordOf 0x81 low
      let n := num w
      (resI w || decide (bits (iImm w) 6 0 = 0) || decide (64 < bits (iImm w) 6 0)) = false → s.ownsCounter c n = true → armed n →
      next n < limit n →
      let m := min (bits (iImm w) 6 0) (limit n - next n)
      exec (.cfetch core low) s = .next (((s.setFld (Reg.SERVING_CTR_STATE n) 14 0 (next n + m)).updCore c (fun k =>
        k.setS (iD w) (BitVec.ofNat 64 (gen n * 2 ^ 24 + m * 2 ^ 16 + next n)))).past c)) ∧
    (s.Executes 0x82 core low →
      let w := wordOf 0x82 low
      let n := num w
      let v := (k.s (iB w)).toNat
      let i := n * 16384 + bits v 15 0
      (resR w || pBad (iD w)) = false → s.ownsCounter c n = true → bits v 15 0 < 16384 → armed n → bits v 27 24 = gen n →
      (s.net.done.contains i = false →
        ∃ t, exec (.cdone core low) s = .next t ∧
          t.fld (Reg.SERVING_CTR_STATE n) 30 16 = (s.fld (Reg.SERVING_CTR_STATE n) 30 16 + 1) % 2 ^ 15 ∧
          (s.fld (Reg.SERVING_CTR_STATE n) 30 16 + 1 = limit n →
            t.fld (Reg.SERVING_CTR_STATE n) 31 31 = 1 ∧ t.fld (Reg.SERVING_CTR_CFG n) 31 31 = 0) ∧
          (s.fld (Reg.SERVING_CTR_STATE n) 30 16 + 1 ≠ limit n → t.reg (Reg.SERVING_CTR_CFG n) = s.reg (Reg.SERVING_CTR_CFG n)) ∧
          (∀ off, off ≠ Reg.SERVING_CTR_CFG n → off ≠ Reg.SERVING_CTR_STATE n → t.reg off = s.reg off) ∧
          { t with regs := s.regs } =
            (({ s with net := { s.net with done := s.net.done ++ [i] } } : State).updCore c (fun k => k.setP (iD w) true)).past c) ∧
      (s.net.done.contains i = true →
        exec (.cdone core low) s = .next (((s.bump (Reg.SERVING_CTR_DUP n)).updCore c (fun k => k.setP (iD w) false)).past c))) ∧
    (s.Executes 0x82 core low →
      let w := wordOf 0x82 low
      let n := num w
      let v := (k.s (iB w)).toNat
      (resR w || pBad (iD w)) = false → s.ownsCounter c n = true → bits v 15 0 < 16384 → (¬ armed n ∨ bits v 27 24 ≠ gen n) →
      exec (.cdone core low) s = .next (((s.bump (Reg.SERVING_CTR_STALE n)).updCore c (fun k => k.setP (iD w) false)).past c)) ∧
    (s.Executes 0x82 core low →
      let w := wordOf 0x82 low
      let n := num w
      let v := (k.s (iB w)).toNat
      (resR w || pBad (iD w)) = false → s.ownsCounter c n = true → 16384 ≤ bits v 15 0 →
      ∃ t i, exec (.cdone core low) s = .next t ∧ i < 16384 ∧
        ((¬ armed n ∨ bits v 27 24 ≠ gen n) →
          t = (((s.drawn.bump (Reg.SERVING_CTR_STALE n)).updCore c (fun k => k.setP (iD w) false)).past c)) ∧
        (armed n → bits v 27 24 = gen n → s.net.done.contains (n * 16384 + i) = true →
          t = (((s.drawn.bump (Reg.SERVING_CTR_DUP n)).updCore c (fun k => k.setP (iD w) false)).past c)) ∧
        (armed n → bits v 27 24 = gen n → s.net.done.contains (n * 16384 + i) = false →
          (t.core c) = ((s.past c).core c).setP (iD w) true ∧ t.net.done = s.net.done ++ [n * 16384 + i])) ∧
    (∀ op i res, (op, i, res) ∈ [(0x80, Instr.carm core low, fun w => resI w || decide (bits (iImm w) 14 0 = 0) || decide (16384 < bits (iImm w) 14 0)),
        (0x81, Instr.cfetch core low, fun w => resI w || decide (bits (iImm w) 6 0 = 0) || decide (64 < bits (iImm w) 6 0)),
        (0x82, Instr.cdone core low, fun w => resR w || pBad (iD w))] →
      s.Executes op core low → res (wordOf op low) = false → s.ownsCounter c (num (wordOf op low)) = false →
      exec i s = s.runCore (fun s => s.coreFault c (s.activeSlot c) 0x09 k.pc))

/-- A core at a boundary of a tile that is not its item's last, with no stop asked, no pre-emption and an item still listed, enters the
next tile at the instruction after the TBOUND with the item's arguments, its registers 0 and its accumulator open; the tile is counted, and
so are the cycles in which a bank request waited. -/
def Obligations.BoundaryEntersTheNextTile : Prop :=
  ∀ (s : State) (core : BitVec 10) (i : Item) (pc : Nat) (work : TileFacts) (results : List (W64 × List Byte)),
    let c := core.toNat
    let k := s.core c
    s.ready → s.coreState c = 1 → k.boundary = some (pc, false) → pc ≤ 4095 → k.item.bind s.item? = some i → k.stop = false →
    k.preempt = none → i.standing = false → i.done = false → k.audit = none →
    ∃ t, exec (.tileBoundary core work results) s = .next t ∧ (t.core c).boundary = none ∧ (t.core c).pc = pc ∧ (t.core c).loops = [] ∧
      (t.core c).scal = s.itemArgs i ∧ (t.core c).pred = 1 ∧ (t.core c).vec = [] ∧ (t.core c).acc = [] ∧ (t.core c).active.loaded = false ∧
      (t.core c).scratch = k.scratch ∧ (t.core c).item = k.item ∧ t.rd (Reg.CORE_TILES c) = (s.rd (Reg.CORE_TILES c) + 1) % 2 ^ 32 ∧
      t.rd (Reg.CORE_BANK_STALL c) = (s.rd (Reg.CORE_BANK_STALL c) + work.stalls) % 2 ^ 32 ∧
      (t.core c).tileStart = s.now ∧ OtherCores c s t

/-! Registers that the host writes. -/

/-- A virtual function's write to a register changes nothing but GLOBAL_ACCESS_ERR.vf_write; with its BAR closed, not even that. -/
def Obligations.VirtualFunctionsWriteNoRegister : Prop :=
  ∀ (s : State) (i : Instr) (fn : Fin 33) (off : Nat) (v : W32), regWrite i = some (fn, off, v) → s.due = [] →
    (s.barOpen fn.val = false → exec i s = .next s) ∧
    (s.barOpen fn.val = true → fn.val ≠ 0 → exec i s = .next (s.setFld Reg.GLOBAL_ACCESS_ERR 1 1 1))

/-! The milestone. -/

/-- A milestone ends the leg, and with nothing late its steps 1 to 6 run in that order, the first of them counting it, taking an armed
change and turning unfinished items into slip: LEG_COUNT becomes the number that a timing message carried for this instant, or else goes up by one, or is 0
at the first milestone since reset; the new leg's instant is the old one's, a leg and the phase correction later, a leg being a period or,
while the module follows the pin, what the last two edges gave; a number other than the module's own is counted as a jump, and a period
carried with it takes effect. Without the timebase nothing happens. An armed change of period takes effect
at the milestone it names and at no other, and has no effect while the module follows (log entry 123); items not finished become slip, one leg older, in
their order, and are counted. -/
def Obligations.MilestoneBeginsTheNextLeg : Prop :=
  (∀ (s : State) (f : MileFacts), s.ready →
      (s.leg.running = true → ∃ t, exec (.milestone f) s = .next t ∧
        (s.leg.carried = none → t.leg.count = (if s.leg.counted then s.leg.count + 1 else s.leg.count)) ∧
        (∀ n p, s.leg.carried = some (n, p) → t.leg.count = BitVec.ofNat 64 n) ∧
        t.leg.counted = true ∧ t.leg.running = true ∧ t.leg.sub = 0 ∧
        (s.fld Reg.LEG_SYNC 1 0 ≠ 2 ∨ s.fld Reg.LEG_SYNC_STATUS 1 1 = 1 ∨ s.leg.edgeLen = none →
          t.leg.start = (Int.ofNat (s.leg.start + s.period * 100) + s.leg.phase).toNat) ∧
        (∀ n, s.fld Reg.LEG_SYNC 1 0 = 2 → s.fld Reg.LEG_SYNC_STATUS 1 1 = 0 → s.leg.edgeLen = some n →
          t.leg.start = (Int.ofNat (s.leg.start + n) + s.leg.phase).toNat)) ∧
      (s.leg.running = true → exec (.milestone f) s = s.runDie (fun u => u.nextLeg.atInstant (u.milestoneSteps f).settle)) ∧
      (s.leg.running = false → exec (.milestone f) s = .next s)) ∧
  (∀ (s : State) (f : MileFacts),
      let a := (if f.resumed then s.endHandOff else s).stepOne.settle
      let late (u : State) : State := u.bump Reg.LEG_STEP_LATE f.late
      (∀ n p, s.leg.carried = some (n, some p) → s.nextLeg.fld Reg.LEG_PERIOD 13 0 = p % 2 ^ 14) ∧
      s.nextLeg.fld Reg.LEG_SYNC_STATUS 31 24 =
        (if s.nextCount = s.ownNext then s.fld Reg.LEG_SYNC_STATUS 31 24 else (s.fld Reg.LEG_SYNC_STATUS 31 24 + 1) % 256) ∧
      (let b := s.nextLeg.takeChange
       let c := (({ b with host := { b.host with perLeg := [] } } : State).sendMilestone).stopCores.latchSlots
       s.stepOne = ((c.slipItems).latchSeams).latchPartitions.abortDemoting) ∧
      (f.unfinished = none → a.leg.owed = none →
        let b := (a.stepTwo.keepMax Reg.SEAM_LEDGER_TIME (min 65535 f.ledgerTime)).settle
        let c := (late ((b.stepDisable.settle).stepFour.keepMax Reg.SERVING_BUILD_TIME f.buildTime).settle).stepFive f.five |>.settle
        s.milestoneSteps f = ((if c.cpUp 0 then c.formWanted else c).stepSix f.sixDone).beginHandOff)) ∧
  (∀ s : State,
      (s.leg.armed = none → s.takeChange = s) ∧
      (∀ n p, s.leg.armed = some (n, p) →
        (n = s.legCount → s.follows = false → s.takeChange.fld Reg.LEG_PERIOD 13 0 = p % 2 ^ 14 ∧ s.takeChange.leg.armed = none) ∧
        (n = s.legCount → s.follows = true → s.takeChange = { s with leg := { s.leg with armed := none } }) ∧
        (n ≠ s.legCount → s.takeChange = s)) ∧
      (let left := s.serving.items.filter (fun i => !i.done && !i.standing)
       s.slipItems.serving.items = left.map (fun i => { i with slip := true, slipAge := i.slipAge + 1 }) ∧
       s.slipItems.rd Reg.LEG_SLIP_ITEMS = (s.rd Reg.LEG_SLIP_ITEMS + left.length) % 2 ^ 32 ∧
       s.slipItems.rd Reg.LEG_SLIP_LEGS = (s.rd Reg.LEG_SLIP_LEGS + b2n (!left.isEmpty)) % 2 ^ 32 ∧
       (∀ i, i ∈ left → i.slipAge + 1 < 2 ^ 32 → i.slipAge + 1 ≤ s.slipItems.rd Reg.LEG_SLIP_AGE_MAX)))

/-- A write of LEG_PERIOD_NEXT in 125 to 16,000 is kept and any other is flagged; one of LEG_CHANGE_AT arms the change, at the second next
milestone if it names one too near, and is flagged while the module follows; LEG_SYNC sets the mode; LEG_ERR.clear_max clears both maxima.
Writing valid of CORE_FAULT clears the record and its index; CORE_ARITH_CLEAR.counts clears the arithmetic and audit counters, and hist
both histograms; nothing else changes. -/
def Obligations.LegAndCoreRegisters : Prop :=
  (∀ (s : State) (v : W32), s.hostOpen →
      let n := bits v.toNat 13 0
      (125 ≤ n → n ≤ 16000 → exec (.legPeriodNextWrite 0 v) s = .next (s.setFld Reg.LEG_PERIOD_NEXT 13 0 n)) ∧
      (n < 125 ∨ 16000 < n → exec (.legPeriodNextWrite 0 v) s = .next (s.setFld Reg.LEG_ERR 0 0 1)) ∧
      (s.fld Reg.LEG_SYNC 1 0 < 2 →
        let d := sdiff32 v.toNat s.legCount
        ∃ t, exec (.legChangeAtWrite 0 v) s = .next t ∧ t.rd Reg.LEG_CHANGE_AT = v.toNat ∧
          t.leg = { s.leg with armed := some ((if d < 2 then s.legCount + (if s.leg.counted then 2 else 1) else s.legCount + d.toNat) % 2 ^ 64,
            s.fld Reg.LEG_PERIOD_NEXT 13 0) } ∧
          t.fld Reg.LEG_ERR 1 1 = (if d < 2 then 1 else s.fld Reg.LEG_ERR 1 1) ∧
          ∀ off, off ≠ Reg.LEG_CHANGE_AT → off ≠ Reg.LEG_ERR → t.reg off = s.reg off) ∧
      (2 ≤ s.fld Reg.LEG_SYNC 1 0 → exec (.legChangeAtWrite 0 v) s = .next (s.setFld Reg.LEG_ERR 0 0 1)) ∧
      (∃ t, exec (.legSyncWrite 0 v) s = .next t ∧ t.fld Reg.LEG_SYNC 1 0 = bits v.toNat 1 0 ∧
        t.fld Reg.LEG_SYNC_STATUS 0 0 = b2n (bits v.toNat 1 0 == 1) ∧ t.fld Reg.LEG_SYNC_STATUS 1 1 = 0 ∧ t.fld Reg.LEG_SYNC_STATUS 23 8 = 0 ∧
        t.leg.missed = 0 ∧ t.leg.messageSeen = false ∧ t.leg.count = s.leg.count ∧ t.leg.start = s.leg.start ∧
        ∀ off, off ≠ Reg.LEG_SYNC → off ≠ Reg.LEG_SYNC_STATUS → t.reg off = s.reg off) ∧
      (bit v.toNat 2 = true → ∃ t, exec (.legErrClearMax 0 v) s = .next t ∧ t.rd Reg.LEG_SLIP_AGE_MAX = 0 ∧ t.rd Reg.LEG_OVERRUN_MAX = 0 ∧
        OnlyRegs (fun off => off == Reg.LEG_ERR || off == Reg.LEG_SLIP_AGE_MAX || off == Reg.LEG_OVERRUN_MAX) s t)) ∧
  (∀ (s : State) (core : BitVec 10) (v : W32), s.hostOpen →
      let c := core.toNat
      (bit v.toNat 31 = true → ∃ t, exec (.coreFaultClear 0 core v) s = .next t ∧ t.rd (Reg.CORE_FAULT c) = 0 ∧ t.rd (Reg.CORE_FAULT_PC c) = 0 ∧
        OnlyRegs (fun off => off == Reg.CORE_FAULT c || off == Reg.CORE_FAULT_PC c) s t) ∧
      (bit v.toNat 0 = true → bit v.toNat 1 = false → ∃ t, exec (.coreArithClearCounts 0 core v) s = .next t ∧
        t.rd (Reg.CORE_ARITH_SAT c) = 0 ∧ t.rd (Reg.CORE_ARITH_OVF c) = 0 ∧ t.rd (Reg.CORE_ARITH_NAN c) = 0 ∧ t.rd (Reg.CORE_ARITH_BADCODE c) = 0 ∧
        t.rd (Reg.CORE_AUDIT_DONE c) = 0 ∧ t.rd (Reg.CORE_AUDIT_SKIPPED c) = 0 ∧ t.rd (Reg.CORE_AUDIT_EXCEED c) = 0 ∧
        OnlyRegs (fun off => decide (Reg.CORE_ARITH_SAT c ≤ off) && decide (off ≤ Reg.CORE_AUDIT_EXCEED c) && off != Reg.CORE_ARITH_LIMIT c &&
          off != Reg.CORE_AUDIT_CTRL c && off != Reg.CORE_AUDIT_THRESH c) s t) ∧
      (bit v.toNat 1 = true → bit v.toNat 0 = false → ∃ t, exec (.coreArithClearHist 0 core v) s = .next t ∧
        (∀ i, i < 16 → t.rd (Reg.CORE_HIST_ARRAY c i) = 0 ∧ t.rd (Reg.CORE_HIST_DRAIN c i) = 0) ∧
        OnlyRegs (fun off => decide (Reg.CORE_HIST_ARRAY c 0 ≤ off) && decide (off ≤ Reg.CORE_HIST_DRAIN c 15)) s t))

/-- A follower adopts the number and a legal period of a timing message on tree 0's in-port at the milestone they belong to: at once where its own instant is past (log entry 125), and it then counts a jump; else they are carried to that instant. A period outside 125 to 16,000 is flagged, and
the period in force stays. In mode 0b10 an edge is a reference, with its fixed delay of 4 ns, takes the lock within 20 ns and loses it
beyond, and gives the leg its length; after three missed references the module enters holdover, and drops its lock. Beside the timebase,
LEG_SYNC_STATUS, LEG_PERIOD and LEG_ERR, only what an event or a forwarded message changes does. -/
def Obligations.FollowersKeepTime : Prop :=
  let ours (off : Nat) : Prop := off = Reg.LEG_SYNC_STATUS ∨ off = Reg.LEG_PERIOD ∨ off = Reg.LEG_ERR
  let keeps (s t : State) : Prop :=
    Told { s with leg := t.leg, regs := t.regs } t ∧ ∀ off, tells off = false → ¬ ours off → t.reg off = s.reg off
  ∀ s : State, s.ready →
    (∀ (port : Fin 16) (hops source period milestone correction : Nat) (offset : Int) (residence : Nat),
      let it : Instr := .timingMessage port hops source period milestone correction offset residence
      let legal : Prop := 125 ≤ period ∧ period ≤ 16000
      let jump : Prop := s.leg.count ≠ BitVec.ofNat 64 milestone
      (s.treeIn 0 = some port.val → s.follows = true →
        ∃ t, exec it s = .next t ∧ t.leg.messageSeen = true ∧ Talked { s with leg := t.leg, regs := t.regs } t ∧
          (∀ off, tells off = false → carries off = false → ¬ ours off → t.reg off = s.reg off) ∧
          (s.fld Reg.LEG_SYNC 1 0 = 3 → t.leg.missed = 0) ∧ (s.fld Reg.LEG_SYNC 1 0 = 2 → t.leg.missed = s.leg.missed) ∧
          (¬ legal → t.fld Reg.LEG_ERR 0 0 = 1 ∧ t.fld Reg.LEG_PERIOD 13 0 = s.fld Reg.LEG_PERIOD 13 0) ∧
          (s.instantPast = true → t.leg.count = BitVec.ofNat 64 milestone ∧ t.leg.carried = s.leg.carried ∧
            (legal → t.fld Reg.LEG_PERIOD 13 0 = period) ∧
            (jump → t.fld Reg.LEG_SYNC_STATUS 31 24 = (s.fld Reg.LEG_SYNC_STATUS 31 24 + 1) % 256)) ∧
          (s.instantPast = false → t.leg.count = s.leg.count ∧ t.fld Reg.LEG_PERIOD 13 0 = s.fld Reg.LEG_PERIOD 13 0 ∧
            (legal → t.leg.carried = some (milestone, some period)) ∧ (¬ legal → t.leg.carried = some (milestone, none)))) ∧
      (s.treeIn 0 = some port.val → s.follows = false → ∃ t, exec it s = .next t ∧ Talked s t) ∧
      (s.treeIn 0 ≠ some port.val → exec it s = .next s)) ∧
    (∀ raw, s.fld Reg.LEG_SYNC 1 0 = 2 → ∃ t, exec (.mileInEdge raw) s = .next t ∧ t.leg.lastEdge = some s.now ∧ t.leg.missed = 0 ∧
      t.leg.edgeLen = s.leg.lastEdge.map (fun e => s.now - e) ∧
      t.fld Reg.LEG_SYNC_STATUS 23 8 = (max (-32767) (min 32767 (raw + 4)) % 65536).toNat ∧ t.fld Reg.LEG_SYNC_STATUS 1 1 = 0 ∧
      t.fld Reg.LEG_SYNC_STATUS 0 0 = b2n (decide (-20 ≤ raw + 4) && decide (raw + 4 ≤ 20)) ∧ t.leg.count = s.leg.count ∧
      (s.leg.messageSeen = true → t.fld Reg.LEG_PERIOD 13 0 = s.fld Reg.LEG_PERIOD 13 0) ∧
      (∀ e, s.leg.messageSeen = false → s.leg.lastEdge = some e →
        t.fld Reg.LEG_PERIOD 13 0 = max 125 (min 16000 ((s.now - e + 50) / 100))) ∧ keeps s t) ∧
    (∀ raw, s.fld Reg.LEG_SYNC 1 0 ≠ 2 → exec (.mileInEdge raw) s = .next s) ∧
    (s.follows = true → 3 ≤ s.leg.missed → s.fld Reg.LEG_SYNC_STATUS 1 1 = 0 →
      ∃ t, exec .holdoverEntry s = .next t ∧ t.fld Reg.LEG_SYNC_STATUS 1 1 = 1 ∧ t.fld Reg.LEG_SYNC_STATUS 0 0 = 0 ∧ t.leg.phase = 0 ∧
        t.leg.count = s.leg.count ∧ t.leg.missed = s.leg.missed ∧ t.fld Reg.LEG_PERIOD 13 0 = s.fld Reg.LEG_PERIOD 13 0 ∧ keeps s t) ∧
    (s.follows = false ∨ s.leg.missed < 3 ∨ s.fld Reg.LEG_SYNC_STATUS 1 1 = 1 → exec .holdoverEntry s = .next s)

/-! Cores, networks and districts. -/

/-- An entry that may be delivered to an input channel enters its queue under its slot's epoch, past the hardware depth in the channel's
scratchpad region, stays in its transit buffer while the channel is full, and is dropped as a stray under another epoch; a scalar token for
a pair adds to the count its slot owns under its epoch, which past 65,535 raises SEM_OVERFLOW instead, and is a stray else; which of several circuits' entries comes first is open
(log entry 129). An epoch advance that waited is made once no descriptor blocks it: the
slot's epoch goes up by one modulo 16 in that district, and none of the slot's entries is left in the district's queues or transit
buffers. A district with a running core in which nothing has moved for 65,536 cycles raises STALL, which is counted. -/
def Obligations.ArrivalsAreCheckedByEpoch : Prop :=
  (∀ (s : State) (net c : Nat) (target : Nat → Bool),
      (s.arrivals net c target = [] ↔ s.nextArrival net c target = none) ∧
      (∀ f u, s.nextArrival net c target = some (f, u) → f ∈ s.arrivals net c target ∧ (u = s ∨ u = s.drawn))) ∧
  (∀ (s : State) (core : BitVec 10), s.ready →
      let c := core.toNat
      (∀ (net : Fin 3) (ch : Fin 16),
        let next := s.nextArrival net.val c (fun e => !bit e 15 && bits e 13 8 == ch.val)
        (next = none → exec (.flitEnterQueue core net ch) s = .next s) ∧
        (∀ f u, next = some (f, u) →
          let q := s.chanQueue c net.val ch.val
          let current : Prop := s.epoch (State.districtOf c) f.entry.slot = f.entry.epoch
          (¬ current → exec (.flitEnterQueue core net ch) s = .next ((u.leave f).stray c).flow) ∧
          (current → s.chanRoom c f.entry.slot net.val ch.val 1 = false → exec (.flitEnterQueue core net ch) s = .next u) ∧
          (current → s.chanRoom c f.entry.slot net.val ch.val 1 = true → q.length < queueDepth net.val →
            exec (.flitEnterQueue core net ch) s = .next (((u.leave f).setQueue c net.val ch.val (q ++ [f.entry])).markMoved c).flow) ∧
          (current → s.chanRoom c f.entry.slot net.val ch.val 1 = true → queueDepth net.val ≤ q.length →
            exec (.flitEnterQueue core net ch) s = s.runDie (fun _ => (((u.leave f).spill c net.val ch.val f.entry).markMoved c).flow)))) ∧
      (∀ (n : Fin 64) (room : Bool),
        let next := s.nextArrival 1 c (fun e => bit e 15 && bits e 13 8 == n.val && bit e 14 == room)
        (next = none → exec (.semPostArrival core n room) s = .next s) ∧
        (∀ f u, next = some (f, u) →
          let v := s.semCount c n.val room + f.entry.data.toNat % 65536
          let mine : Prop := s.semOwner c n.val = some f.entry.slot ∧ s.epoch (State.districtOf c) f.entry.slot = f.entry.epoch
          (mine → 65535 < v → exec (.semPostArrival core n room) s =
            s.runDie (fun _ => ((u.leave f).owe (.fault c f.entry.slot 0x07)).flow)) ∧
          (mine → v ≤ 65535 → exec (.semPostArrival core n room) s = .next ((u.leave f).setSemCount c n.val room v).flow) ∧
          (¬ mine → exec (.semPostArrival core n room) s = .next ((u.leave f).stray c).flow)))) ∧
  (∀ (s : State) (d : Fin 64), s.ready →
      (∀ (slot : Fin 4) (abort : Bool), s.net.advances.find? (fun a => a.1 == d.val && a.2.1 == slot.val) = some (d.val, slot.val, abort) →
        (s.advanceBlocked d.val slot.val = true → exec (.epochAdvance d slot) s = .next s) ∧
        (s.advanceBlocked d.val slot.val = false → ∃ t, exec (.epochAdvance d slot) s = .next t ∧
          t.epoch d.val slot.val = (s.epoch d.val slot.val + 1) % 16 ∧
          (∀ i, i < 4 → i ≠ slot.val → t.epoch d.val i = s.epoch d.val i) ∧
          (∀ c, c < 1024 → State.districtOf c = d.val → ∀ q, q ∈ (t.core c).queues → ∀ e, e ∈ q.2 → e.slot ≠ slot.val) ∧
          (∀ c, State.districtOf c ≠ d.val → t.core c = s.core c) ∧
          ((∀ f, f ∈ s.net.flight → f.entry.slot = slot.val → State.districtOf f.core = d.val) →
            ∀ f, f ∈ t.net.flight → f.entry.slot ≠ slot.val) ∧
          t.net.advances = s.net.advances.erase (d.val, slot.val, abort))) ∧
      (∀ slot : Fin 4, (∀ b, (d.val, slot.val, b) ∉ s.net.advances) → exec (.epochAdvance d slot) s = .next s) ∧
      (s.runningIn d.val ≠ [] → s.moving d.val = false → s.lastMoved d.val + 4096 ≤ s.now → s.tasksIn d.val = [] →
        ∃ t, exec (.stall d) s = .next t ∧ Told (s.bump (Reg.SERVING_DIST_STALLS d.val)) t) ∧
      (s.runningIn d.val = [] ∨ s.moving d.val = true ∨ s.now < s.lastMoved d.val + 4096 → exec (.stall d) s = .next s))

/-- A steering unit fires once its token and the groups that the token requires are there and its outputs have room: it takes the token
and those groups and passes them, in order, to the outputs that Table 5.5 names, each an output channel of its slot, an input channel of the
core, or, where the slot does not own the output channel, nowhere, counted as strays; else nothing moves. -/
def Obligations.SteeringUnitsFire : Prop :=
  ∀ (s : State) (core : BitVec 10) (u : Fin 4), s.ready →
    let c := core.toNat
    let g := s.steerCfg c u.val
    let net := State.steerNet g
    let n := State.steerGroup g
    let ctl := State.steerCtl g
    let plan := State.steerPlan g (s.steerToken c u.val)
    let group (ch : Nat) : List QEntry := (s.chanQueue c net ch).take n
    let inHardware : Prop := ∀ q, q ∈ (s.core c).queues → ∀ e, e ∈ q.2 → e.place = none
    let taken (t : State) : Prop :=
      t.chanQueue c 2 ctl = (s.chanQueue c 2 ctl).drop 1 ∧ (∀ p, p ∈ plan → t.chanQueue c net p.1 = (s.chanQueue c net p.1).drop n)
    (s.steerReady c u.val = false → exec (.steeringFire core u) s = .next s) ∧
    (s.steerReady c u.val = true → (plan.map (·.1)).Nodup → inHardware →
      (∀ p, p ∈ plan → ∀ o, o ∈ p.2 → bit o 4 = true ∧ s.ownsOut c net (o % 16) = true) →
      let sends := (plan.flatMap (fun p => p.2.map (fun o => (o % 16, (group p.1).map (·.data))))).foldlM (fun v x => v.sendOut c net x.1 x.2) s
      (sends = none → exec (.steeringFire core u) s = .next s) ∧
      (∀ v, sends = some v → ∃ t, exec (.steeringFire core u) s = .next t ∧ taken t ∧ t.net = v.net ∧
        (∀ m ch, m < 3 → ch < 16 → (m, ch) ≠ (2, ctl) → (m ≠ net ∨ ch ∉ plan.map (·.1)) → t.chanQueue c m ch = s.chanQueue c m ch) ∧
        OtherCores c s t ∧ t.regs = s.regs)) ∧
    (∀ a o, s.steerReady c u.val = true → plan = [(a, [o])] → inHardware →
      (bit o 4 = false → o % 16 ≠ a → (s.chanQueue c net (o % 16)).length + n ≤ queueDepth net →
        ∃ t, exec (.steeringFire core u) s = .next t ∧ taken t ∧ t.chanQueue c net (o % 16) = s.chanQueue c net (o % 16) ++ group a ∧
          t.net = s.net ∧ OtherCores c s t ∧ t.regs = s.regs) ∧
      (bit o 4 = true → s.ownsOut c net (o % 16) = false →
        ∃ t, exec (.steeringFire core u) s = .next t ∧ taken t ∧ t.net = s.net ∧ OtherCores c s t ∧
          t.rd (Reg.SERVING_DIST_STRAY (State.districtOf c)) = (s.rd (Reg.SERVING_DIST_STRAY (State.districtOf c)) + n) % 2 ^ 32)) ∧
    (∀ a, s.steerReady c u.val = true → plan = [(a, [])] → inHardware →
      ∃ t, exec (.steeringFire core u) s = .next t ∧ taken t ∧ t.net = s.net ∧ OtherCores c s t ∧ t.regs = s.regs)

/-- A press commits in the first cycle its districts are quiet: the seam enters state 4, the press its load, and slot_valid is cleared in
every target core; not quiet within 100 µs of the start of its wait it is unpicked with PRESS_NOT_QUIET; once loaded the slot is valid in
every target core and the seam final. -/
def Obligations.PressesCommitLoadAndFail : Prop :=
  ∀ (s : State) (k : Fin 256) (w : Press) (x : Seam), s.ready → s.press? k.val = some w → s.seam? k.val = some x →
    x.submitter ≠ 8 → x.port = none → x.pressCtx = none → x.participants = [] →
    x.gen < 256 → (∀ p i, x.scope = some (p, i) → p < 32) → (∀ p q, x.host = some (p, q) → p < 32) →
    (∀ y, y ∈ s.seams.presses → y.seam = k.val → y = w) →
    let cores := rectCores w.origin (s.imgW w.image) (s.imgH w.image)
    (w.phase = 0 → x.state = 3 → x.timing = 0 → s.mayCommit x = true → x.actions.map Seam.kind = [6] →
      ∃ t y, exec (.pressCommit k) s = .next t ∧ t.seam? k.val = some y ∧ y.state = 4 ∧ y.status = 1 ∧
        t.press? k.val = some { w with phase := 1 } ∧ ∀ c, c ∈ cores → t.slotValid c w.slot = false) ∧
    (w.phase = 0 → s.mayCommit x = false → exec (.pressCommit k) s = .next s) ∧
    (w.phase = 0 → s.now < w.since + 10000 → exec (.pressNotQuiet k) s = .next s) ∧
    (w.phase = 0 → w.since + 10000 ≤ s.now → x.state = 3 → s.serving.items = [] →
      ∃ t, exec (.pressNotQuiet k) s = .next t ∧ t.seam? k.val = none ∧ t.press? k.val = none ∧
        t.rd Reg.SEAM_UNPICKED = (s.rd Reg.SEAM_UNPICKED + 1) % 2 ^ 32 ∧ t.fld Reg.SEAM_LAST 31 24 = 0x27) ∧
    (w.phase = 1 → x.state = 4 → x.waits = [] → s.serving.items = [] →
      (∀ c, c < 64 → (s.ctxState c != 0 && s.ctxPart c == w.part && s.ctxSlot c == w.slot && s.ctxOrigin c == w.origin) = false) →
      w.slot < 4 →
      ∃ t, exec (.pressLoadComplete k false) s = .next t ∧ t.seam? k.val = none ∧ t.press? k.val = none ∧
        t.rd Reg.SEAM_CLOSED = (s.rd Reg.SEAM_CLOSED + 1) % 2 ^ 32 ∧ ∀ c, c ∈ cores → t.slotValid c w.slot = true)

/-- A wring of a district waits for an open press of it, else starts its operation and stops the district, and is ignored while an operation
runs; once no core of the district runs a tile it ends with the record of its header and entries written from the buffer's first granule,
as many whole entries as fit, every queue and transit entry removed and the district stopped. A scan-in begins only in a district stopped
and empty, and ends with the entries restored and the district released, or stopped where the buffer cannot be read or holds a bad record; a
release lets a stopped district run again. -/
def Obligations.WringsEmptyAndScanInsRestore : Prop :=
  (∀ (s : State) (d : Fin 64) (v : W32), s.hostOpen →
      let st := Reg.SERVING_DIST_WRING_STATUS d.val
      (s.fld st 31 31 = 1 →
        exec (.wring 0 d v) s = .next (s.setFld st 30 30 1) ∧ exec (.scanIn 0 d v) s = .next (s.setFld st 30 30 1) ∧
        exec (.districtRelease 0 d v) s = .next (s.setFld st 30 30 1)) ∧
      (s.fld st 31 31 = 0 → bits v.toNat 1 0 = 1 →
        (s.pressWaits d.val = true → ∃ t w, exec (.wring 0 d v) s = .next t ∧ t.distState d.val = s.distState d.val ∧ t.fld st 31 31 = 1 ∧
          Tab.find? t.net.wrings d.val = some w ∧ w.op = 3 ∧ t.cores = s.cores) ∧
        (s.pressWaits d.val = false → s.tasksIn d.val = [] →
          ∃ t w, exec (.wring 0 d v) s = .next t ∧ t.distState d.val = 4 ∧ t.fld st 31 31 = 1 ∧ Tab.find? t.net.wrings d.val = some w ∧
            w.op = 1 ∧ w.aborted = false ∧ w.granule = s.fld (Reg.SERVING_DIST_WRING_ADDR d.val) 24 0 ∧
            (bits v.toNat 15 8 ≠ 0 → w.granules = bits v.toNat 15 8) ∧ t.cores = s.cores) ∧
        (s.pressWaits d.val = false → ∃ x, (bits v.toNat 15 8 ≠ 0 → bits x 15 8 = bits v.toNat 15 8) ∧
          exec (.wring 0 d v) s = s.runPlain (fun u =>
            let b := u.wr (Reg.SERVING_DIST_WRING_CTRL d.val) x
            (b.setFld st 31 31 1).beginWring d.val { op := 3, granule := b.fld (Reg.SERVING_DIST_WRING_ADDR d.val) 24 0
                                                     granules := b.fld (Reg.SERVING_DIST_WRING_CTRL d.val) 15 8 }))) ∧
      (s.fld st 31 31 = 0 → bits v.toNat 1 0 = 2 →
        let empty : Prop := (∀ c, c < 1024 → State.districtOf c = d.val → ∀ q, q ∈ (s.core c).queues → q.2 = []) ∧
          (∀ f, f ∈ s.net.flight → State.districtOf f.core ≠ d.val)
        (s.distState d.val = 6 → empty →
          ∃ t w, exec (.scanIn 0 d v) s = .next t ∧ t.distState d.val = 5 ∧ t.fld st 31 31 = 1 ∧ Tab.find? t.net.wrings d.val = some w ∧
            w.op = 2 ∧ t.cores = s.cores) ∧
        (s.distState d.val ≠ 6 ∨ ¬ empty →
          ∃ t, exec (.scanIn 0 d v) s = .next t ∧ t.distState d.val = s.distState d.val ∧ t.fld st 29 27 = 3 ∧ t.fld st 31 31 = 0 ∧
            t.cores = s.cores)) ∧
      (s.fld st 31 31 = 0 → bits v.toNat 1 0 = 3 →
        (s.distState d.val = 6 → ∃ t, exec (.districtRelease 0 d v) s = .next t ∧ t.distState d.val = 0) ∧
        (s.distState d.val ≠ 6 → ∃ t, exec (.districtRelease 0 d v) s = .next t ∧ t.distState d.val = s.distState d.val ∧ t.cores = s.cores))) ∧
  (∀ (s : State) (d : Fin 64) (w : Wring), s.ready → Tab.find? s.net.wrings d.val = some w →
      let st := Reg.SERVING_DIST_WRING_STATUS d.val
      (w.op = 3 →
        (s.pressWaits d.val = true → exec (.wringDone d) s = .next s) ∧
        (s.pressWaits d.val = false → exec (.wringDone d) s = s.runDie (fun u => u.beginWring d.val w)) ∧
        (s.pressWaits d.val = false → s.tasksIn d.val = [] → ∃ t u, exec (.wringDone d) s = .next t ∧ t.distState d.val = 4 ∧
          Tab.find? t.net.wrings d.val = some u ∧ u.op = 1 ∧ u.granule = w.granule ∧ u.granules = w.granules ∧ t.cores = s.cores)) ∧
      (w.op = 1 →
        (s.runningIn d.val ≠ [] → exec (.wringDone d) s = .next s) ∧
        (s.runningIn d.val = [] →
          ∃ t, exec (.wringDone d) s = .next t ∧ t.distState d.val = 6 ∧ t.fld st 31 31 = 0 ∧ Tab.find? t.net.wrings d.val = none ∧
            (∀ c, c < 1024 → State.districtOf c = d.val → (t.core c).queues = []) ∧
            ((∀ f, f ∈ s.net.flight → State.districtOf f.core = d.val) → t.net.flight = []) ∧
            (t.fld st 29 27 = 0 ∨ t.fld st 29 27 = 1 ∨ t.fld st 29 27 = 2) ∧ (w.aborted = true → t.fld st 29 27 ≠ 0)) ∧
        (s.runningIn d.val = [] →
          let cs := State.coresOf (1 <<< d.val)
          let fit := State.fitEntries ((cs.zip (List.range cs.length)).flatMap (fun x => s.wringCore x.1 x.2)) (w.granules * 65536 - 64)
          let mask := cs.foldl (fun m c => m ||| s.fld (Reg.CORE_STATUS c) 11 8) 0
          let record := leBytes 4 0x47525747 ++ leBytes 1 d.val ++ leBytes 1 mask ++ leBytes 2 (s.fld (Reg.SERVING_DIST_STATUS d.val) 31 16) ++
            leBytes 8 s.legCount ++ leBytes 4 fit.1.length ++ leBytes 44 0 ++ fit.1.flatten
          exec (.wringDone d) s = s.runDie (fun u => (((u.largeWrite w.granule 255 record).emptyDistrict d.val).setDistState d.val 6).endWring d.val
            (if fit.2 then b2n w.aborted else 2) (ceilDiv record.length 64)))) ∧
      (w.op = 2 →
        let b := s.largeRead w.granule 255 (w.granules * 65536)
        let bad : Prop := s.largeBad w.granule w.granules = true ∨ fieldAt b 0 4 ≠ 0x47525747 ∨ fieldAt b 4 1 ≠ d.val ∨ zerosAt b 0x14 44 = false
        (bad → ∃ t, exec (.scanInComplete d) s = .next t ∧ t.distState d.val = 6 ∧ t.fld st 29 27 = 4 ∧ t.fld st 31 31 = 0 ∧ t.cores = s.cores) ∧
        (¬ bad → (s.restoreEntries d.val (fieldAt b 0x10 4) (b.drop 64) = none →
            ∃ t, exec (.scanInComplete d) s = .next t ∧ t.distState d.val = 6 ∧ t.fld st 29 27 = 4 ∧ t.fld st 31 31 = 0 ∧ t.cores = s.cores) ∧
          (∀ u, s.restoreEntries d.val (fieldAt b 0x10 4) (b.drop 64) = some u → exec (.scanInComplete d) s =
            s.runDie (fun _ => ((u.setDistState d.val 0).endWring d.val 0 0).takeAll (State.coresOf (1 <<< d.val)))) ∧
          (fieldAt b 0x10 4 = 0 → ∃ t, exec (.scanInComplete d) s = .next t ∧ t.distState d.val = 0 ∧ t.fld st 29 27 = 0 ∧ t.fld st 31 31 = 0))))


/-! Stream engines. -/

/-- A descriptor starts where no check faults it and, if ordered, once the earlier ones of its engine are gone; a check that fails, or a
unit of the local scratchpad that a write cannot read, faults it, and a write whose granules can have no home yet waits. Completed, a read
lands in the scratchpad, the counts and the local post are made and the place is free; a cancelled one's place is freed. A far post reaches
its pair under the epoch it left with, raising SEM_OVERFLOW past 65,535, or is a stray; a far request of a REMOTE descriptor unanswered for 200 µs faults it; writing valid
clears the record of stream faults. -/
def Obligations.DescriptorsPostsAndStreamFaults : Prop :=
  (∀ (s : State) (core : BitVec 10) (write : Bool) (place : Fin 4) (x : Desc), s.ready →
      let c := core.toNat
      let earlier := (s.engine c write).takeWhile (fun y => y.place != place.val)
      let turn : Prop := x.ordered = false ∨ earlier = []
      let unread : Prop := write = true ∧ ∃ p, p ∈ x.pieces ∧ s.scratchBad c p.2.1 p.2.2 = true
      let faulted (t : State) (f : Nat) : Prop := t.descAt c write place.val = none ∧
        t.rd (Reg.TIER_STREAM_FAULTS x.part) = (s.rd (Reg.TIER_STREAM_FAULTS x.part) + 1) % 2 ^ 32 ∧ OtherCores c s t ∧
        (s.fld Reg.TIER_STREAM_FAULT 31 31 = 0 → t.fld Reg.TIER_STREAM_FAULT 31 31 = 1 ∧ t.fld Reg.TIER_STREAM_FAULT 30 26 = x.part ∧
          t.fld Reg.TIER_STREAM_FAULT 9 0 = f ∧ t.rd Reg.TIER_STREAM_FAULT_TAG = x.w 3 31 0)
      s.descAt c write place.val = some x → x.part < 32 → x.slot < 4 →
      (x.state = 0 → turn → s.descFault c x = none → s.waitsForWash x = false → ¬ unread →
        ∃ t y, exec (.descriptorStart core write place) s = .next t ∧ t.descAt c write place.val = some y ∧ y.state = 1 ∧ y.startedAt = s.now ∧
          y.seqNo = x.seqNo ∧ y.words = x.words ∧
          (x.kind = 2 → y.reqs = x.reqs ∧ OtherCores c s t ∧ (t.core c).scratch = (s.core c).scratch ∧ t.regs = s.regs ∧ t.tier = s.tier)) ∧
      (x.state = 0 → turn → s.descFault c x = none → s.waitsForWash x = true → exec (.descriptorStart core write place) s = .next s) ∧
      (x.state ≠ 0 ∨ ¬ turn → exec (.descriptorStart core write place) s = .next s) ∧
      (∀ f, f < 1024 → x.state = 0 → turn → s.descFault c x = some f → s.item? x.item = none →
        ∃ t, exec (.descriptorStart core write place) s = .next t ∧ faulted t f) ∧
      (x.state = 0 → turn → s.descFault c x = none → s.waitsForWash x = false → unread → s.item? x.item = none →
        ∃ t, exec (.descriptorStart core write place) s = .next t ∧ faulted t 7) ∧
      (∀ p, x.state = 1 → x.reqs = [] → x.kind = 2 → write = false → x.served = [] → x.pieces = [p] → s.dataFault c x = none → x.postFar = false →
        s.writing x = [] →
        let pair := x.w 0 55 50
        let room := x.w 0 49 49 == 1
        let v := if x.postOn then x.w 0 48 33 else 0
        (x.postOn = true → s.semOwner c pair = some x.slot ∧ s.epoch (State.districtOf c) x.slot = x.epoch) → s.semCount c pair room + v ≤ 65535 →
        ∃ t, exec (.descriptorComplete core write place {}) s = .next t ∧ t.descAt c write place.val = none ∧ OtherCores c s t ∧
          t.scratch c p.2.1 p.2.2 = s.scratch x.farCore p.1 p.2.2 ∧
          (∀ a, a < p.2.1 ∨ p.2.1 + p.2.2 ≤ a → (t.core c).scratch.byte a = (s.core c).scratch.byte a) ∧
          t.rd (Reg.TIER_STREAM_DESC x.part) = (s.rd (Reg.TIER_STREAM_DESC x.part) + 1) % 2 ^ 32 ∧
          t.semCount c pair room = s.semCount c pair room + v) ∧
      (x.state ≠ 1 ∨ x.reqs ≠ [] → ∀ f, exec (.descriptorComplete core write place f) s = .next s) ∧
      (x.state = 2 → exec (.descriptorSlotFreed core write place) s = .next (s.dropDesc c x)) ∧
      (x.state ≠ 2 → exec (.descriptorSlotFreed core write place) s = .next s)) ∧
  (∀ s : State, s.ready →
      (∀ (core : BitVec 10) (n : Fin 64) (room : Bool) (slot ep v : Nat),
        let c := core.toNat
        s.net.farPosts.find? (fun p => p.1 == c && p.2.1 == n.val && p.2.2.1 == room) = some (c, n.val, room, slot, ep, v) →
        let taken : State := { s with net := { s.net with farPosts := s.net.farPosts.erase (c, n.val, room, slot, ep, v) } }
        let mine : Prop := s.semOwner c n.val = some slot ∧ s.epoch (State.districtOf c) slot = ep
        (mine → s.semCount c n.val room + v ≤ 65535 →
          exec (.farPost core n room) s = .next (taken.setSemCount c n.val room (s.semCount c n.val room + v))) ∧
        (mine → 65535 < s.semCount c n.val room + v → exec (.farPost core n room) s = s.runDie (fun _ => taken.owe (.fault c slot 0x07))) ∧
        (¬ mine → exec (.farPost core n room) s = .next (taken.stray c))) ∧
      (∀ (node : Fin 4096) (txn : W32) (c : Nat) (x : Desc) (r : FarReq), s.farReq? node.val txn.toNat = some (c, x, r) → x.state = 1 →
        x.part < 32 → x.slot < 4 → c < 1024 →
        (x.kind ≠ 3 ∨ s.now < x.startedAt + 20000 → exec (.remoteTimeout node txn) s = .next s) ∧
        (x.kind = 3 → x.startedAt + 20000 ≤ s.now → s.descAt c x.write x.place = some x → s.item? x.item = none → ∃ t y, exec (.remoteTimeout node txn) s = .next t ∧
          t.descAt c x.write x.place = some y ∧ y.state = 2 ∧ y.reqs = [] ∧ OtherCores c s t ∧
          t.rd (Reg.TIER_STREAM_FAULTS x.part) = (s.rd (Reg.TIER_STREAM_FAULTS x.part) + 1) % 2 ^ 32 ∧
          (s.fld Reg.TIER_STREAM_FAULT 31 31 = 0 → t.fld Reg.TIER_STREAM_FAULT 9 0 = 0x0A))) ∧
      (∀ v : W32, s.hostOpen → bit v.toNat 31 = true → ∃ t, exec (.tierStreamFaultClear 0 v) s = .next t ∧
        t.rd Reg.TIER_STREAM_FAULT = 0 ∧ t.rd Reg.TIER_STREAM_FAULT_TAG = 0 ∧ t.rd Reg.TIER_STREAM_FAULT_ADDR = 0 ∧
        OnlyRegs (fun off => off == Reg.TIER_STREAM_FAULT || off == Reg.TIER_STREAM_FAULT_TAG || off == Reg.TIER_STREAM_FAULT_ADDR) s t))


/-! The tier store. -/

/-- An ALLOC that fits gets a handle of 1 to 1,048,575 that no allocation has, with no byte written, by a seam that commits at once, and one
that does not is answered; a FREE is held until nothing uses the allocation, and then releases it; while CP1 is down both wait. A PUBLISH of
an allocation no host has written begins a publication under a newer version; it ends once no write is under way, as published, by a seam
that commits at once, where the digest matches and every byte is readable, and else refused with the allocation writable again. With no
record for its seam an ALLOC is answered, and a free and a publication wait (the model's choices, log entries 44 and 45). -/
def Obligations.AllocationsAndPublications : Prop :=
  (∀ (s : State) (set : Fin 32) (fn : Fin 33) (head : HostHead), s.due = [] →
      (let b := hostMessage 0x0020 head
       let q := fieldAt b 8 4
       let flags := fieldAt b 0x10 1
       let n := fieldAt b 0x14 4
       let u := s.sweepReplicas
       s.accepts set fn 0x0020 head →
        (s.cpUp 1 = true → fieldAt b 0x11 1 = 0 → bit (fieldAt b 0x18 2) 15 = false →
          (u.grantStatus set.val flags n = 0 → s.freeRecord ≠ none → ∃ t h a, exec (.alloc set fn head) s = .next t ∧ s.alloc? h = none ∧
            1 ≤ h ∧ h < 2 ^ 20 ∧ t.alloc? h = some a ∧ a.part = set.val ∧ a.flags = flags ∧ a.granules = n ∧ a.owner = none ∧ a.data = [] ∧
            a.dir = [] ∧ a.published = none ∧ (∀ k, k ≠ h → t.alloc? k = s.alloc? k) ∧ t.serving = s.serving ∧ t.cores = s.cores ∧
            t.tables = s.tables ∧ t.rd Reg.SEAM_CLOSED = (s.rd Reg.SEAM_CLOSED + 1) % 2 ^ 32) ∧
          (u.grantStatus set.val flags n = 0 → s.freeRecord = none → ∃ t, exec (.alloc set fn head) s = .next t ∧ t.tier.allocs = s.tier.allocs ∧
            t.rd Reg.SEAM_FULL_COUNT = (s.rd Reg.SEAM_FULL_COUNT + 1) % 2 ^ 32) ∧
          (∀ st, u.grantStatus set.val flags n = st → st ≠ 0 → st ≠ 0x11 → st ≠ 0x12 →
            exec (.alloc set fn head) s = .next (u.reply set.val 0x0020 q st 0))) ∧
        (s.cpUp 1 = false → exec (.alloc set fn head) s = .next { s with host := { s.host with deferred := s.host.deferred ++ [(set.val, fn.val, b)] } })) ∧
      (let b := hostMessage 0x0021 head
       let q := fieldAt b 8 4
       let h := fieldAt b 0x10 4
       s.accepts set fn 0x0021 head → s.cpUp 1 = true →
        (s.handleResult set.val h = 0 → (∀ a, s.alloc? h = some a → a.freeing = none) →
          exec (.free set fn head) s = .next (s.updAlloc h (fun a => { a with freeing := some (some (set.val, q)) }))) ∧
        ((∃ a, s.alloc? h = some a ∧ a.freeing ≠ none) → exec (.free set fn head) s = .next (s.reply set.val 0x0021 q 1 0)) ∧
        ((∀ a, s.alloc? h = some a → a.freeing = none) → s.handleResult set.val h ≠ 0 →
          exec (.free set fn head) s = .next (s.reply set.val 0x0021 q (s.handleResult set.val h) 0))) ∧
      (∀ (h : BitVec 20) (a : Alloc), s.power.vmainGood = true → s.alloc? h.toNat = some a →
        let used := s.cores.any (fun x => x.2.descs.any (fun d => d.state != 0 && (d.kind == 1 || d.kind == 4) && d.handle == h.toNat)) ||
          s.serving.reqs.any (fun r => r.patchValid && (r.patchHandle == h.toNat || a.published == some (r.patchObject, r.patchVersion)))
        (a.freeing.isSome = true → used = false → s.seamNames h.toNat = false → (∀ p q, a.freeing = some (some (p, q)) → p < 32) →
          (s.freeRecord ≠ none → (∀ x, x ∈ s.tier.unhomed → x.1 = h.toNat) →
            ∃ t, exec (.allocationFreeCommit h) s = .next t ∧ t.alloc? h.toNat = none ∧ (h.toNat, s.legCount) ∈ t.tier.freed ∧
              t.handleFree h.toNat = false ∧ (∀ k, k ≠ h.toNat → t.alloc? k = s.alloc? k) ∧ t.cores = s.cores ∧
              t.rd Reg.SEAM_CLOSED = (s.rd Reg.SEAM_CLOSED + 1) % 2 ^ 32) ∧
          (s.freeRecord = none → ∃ t, exec (.allocationFreeCommit h) s = .next t ∧ t.tier = s.tier ∧
            t.rd Reg.SEAM_FULL_COUNT = (s.rd Reg.SEAM_FULL_COUNT + 1) % 2 ^ 32)) ∧
        (a.freeing = none ∨ used = true ∨ s.seamNames h.toNat = true → exec (.allocationFreeCommit h) s = .next s))) ∧
  (∀ s : State, s.due = [] →
      (∀ (set : Fin 32) (fn : Fin 33) (head : HostHead),
        let b := hostMessage 0x0022 head
        let q := fieldAt b 8 4
        let h := fieldAt b 0x10 4
        let o := fieldAt b 0x14 4
        let v := fieldAt b 0x18 4
        s.accepts set fn 0x0022 head → s.cpUp 1 = true → ∀ a, s.alloc? h = some a → a.part = set.val →
        (a.internal = false → a.published = none → a.publishing = none → a.hostWritten = false →
          (∀ l, Tab.find? s.tier.lastVersion o = some l → l < v) →
          exec (.publish set fn head) s = .next (s.updAlloc h (fun a => { a with
            publishing := some { object := o, version := v, digest := BitVec.ofNat 256 (fieldAt b 0x20 32), host := some (set.val, q) } }))) ∧
        (a.internal = false → a.published = none → a.publishing = none → a.hostWritten = true →
          exec (.publish set fn head) s = .next (s.reply set.val 0x0022 q 0x16 0)) ∧
        (∀ l, a.internal = false → a.published = none → a.publishing = none → a.hostWritten = false → Tab.find? s.tier.lastVersion o = some l →
          v ≤ l → exec (.publish set fn head) s = .next (s.reply set.val 0x0022 q 0x15 0)) ∧
        (a.published ≠ none → exec (.publish set fn head) s = .next (s.reply set.val 0x0022 q 0x17 0))) ∧
      (∀ (h : BitVec 20) (a : Alloc) (u : Publication), s.power.vmainGood = true → s.alloc? h.toNat = some a → a.publishing = some u →
        let writing := s.cores.any (fun x => x.2.descs.any (fun d => d.state != 0 && d.write && d.kind == 1 && d.handle == h.toNat))
        let unread := s.readBad a 0 a.size || a.meetsLost 0 a.size
        let newer : Prop := ∀ l, Tab.find? s.tier.lastVersion u.object = some l → l < u.version
        (writing = true → exec (.publishDigestDone h) s = .next s) ∧
        (writing = false → newer → unread = false → (u.host.isSome = true → State.digestOk a u.digest = true) → (∀ p q, u.host = some (p, q) → p < 32) →
          (s.freeRecord ≠ none →
            ∃ t, exec (.publishDigestDone h) s = .next t ∧ t.alloc? h.toNat = some { a with publishing := none, published := some (u.object, u.version) } ∧
              Tab.find? t.tier.lastVersion u.object = some u.version ∧ (∀ k, k ≠ h.toNat → t.alloc? k = s.alloc? k) ∧
              t.rd Reg.SEAM_CLOSED = (s.rd Reg.SEAM_CLOSED + 1) % 2 ^ 32) ∧
          (s.freeRecord = none → ∃ t, exec (.publishDigestDone h) s = .next t ∧ t.tier = s.tier)) ∧
        (∀ p q, writing = false → newer → u.host = some (p, q) → p < 32 → unread = true ∨ State.digestOk a u.digest = false →
          exec (.publishDigestDone h) s = .next ((s.updAlloc h.toNat (fun a => { a with publishing := none })).reply p 0x0022 q 0x14 0))))

/-- A move commits once no block is dirty or on its way, and its granule then lies at its destination, with its bytes; a failed one leaves it
where it was, and an error of its source is handled at the unit that failed. Scrub goes from sector to sector, counts what it corrects and
poisons what it cannot; granules lent come back washed, which of them is open (log entry 84), and
one held from a lender that calls it goes back at once
where nothing uses it; a region washed is there to be used. -/
def Obligations.MovesScrubsAndLending : Prop :=
  ∀ s : State, s.ready →
    (∀ (k : Fin 256) (x : Seam) (a : Action) (l : Alloc), s.seam? k.val = some x → x.state = 3 → x.actions = [a] → x.plain →
      let w := Act.of a
      let kept (l' : Alloc) : Prop := l'.data = l.data ∧ (l'.entry w.granule).tier = (l.entry w.granule).tier ∧
        (l'.entry w.granule).location = (l.entry w.granule).location ∧ (l'.entry w.granule).state ≠ 2 ∧ (l'.entry w.granule).moveTo = none
      w.kind = 1 → s.alloc? w.handle = some l → x.submitter ≠ 8 → x.participants = [] → (∀ p, p ∈ s.seams.presses → p.seam ≠ k.val) →
      (x.timing = 0 → x.inPlace = false → x.waits = [] → s.keptSeam x = false → w.tier ≠ 3 →
        (∀ m, m ∈ s.tier.moveAcks → m.seam ≠ k.val ∧ (m.handle ≠ w.handle ∨ m.granule ≠ w.granule)) →
        ∃ t l', exec (.moveCommit k none) s = .next t ∧ t.seam? k.val = none ∧ t.rd Reg.SEAM_CLOSED = (s.rd Reg.SEAM_CLOSED + 1) % 2 ^ 32 ∧
          t.alloc? w.handle = some l' ∧ l'.data = l.data ∧ (l'.entry w.granule).state = 1 ∧ (l'.entry w.granule).tier = w.tier ∧
          (l'.entry w.granule).location = w.location ∧ (l'.entry w.granule).moveTo = none ∧
          ∀ g, g ≠ w.granule → l'.entry g = l.entry g) ∧
      ((∃ m, m ∈ s.tier.moveAcks ∧ m.seam = k.val) → exec (.moveCommit k none) s = .next s) ∧
      (∃ t l', exec (.moveCommit k (some .destination)) s = .next t ∧ s.unpicked t k.val 0x31 ∧ t.alloc? w.handle = some l' ∧ kept l') ∧
      (∀ byte : Fin 65536, l.published = none → l.owner = none → l.part < 32 →
        ∃ t l', exec (.moveCommit k (some (.source 0 byte))) s = .next t ∧ s.unpicked t k.val 0x30 ∧ t.alloc? w.handle = some l' ∧ kept l' ∧
          (w.granule * 65536 + byte.val) / 16 ∈ l'.bad)) ∧
    (∀ ce : Nat, s.fld Reg.TIER_SCRUB_CTRL 8 8 = 1 → ∃ t, exec (.largeTierScrub ce none) s = .next t ∧
      t.tier = { s.tier with scrubNext := (s.tier.scrubNext + 1) % (s.largeGranules * 128) } ∧
      t.rd Reg.TIER_CE_COUNT = min (2 ^ 32 - 1) (s.rd Reg.TIER_CE_COUNT + min ce 16) ∧ (0 < ce → t.fld Reg.TIER_ERR 0 0 = 1) ∧
      OnlyRegs (fun off => off == Reg.TIER_CE_COUNT || off == Reg.TIER_ERR || off == Reg.LPDDR_SUB (s.subChannel s.tier.scrubNext))
        { s with tier := t.tier } t) ∧
    (∀ b : Fin 16, s.fld Reg.TIER_SCRUB_CTRL 8 8 = 1 → s.atSector s.tier.scrubNext b.val = none → s.tier.scrubNext < s.largeUsable * 128 →
      ∃ t, exec (.largeTierScrub 0 (some b)) s = .next t ∧ s.tier.scrubNext * 16 + b.val ∈ t.tier.poison ∧ t.tier.allocs = s.tier.allocs ∧
        t.rd Reg.TIER_UE_COUNT = min (2 ^ 32 - 1) (s.rd Reg.TIER_UE_COUNT + 1) ∧ t.cores = s.cores) ∧
    (∀ ce ue, s.fld Reg.TIER_SCRUB_CTRL 8 8 = 0 → exec (.largeTierScrub ce ue) s = .next s) ∧
    (s.tier.unhomed = [] → s.tier.called = [] → ∀ (node : Fin 4096) (recalled returned : Nat),
      let mine := Tab.keys (s.tier.lent.filter (fun x => x.2 == node.val))
      let earlier := Tab.get 0 s.tier.recalls node.val
      let want := min mine.length (if s.recallCause then max recalled earlier else earlier)
      ∃ (t : State) (back : List Nat), exec (.lendRecall node { lent := recalled } returned) s = .next t ∧ (∀ g, g ∈ back → g ∈ mine) ∧ back.length = min returned want ∧
        (∀ x, x ∈ t.tier.lent ↔ x ∈ s.tier.lent ∧ x.1 ∉ back) ∧ (∀ g i, g ∈ back → i < 65536 → t.tier.raw.byte (g * 65536 + i) = 0) ∧
        Tab.get 0 t.tier.recalls node.val = want - back.length ∧ t.tier.borrowed = s.tier.borrowed ∧ t.tier.allocs = s.tier.allocs ∧
        t.regs = s.regs) ∧
    (s.tier.unhomed = [] → s.tier.called = [] → (∀ b, b ∈ s.tier.borrowed → b ∈ s.lentFree) → s.tier.borrowed.Nodup →
      ∀ (node : Fin 4096) (called : Nat),
      let held := s.tier.borrowed.filter (fun b => b.1 == node.val)
      ∃ t, exec (.lendRecall node { held := called } 0) s = .next t ∧ (∀ b, b ∈ t.tier.borrowed → b ∈ s.tier.borrowed) ∧
        (t.tier.borrowed.filter (fun b => b.1 == node.val)).length = held.length - min called held.length ∧ t.tier.called = [] ∧
        t.tier.allocs = s.tier.allocs ∧ t.regs = s.regs) ∧
    (∀ v : W32, s.hostOpen → ∃ t, exec (.tierLendCtrlWrite 0 v) s = .next t ∧ t.fld Reg.TIER_LEND_CTRL 31 31 = bits v.toNat 31 31 ∧
      t.fld Reg.TIER_LEND_CTRL 15 0 = bits v.toNat 15 0 ∧ t.fld Reg.TIER_LEND_CTRL 23 16 = bits v.toNat 23 16 ∧ t.tier.lent = s.tier.lent ∧
      (bit v.toNat 31 = false → ∀ x, x ∈ s.tier.lent →
        Tab.get 0 t.tier.recalls x.2 = (s.tier.lent.filter (fun y => y.2 == x.2)).length) ∧
      (bit v.toNat 31 = true → OnlyRegs (fun off => off == Reg.TIER_LEND_CTRL) s t)) ∧
    (2 ≤ s.phase → s.tier.unhomed = [] → s.tier.unwashed = [] → s.tier.hostWaits = [] →
      ∃ t, exec .washRegionDone s = .next t ∧ t.tier = { s.tier with washed := min s.largeGranules (s.tier.washed + 16384) } ∧
        (t.fld Reg.TIER_STATUS 31 31 = 1 ↔ s.largeGranules ≤ s.tier.washed + 16384) ∧
        OnlyRegs (fun off => off == Reg.TIER_STATUS) { s with tier := t.tier } t) ∧
    (s.phase < 2 → exec .washRegionDone s = .next s)

/-! Seams. -/

/-- A seam of this module: submitted it takes the lowest free record, prepared it holds its targets, committed it has its effect and its
record is free; one of a disabled function, with no record free, with a bad action, whose key is in place, that fails a check or is late ends
with that status; one whose targets are held, whose image is not at hand, or that needs space not washed yet, waits. -/
def Obligations.SeamsOpenPrepareAndClose : Prop :=
  ∀ s : State, s.ready →
    (∀ (submitter : Fin 6) (scope : Option (Fin 32 × Fin 4)) (owner : Option (Fin 8192)) (reqId : W64) (timing : Bool) (actions : List Action),
      let x0 : Seam := { submitter := submitter.val, scope := scope.map (fun (p : Fin 32 × Fin 4) => (p.1.val, p.2.val)), owner := owner.map (·.val)
                         reqId := reqId.toNat, timing := b2n timing, actions := actions }
      let it : Instr := .seamSubmit submitter scope owner reqId timing actions
      let nodes := s.seamNodes actions
      let spelt : Prop := actions ≠ [] ∧ actions.length ≤ 64 ∧ (∀ a, a ∈ actions → actionBad a = false) ∧ nodes.length ≤ 15 ∧
        (timing = true → nodes = []) ∧ ((∀ a, a ∈ actions → Seam.kind a ≠ 6) ∨ (actions.length = 1 ∧ timing = false))
      let ended (t : State) (status : Nat) : Prop := t.rd Reg.SEAM_UNPICKED = (s.rd Reg.SEAM_UNPICKED + 1) % 2 ^ 32 ∧ t.fld Reg.SEAM_LAST 31 24 = status
      (s.scopeOff x0 = true → ∃ t, exec it s = .next t ∧ t.seams = s.seams ∧ ended t 0x12) ∧
      (s.scopeOff x0 = false → s.freeRecord = none → ∃ t, exec it s = .next t ∧ t.seams = s.seams ∧ ended t 0x15 ∧
        t.rd Reg.SEAM_FULL_COUNT = (s.rd Reg.SEAM_FULL_COUNT + 1) % 2 ^ 32) ∧
      (∀ k, s.scopeOff x0 = false → s.freeRecord = some k →
        (spelt → ∃ t x, exec it s = .next t ∧ s.seam? k = none ∧ (∀ j, j < k → s.seam? j ≠ none) ∧ t.seam? k = some x ∧ x.state = 2 ∧
          x.gen = s.nextGen k ∧ x.actions = actions ∧ x.submitter = submitter.val ∧ x.participants = [] ∧ x.openedAt = s.legCount ∧
          (∀ j, j ≠ k → t.seam? j = s.seam? j) ∧ t.regs = s.regs ∧ t.tier = s.tier ∧ t.serving = s.serving) ∧
        (¬ spelt → ∃ t, exec it s = .next t ∧ (∀ j, t.seam? j = s.seam? j) ∧ ended t 0x16))) ∧
    (∀ (k : Fin 256) (x : Seam), s.seam? k.val = some x → x.submitter ≠ 8 → x.plain → x.reason = none → x.participants = [] →
      let free : Prop := s.heldBack k.val x = false ∧ s.awaitsWash x = false
      let atHand : Prop := ∀ w, w ∈ State.seamPresses x → s.imageBelow w.part w.handle = []
      (x.state = 2 → ¬ free → exec (.seamLocalPrepare k) s = .next s) ∧
      (x.state ≠ 2 → exec (.seamLocalPrepare k) s = .next s) ∧
      (x.state = 2 → free → ¬ atHand → ∃ t, exec (.seamLocalPrepare k) s = .next t ∧ t.seam? k.val = some x) ∧
      (∀ u, x.state = 2 → free → atHand → s.keyHeld x = false → s.prepareAll k.val x = .inr u →
        ∃ t y, exec (.seamLocalPrepare k) s = .next t ∧ t.seam? k.val = some y ∧ y.state = 3 ∧ y.actions = x.actions ∧ y.results = x.results ∧
          y.participants = (s.seamNodes x.actions).map (fun n => { node := n }) ∧ t.tier = u.tier) ∧
      (x.state = 2 → free → atHand → s.keyHeld x = true →
        ∃ t, exec (.seamLocalPrepare k) s = .next t ∧ t.seam? k.val = none ∧ t.rd Reg.SEAM_ALREADY = (s.rd Reg.SEAM_ALREADY + 1) % 2 ^ 32 ∧
          t.tier = s.tier ∧ t.tables = s.tables ∧ t.serving = s.serving) ∧
      (∀ i st, x.state = 2 → free → atHand → s.keyHeld x = false → s.prepareAll k.val x = .inl (i, st) →
        3 ≤ st → st < 256 → ∃ t, exec (.seamLocalPrepare k) s = .next t ∧ s.unpicked t k.val st ∧
          t.tier = s.tier ∧ t.tables = s.tables ∧ t.serving = s.serving) ∧
      (∀ a, x.state = 3 → x.timing = 0 → x.actions = [a] → (Act.of a).kind = 11 → x.inPlace = false → x.waits = [] →
        (∀ p, p ∈ s.seams.presses → p.seam ≠ k.val) →
        ∃ t, exec (.seamCommitPoint k) s = .next t ∧ t.seam? k.val = none ∧ t.rd Reg.SEAM_CLOSED = (s.rd Reg.SEAM_CLOSED + 1) % 2 ^ 32 ∧
          t.tenantUsed (Act.of a).index = s.tenantUsed (Act.of a).index + (Act.of a).value ∧
          (∀ n, n ≠ (Act.of a).index → t.tenantUsed n = s.tenantUsed n) ∧ t.tier = s.tier ∧ t.tables = s.tables) ∧
      (x.state = 3 → s.mayCommit x = false → exec (.seamCommitPoint k) s = .next s) ∧
      (x.state ≤ 3 → x.timing = 0 → s.seamNodes x.actions = [] → (∀ a, a ∈ x.actions → Seam.kind a ≠ 6) →
        let late : Prop := x.openedTime + 100 * s.fld Reg.SEAM_CTRL 15 0 ≤ s.now
        (late → s.awaitsWash x = false → ∃ t, exec (.seamTimeout k) s = .next t ∧ s.unpicked t k.val 0x19) ∧
        (¬ late ∨ s.awaitsWash x = true → exec (.seamTimeout k) s = .next s))) ∧
    (∀ v : W32, s.hostOpen → bit v.toNat 16 = true → ∃ t, exec (.seamCtrlClearMax 0 v) s = .next t ∧ t.rd Reg.SEAM_LEDGER_TIME = 0 ∧
      OnlyRegs (fun off => off == Reg.SEAM_CTRL || off == Reg.SEAM_LEDGER_TIME) s t)

/-- The coordinator of a seam that spans modules notes a participant that is ready and commits once the last is, unpicks the seam where one
refuses or is not ready in 200 µs, and frees the record after the last SEAM_DONE. -/
def Obligations.CoordinatorsCollectAnswers : Prop :=
  ∀ (s : State) (node : Fin 4096) (id : W32) (k : Nat) (x : Seam), s.ready → s.coordRecord node.val id.toNat = some k → s.seam? k = some x →
    x.plain → k < 256 →
    (x.state ≤ 3 → (∃ p, p ∈ x.participants ∧ p.node = node.val ∧ p.phase = 0) → (∃ p, p ∈ x.participants ∧ p.node ≠ node.val ∧ p.phase = 0) →
      exec (.seamReady node id) s = .next (s.setPhase k node.val 1)) ∧
    (∀ a, x.state = 3 → x.timing = 0 → x.inPlace = false → x.participants = [{ node := node.val, phase := 0 }] → x.actions = [a] →
      Seam.kind a = 4 → s.actionNode a = some node.val → s.canSend node.val →
      ∃ t y, exec (.seamReady node id) s = .next t ∧ t.seam? k = some y ∧ y.state = 4 ∧ y.status = 1 ∧ y.participants.map (·.phase) = [2] ∧
        sysTxn node.val opCommit [s.node, x.id k, 1] ∈ t.cause.sent) ∧
    (∀ code : BitVec 8, x.state ≤ 3 → (∀ p, p ∈ x.participants → p.node = node.val ∨ 3 ≤ p.phase) →
      ∃ t, exec (.seamRefuse node id code) s = .next t ∧ s.unpicked t k 0x1A) ∧
    (∀ status : BitVec 8, x.state = 5 → x.status = 1 → (∀ p, p ∈ x.participants → p.node = node.val ∨ 3 ≤ p.phase) →
      ∃ t, exec (.seamDone node id status) s = .next t ∧ t.seam? k = none ∧ t.rd Reg.SEAM_CLOSED = (s.rd Reg.SEAM_CLOSED + 1) % 2 ^ 32) ∧
    (∀ status : BitVec 8, x.state ≤ 3 → exec (.seamDone node id status) s = .next s) ∧
    (∀ kk : Fin 256, kk.val = k → x.state ≤ 3 → x.participants = [{ node := node.val, phase := 0 }] → s.seamNodes x.actions ≠ [] →
      (x.openedTime + 20000 ≤ s.now → s.canSend node.val →
        ∃ t y, exec (.seamPeerTimeout kk) s = .next t ∧ t.seam? k = some y ∧ y.state = 5 ∧ y.status = 0x1B ∧
          sysTxn node.val opUnpick [s.node, x.id k, 0x1B] ∈ t.cause.sent) ∧
      (s.now < x.openedTime + 20000 → exec (.seamPeerTimeout kk) s = .next s))

/-- A participant: without a record it refuses; prepared it answers ready; told to commit its part takes effect and it answers done; told
to unpick it ends. One it does not hold it answers as already complete, and undecided it asks again after 500 µs; its coordinator then
answers with what it has decided. -/
def Obligations.ParticipantsAnswerTheirCoordinator : Prop :=
  ∀ (s : State) (node : Fin 4096) (id : W32), s.ready →
    (s.partOfName node.val id.toNat = none →
      (∀ scope actions staged, s.freeRecord = none → exec (.seamPrepare node id scope actions staged) s =
        .next ((s.bump Reg.SEAM_FULL_COUNT).sendSystem node.val opRefuse [node.val, id.toNat, 0x15])) ∧
      (∀ (scope : BitVec 8) (a : Action) (staged : List Byte) (k : Nat), s.freeRecord = some k → (∀ y, y ∈ s.seams.recs → y.2.state < 3) →
        actionBad a = false → (Act.of a).kind = 4 → bit scope.toNat 7 = true →
        s.districtOwner (State.districtOf (Act.of a).core) = some (bits scope.toNat 4 0) → s.canSend node.val →
        ∃ t y, exec (.seamPrepare node id scope [a] staged) s = .next t ∧ t.seam? k = some y ∧ y.state = 3 ∧ y.submitter = 8 ∧
          y.coordNode = node.val ∧ y.coordSeam = id.toNat ∧ y.actions = [a] ∧ sysTxn node.val opReady [node.val, id.toNat] ∈ t.cause.sent) ∧
      exec (.seamCommit node id) s = .next (s.sendSystem node.val opDone [node.val, id.toNat, 2]) ∧
      (∀ code : BitVec 8, exec (.seamUnpick node id code) s = .next (s.sendSystem node.val opDone [node.val, id.toNat, code.toNat]))) ∧
    (∀ (k : Nat) (x : Seam), s.partOfName node.val id.toNat = some k → s.seam? k = some x → x.submitter = 8 → k < 256 → x.plain →
      x.coordNode = node.val → x.coordSeam = id.toNat →
      (∀ scope actions staged, exec (.seamPrepare node id scope actions staged) s = .next s) ∧
      (∀ (a : Action) (ep : Nat), x.state = 3 → x.inPlace = false → x.waits = [] → x.participants = [] → x.aborts = [] → x.actions = [a] →
        x.epochs = [ep] →
        let w := Act.of a
        w.kind = 4 → s.semOwner w.core w.pair = some w.slot → s.epoch (State.districtOf w.core) w.slot = ep →
        s.semCount w.core w.pair w.room + w.value ≤ 65535 → (∀ p, p ∈ s.seams.presses → p.seam ≠ k) → s.canSend node.val →
        ∃ t, exec (.seamCommit node id) s = .next t ∧ t.seam? k = none ∧ t.rd Reg.SEAM_CLOSED = (s.rd Reg.SEAM_CLOSED + 1) % 2 ^ 32 ∧
          t.semCount w.core w.pair w.room = s.semCount w.core w.pair w.room + w.value ∧ sysTxn node.val opDone [node.val, id.toNat, 1] ∈ t.cause.sent) ∧
      (x.state ≠ 3 → exec (.seamCommit node id) s = .next s) ∧
      (∀ code : BitVec 8, 3 ≤ code.toNat → x.state ≤ 3 → x.aborts = [] → s.canSend node.val → ∃ t, exec (.seamUnpick node id code) s = .next t ∧
        s.unpicked t k code.toNat ∧ sysTxn node.val opDone [node.val, id.toNat, code.toNat] ∈ t.cause.sent) ∧
      (∀ kk : Fin 256, kk.val = k → x.state = 3 →
        (x.askedAt + 50000 ≤ s.now → s.nodeLost node.val = false → exec (.seamQueryTimer kk) s =
          .next ((s.updSeam k (fun x => { x with askedAt := s.now })).sendSystem node.val opQuery [node.val, id.toNat])) ∧
        (s.now < x.askedAt + 50000 → exec (.seamQueryTimer kk) s = .next s))) ∧
    (s.recordOfId id.toNat = none → exec (.seamQuery node id) s = .next (s.sendSystem node.val opUnpick [s.node, id.toNat, 0x10])) ∧
    (∀ k x, s.recordOfId id.toNat = some k → s.seam? k = some x → x.submitter ≠ 8 →
      (x.state ≤ 3 → exec (.seamQuery node id) s = .next s) ∧
      (4 ≤ x.state → x.status = 1 → exec (.seamQuery node id) s = .next (s.sendSystem node.val opCommit [s.node, id.toNat, 1])) ∧
      (4 ≤ x.state → x.status ≠ 1 → exec (.seamQuery node id) s = .next (s.sendSystem node.val opUnpick [s.node, id.toNat, x.status])))

/-! Serving. -/

/-- A request that passes every test is admitted, with what its message says, and one that fails a test is answered; a block of a published
KV space enters the index in a free record; a write of SERVING_PREFIX_CTRL with flush keeps of both indexes the records with references, and
one with a legal tree_log2 those of the tree and asks for the resize; a legal target_cycles is kept, and plans are made anew unless CP0 is
down. -/
def Obligations.RequestsAndThePrefixIndex : Prop :=
  ∀ s : State, s.due = [] →
    (∀ (set : Fin 32) (fn : Fin 33) (head : HostHead) (cut : Option Nat), s.accepts set fn 0x0010 head →
      let r := ReqBody.ofBytes (hostMessage 0x0010 head)
      (s.admissionTest set.val r = (0, 0) →
        ∃ t q, exec (.request set fn head cut) s = .next t ∧ s.req? r.id = none ∧ t.req? r.id = some q ∧ q.part = set.val ∧ q.model = r.model ∧
          q.tenant = r.tenant ∧ q.promptLen = r.promptLen ∧ q.maxNew = r.maxNew ∧ q.generate = bit r.flags 0 ∧
          q.admittedLeg = s.legCount % 2 ^ 32 ∧ t.rd Reg.SERVING_ADMITTED = (s.rd Reg.SERVING_ADMITTED + 1) % 2 ^ 32 ∧
          ∀ id, id ≠ r.id → ((t.req? id).isSome ↔ (s.req? id).isSome)) ∧
      (∀ st hint, s.admissionTest set.val r = (st, hint) → st ≠ 0 → st ≠ stOverload → st ≠ stNoPlan →
        exec (.request set fn head cut) s = .next ((s.bump Reg.SERVING_REFUSED).refuseMsg set.val r.id st hint 0))) ∧
    (∀ (h : BitVec 20) (q : PrefixPending) (a : Alloc) (c : BitVec 128) (page i : Nat), s.power.vmainGood = true →
      s.serving.prefixPending.find? (fun q => q.handle == h.toNat) = some q → s.alloc? h.toNat = some a → a.published.isSome = true →
      q.blocks = [(c, page)] → q.firstBlock = 0 → q.before = none →
      let mode := s.prefixMode q.part
      let kind := mode - 1
      (mode = 1 ∨ mode = 2 → s.lookup kind q.part c = none → s.roomInGroup kind c none = some i → (s.node_ kind i).valid = false →
        ∃ t, exec (.prefixInsert h) s = .next t ∧ (t.node_ kind i).valid = true ∧ (t.node_ kind i).chain = c ∧ (t.node_ kind i).part = q.part ∧
          (t.node_ kind i).pageHandle = q.handle ∧ (t.node_ kind i).pageIndex = page ∧ (t.node_ kind i).refs = 0 ∧
          (∀ j, j ≠ i → t.node_ kind j = s.node_ kind j) ∧
          t.rd Reg.SERVING_PREFIX_INSERTED = (s.rd Reg.SERVING_PREFIX_INSERTED + 1) % 2 ^ 32)) ∧
    (∀ v : W32, s.barOpen 0 = true →
      let n := bits v.toNat 4 0
      let legal := decide (16 ≤ n) && decide (n ≤ 24)
      let flush := bit v.toNat 8
      (∀ it, it = Instr.prefixFlush 0 v ∨ it = Instr.prefixTreeLog2Write 0 v → ∃ t, exec it s = .next t ∧
        t.fld Reg.SERVING_PREFIX_CTRL 4 0 = (if legal then n else s.fld Reg.SERVING_PREFIX_CTRL 4 0) ∧
        t.serving.hashTable = (if flush then s.serving.hashTable.filter (fun x => decide (0 < x.2.refs)) else s.serving.hashTable) ∧
        t.serving.tree.map (·.1) =
          (if flush || legal then s.serving.tree.filter (fun x => decide (0 < x.2.refs)) else s.serving.tree).map (·.1) ∧
        t.serving.resize = (legal || s.serving.resize) ∧ t.serving.treeLog2 = s.serving.treeLog2 ∧ t.serving.reqs = s.serving.reqs) ∧
      (bit v.toNat 0 = true → exec (.servingResClear 0 v) s = .next (s.setFld Reg.SERVING_RES_FORM_TIME 15 0 0)) ∧
      (1600 ≤ bits v.toNat 16 0 → bits v.toNat 16 0 ≤ 80000 → exec (.servingPlanCtrlWrite 0 v) s =
        .next (if s.cpUp 0 then (s.setFld Reg.SERVING_PLAN_CTRL 16 0 (bits v.toNat 16 0)).replanAll
          else s.setFld Reg.SERVING_PLAN_CTRL 16 0 (bits v.toNat 16 0))) ∧
      (bits v.toNat 16 0 < 1600 ∨ 80000 < bits v.toNat 16 0 → ∃ t, exec (.servingPlanCtrlWrite 0 v) s = .next t ∧
        OnlyRegs (fun _ => false) s t))

/-! The expert exchange. -/

/-- At the source: a block is taken while fewer than eight of its context are held, and its choices claimed; a granted choice awaits its
result; a choice ends with its result, its failure or its timeout, and the last one to end completes the block. -/
def Obligations.BlocksAreClaimedAndCombined : Prop :=
  ∀ s : State, s.ready →
    (∀ (ctx : Fin 64) (w : DispBlock), s.expert.blocks.find? (fun b => b.ctx == ctx.val && !b.held) = some w →
      let held := (s.expert.blocks.filter (fun b => b.ctx == ctx.val && b.held)).length
      let u : State := { s with expert := { s.expert with blocks := s.expert.blocks.erase w } }
      (8 ≤ held → exec (.exchangeTakeBlock ctx) s = .next s) ∧
      (∀ x n p, held < 8 → u.blockBad (u.readBlock w) = false → (u.readBlock w).choices = [x] → u.choiceHost (u.readBlock w) x = .inr (n, p) →
        n ≠ s.node → ∃ t, exec (.exchangeTakeBlock ctx) s = .next t ∧
          { u.readBlock w with choices := [{ x with state := 1, host := n, txn := s.cause.txnNext, claimedAt := s.now }] } ∈ t.expert.blocks ∧
          t.rd Reg.SERVING_EXPERT_CLAIMED = (s.rd Reg.SERVING_EXPERT_CLAIMED + 1) % 2 ^ 32)) ∧
    (∀ (node : Fin 4096) (txn : W32) (granted notResident : W64) (b : DispBlock) (x : Choice),
      s.expert.blocks.find? (fun b => b.held && b.choices.any (fun x => x.host == node.val && x.txn == txn.toNat && x.state != 0)) = some b →
      b.choices = [x] → x.state = 1 → node.val ≠ s.node → granted.getLsbD 0 = true →
      ∃ t, exec (.grant node txn granted notResident) s = .next t ∧ { b with choices := [{ x with state := 2 }] } ∈ t.expert.blocks ∧
        t.expert.blocks.length = s.expert.blocks.length) ∧
    (∀ (tag : W64) (data : List Byte) (b : DispBlock) (x : Choice), s.grantedChoice tag = some (b, x) →
      s.expert.blocks.find? (fun y => y.ctx == b.ctx && y.off == b.off && y.held) = some b →
      ((∃ y, y ∈ b.choices ∧ y.tag ≠ tag ∧ y.state < 3) →
        exec (.result tag data) s = .next (s.updBlock b.ctx b.off (fun b => { b with choices := b.choices.map (fun x =>
          if x.tag = tag ∧ x.state = 2 then { x with state := 3, result := sliceBytes data 0 (outRowBytes (s.placement (s.ctxModel b.ctx) b.layer)) }
          else x) }))) ∧
      (b.choices = [x] → bit b.post 7 = false → ∃ t, exec (.result tag data) s = .next t ∧
        t.rd Reg.SERVING_EXPERT_ACCEPTED = (s.rd Reg.SERVING_EXPERT_ACCEPTED + 1) % 2 ^ 32 ∧
        t.expert.blocks.length + 1 = s.expert.blocks.length) ∧
      ((∃ y, y ∈ b.choices ∧ y.tag ≠ tag ∧ y.state < 3) → (b.choices.filter (fun y => y.tag == tag)).length = 1 →
        exec (.failed tag) s = .next ((s.bump Reg.SERVING_EXPERT_BYP_TIMEOUT).updBlock b.ctx b.off (fun b => { b with
          choices := b.choices.map (fun x => if decide (x.state < 3) && x.tag == tag then { x with state := 4 } else x) })))) ∧
    (∀ tag : W64, ∀ data, s.grantedChoice tag = none → s.expert.abandoned.contains tag = false →
      exec (.result tag data) s = .next (s.bump Reg.SERVING_EXPERT_LATE)) ∧
    (∀ (ctx : Fin 64) (off i : Nat) (b : DispBlock) (x : Choice),
      s.expert.blocks.find? (fun b => b.ctx == ctx.val && b.off == off && b.held) = some b → b.choices[i]? = some x → x.state = 1 ∨ x.state = 2 →
      (s.now < x.claimedAt + 100 * s.fld Reg.SERVING_EXPERT_CTRL 21 16 → exec (.expertTimeout ctx off i) s = .next s) ∧
      (x.claimedAt + 100 * s.fld Reg.SERVING_EXPERT_CTRL 21 16 ≤ s.now → (b.choices.filter (fun y => y.tag == x.tag)).length = 1 →
        (∃ y, y ∈ b.choices ∧ y.tag ≠ x.tag ∧ y.state < 3) →
        exec (.expertTimeout ctx off i) s = .next ((s.bump Reg.SERVING_EXPERT_BYP_TIMEOUT).updBlock ctx.val off (fun b => { b with
          choices := b.choices.map (fun y => if decide (y.state < 3) && y.tag == x.tag then { y with state := 4 } else y) }))))

/-- At the host: a claim opens the window of its expert, or joins it; when the window ends the choice is granted up to the capacity; its
row enters the inbox of the expert context. A private expert's load makes it resident once none of its bytes is still to come from another
module; one that fails leaves none of its replicas, but those that a far request still uses, which go after it. -/
def Obligations.HostsGrantUpToCapacity : Prop :=
  ∀ s : State, s.ready →
    (∀ (node : Fin 4096) (txn : W32) (part : Fin 32) (model : Fin 1024) (tag : W64), s.fld Reg.SERVING_EXPERT_CTRL 11 0 ≠ 0 →
      let c : Claim := { node := node.val, txn := txn.toNat, part := part.val, model := model.val, tags := [(tag, 0)] }
      let key := expertKey model.val none tag
      exec (.claim node txn part model [tag]) s = .next { s with expert := { s.expert with
        claims := s.expert.claims ++ [c]
        windows := if (Tab.find? s.expert.windows key).isSome then s.expert.windows else Tab.set s.expert.windows key s.now } }) ∧
    (∀ (key t0 : Nat), Tab.find? s.expert.windows key = some t0 →
      (s.now * 16 < t0 * 16 + s.fld Reg.SERVING_EXPERT_CTRL 11 0 → exec (.expertWindowSettle key) s = .next s) ∧
      (∀ (c : Claim) (tag : W64), t0 * 16 + s.fld Reg.SERVING_EXPERT_CTRL 11 0 ≤ s.now * 16 → s.expert.claims = [c] → c.tags = [(tag, 0)] →
        expertKey c.model c.patch tag = key → c.patch = none → c.node ≠ s.node → (s.expertCtx c.model).isSome = true →
        s.expertHost c.model (tagLayer tag) (tagExpert tag) = some s.node →
        let won := decide (s.expertUsed key < s.expertCapacity c.model (tagLayer tag))
        ∃ t, exec (.expertWindowSettle key) s = .next t ∧ t.expert.claims = [] ∧ Tab.find? t.expert.windows key = none ∧
          t.expert.hosted = s.expert.hosted ++ (if won then [{ node := c.node, part := c.part, model := c.model, tag := tag }] else []) ∧
          t.expertUsed key = s.expertUsed key + b2n won)) ∧
    (∀ (node : Fin 4096) (tag : W64) (data : List Byte) (h : Hosted),
      s.expert.hosted.find? (fun h => h.node == node.val && h.tag == tag && h.row.isNone) = some h → (s.expertCtx h.model).isSome = true →
      (∀ i, i ∈ s.serving.items → i.standing = false) →
      exec (.row node [tag] data) s = .next { s with expert := { s.expert with
        hosted := s.expert.hosted.map (fun g => if g = h then { g with row := some data } else g) } }) ∧
    (∀ (part : Fin 32) (object version : W32) (e : Fin 8) (b : BayExpert),
      s.bayEntry part.val object.toNat version.toNat e.val = some b → b.resident = false →
      let mine (r : Replica) : Prop := r.object = b.object ∧ r.version = b.version ∧ b.granules.contains r.granule = true ∧ r.tier = 0 ∧
        r.part = b.part
      let coming := s.tier.fetches.any (fun f => b.granules.contains f.granule &&
        (s.alloc? f.handle).bind (·.published) == some (object.toNat, version.toNat))
      (coming = true → exec (.privateExpertLoadDone part object version e false) s = .next s) ∧
      (coming = false → ∃ t, exec (.privateExpertLoadDone part object version e false) s = .next t ∧ { b with resident := true } ∈ t.expert.bays ∧
        t.rd (Reg.SERVING_EXPERT_BAYLOADS part.val) = (s.rd (Reg.SERVING_EXPERT_BAYLOADS part.val) + 1) % 2 ^ 32 ∧
        ∀ r, r ∈ t.tier.replicas → mine r → r.making = false) ∧
      (∃ t, exec (.privateExpertLoadDone part object version e true) s = .next t ∧ t.expert.bays = s.expert.bays.erase b ∧
        (∀ r, ¬ mine r → (r ∈ t.tier.replicas ↔ r ∈ s.tier.replicas)) ∧
        (∀ r, r ∈ t.tier.replicas → mine r → r.going = true ∧ s.replicaBusy r = true)))

/-! Residency and broadcasts. -/

/-- A formation whose share range the tier block has left gets its ports and opens its first press; a disabled one leaves instead. An evicting
context leaves once its slot is quiet, wrung where it is not in time; a demoting one leaves once its share is saved. -/
def Obligations.ContextsFormAndLeave : Prop :=
  ∀ (s : State) (c : Fin 64), s.ready →
    (∀ k, s.ctxState c.val = 1 → (s.ctx c.val).formStep = 2 → s.ctxDisabled c.val = false → s.shareRangeClear c.val = true →
      s.freeRecord = some k → s.handlePair ≠ none →
      let image := (s.ctx c.val).images.getD (s.ctx c.val).pressed 0
      image < 2 ^ 20 → bits (s.peekNat image 6 2) 9 0 = s.ctxModel c.val →
      ∃ t x a, exec (.formationMovesDone c) s = .next t ∧ (t.ctx c.val).formStep = 4 ∧ t.ctxState c.val = 1 ∧ t.seam? k = some x ∧
        x.pressCtx = some c.val ∧ x.submitter = 2 ∧ x.state = 2 ∧ x.actions = [a] ∧ (Act.of a).kind = 6 ∧ (Act.of a).handle = image ∧
        (Act.of a).part = s.ctxPart c.val ∧ (Act.of a).origin = s.ctxOrigin c.val ∧ (t.alloc? (t.ctx c.val).seamPort).isSome = true ∧
        t.rd Reg.SEAM_CLOSED = (s.rd Reg.SEAM_CLOSED + 3) % 2 ^ 32) ∧
    (s.ctxState c.val = 1 → (s.ctx c.val).formStep = 2 → s.ctxDisabled c.val = true → s.ctxExpert c.val = false →
      ∃ t, exec (.formationMovesDone c) s = .next t ∧ t.ctxState c.val = 4 ∧ (t.ctx c.val).formsFor = none) ∧
    (s.ctxState c.val ≠ 1 ∨ (s.ctx c.val).formStep ≠ 2 → exec (.formationMovesDone c) s = .next s) ∧
    (s.ctxState c.val ≠ 4 ∨ s.ctxQuiet c.val = false → exec (.evictionQuiet c) s = .next s) ∧
    (s.ctxState c.val = 4 → s.ctxQuiet c.val = true → (s.ctx c.val).formsFor = none →
      ∃ t, exec (.evictionQuiet c) s = .next t ∧ t.ctxState c.val = 0 ∧ (∀ i, i ∈ s.ctxCores c.val → t.slotValid i (s.ctxSlot c.val) = false) ∧
        t.rd Reg.SERVING_RES_EVICTED = (s.rd Reg.SERVING_RES_EVICTED + b2n (decide ((s.ctx c.val).leaving = 1))) % 2 ^ 32) ∧
    (s.ctxState c.val ≠ 4 → exec (.evictionTimeout c) s = .next s) ∧
    (∀ d, s.ctxState c.val = 4 → (s.ctxDistricts c.val).filter (fun d => !s.quiet d (s.ctxSlot c.val)) = [d] → d < 64 →
      s.pressWaits d = false → s.tasksIn d = [] → s.runningIn d = [] → (s.ctx c.val).formsFor = none →
      ∃ t, exec (.evictionTimeout c) s = .next t ∧ t.ctxState c.val = 0 ∧ t.distState d = 6 ∧
        ∀ i, i ∈ s.ctxCores c.val → t.slotValid i (s.ctxSlot c.val) = false) ∧
    (let busy := s.serving.items.any (fun i => i.context == c.val && i.started && !i.done)
     (s.ctxState c.val ≠ 3 ∨ s.ctxQuiet c.val = false ∨ busy = true → exec (.demotionSaveDone c) s = .next s) ∧
     (s.ctxState c.val = 3 → s.ctxQuiet c.val = true → busy = false → (s.ctx c.val).formsFor = none → s.freeRecord ≠ none →
      s.sweepReplicas.grantStatus (s.ctxPart c.val) 0x04 (max 1 (s.saveGranules c.val)) = 0 →
      ∃ t h, exec (.demotionSaveDone c) s = .next t ∧ t.ctxState c.val = 0 ∧
        t.serving.saves = s.serving.saves ++ [{ part := s.ctxPart c.val, model := s.ctxModel c.val, handle := h, expert := s.ctxExpert c.val }] ∧
        s.alloc? h = none ∧ (t.alloc? h).isSome = true ∧ (∀ i, i ∈ s.ctxCores c.val → t.slotValid i (s.ctxSlot c.val) = false)))

/-- A broadcast at its reader is registered; at a receiver it is taken only by the tree's in-port, its blocks are kept and the sixteenth
makes the granule a replica; its end takes it off the list; the root sends a granule again to one that asks. A replica whose bytes have all
come may be read. -/
def Obligations.BroadcastsMakeReplicas : Prop :=
  ∀ s : State, s.ready →
    (∀ (port : Fin 16) (tree : Fin 256) (seqNo : W32) (part : Fin 32) (object version : W32) (rehoming : Bool),
      (∀ g block tier data, s.treeIn tree.val ≠ some port.val →
        exec (.bcast port tree seqNo part object version g block tier rehoming data) s = .next (s.bump Reg.CAUSEWAY_NOROUTE)) ∧
      (∀ (g : Nat) (block : Fin 16) (data : List Byte) (h : Nat) (a : Alloc), s.treeIn tree.val = some port.val →
        bit (s.ent 6 (4096 + tree.val) 0 1) 1 = true → data.length = 4096 →
        (let all := s.tier.replicas.filter (fun r => r.object == object.toNat && r.version == version.toNat && r.granule == g)
         all.any (fun r => r.tier == 1) = false ∧ all.length < 64) →
        s.dirUsed < 134217728 → s.quotaRoom part.val = true → s.largePlace ≠ none →
        s.objectHandle object.toNat version.toNat = some h → s.alloc? h = some a → g < a.granules →
        ∃ t a', exec (.bcast port tree seqNo part object version g block 1 rehoming data) s = .next t ∧ t.alloc? h = some a' ∧
          a'.data.bytes (g * 65536 + block.val * 4096) 4096 = data ∧
          ((∃ b, s.broadcast? tree.val object.toNat version.toNat = some b ∧ ∀ i, i < 16 → i ≠ block.val → b.blocks.contains (g * 16 + i) = true) →
            ∃ r, r ∈ t.tier.replicas ∧ r.object = object.toNat ∧ r.version = version.toNat ∧ r.granule = g ∧ r.part = part.val ∧ r.tier = 1 ∧
              r.making = false)) ∧
      (∀ (count first : Nat) (tier : Fin 4) (b : Broadcast), s.treeIn tree.val = some port.val → bit (s.ent 6 (4096 + tree.val) 0 1) 1 = true →
        s.broadcast? tree.val object.toNat version.toNat = some b → (∀ i, i < count → b.received.contains (i + first) = true) →
        ∃ t, exec (.bcastEnd port tree seqNo part object version count first tier false) s = .next t ∧
          t.cause.broadcasts = s.cause.broadcasts.erase b) ∧
      (∀ (count first h : Nat) (tier : Fin 4), s.objectHandle object.toNat version.toNat = some h → s.fld (Reg.FW_STATUS 2) 3 0 = 1 →
        bit (s.ent 6 (4096 + tree.val) 0 1) 0 = true → bits (s.ent 6 (4096 + tree.val) 4 2) 11 0 = s.node → tree.val ≠ 0 → count ≠ 0 →
        (tier.val = 1 ∨ tier.val = 2) → s.broadcast? tree.val object.toNat version.toNat = none →
        ∃ t b, exec (.weightBroadcastStart tree object version first count part tier rehoming) s = .next t ∧
          t.cause.broadcasts = s.cause.broadcasts ++ [b] ∧ b.reader = true ∧ b.tree = tree.val ∧ b.object = object.toNat ∧
          b.version = version.toNat ∧ b.first = first ∧ b.count = count ∧ b.rehoming = rehoming)) ∧
    (∀ (node : Fin 4096) (tree : Fin 256) (object version : W32) (g h : Nat) (b : Broadcast),
      s.broadcast? tree.val object.toNat version.toNat = some b → s.objectHandle object.toNat version.toNat = some h →
      (b.reader = false ∨ s.granuleReadable h g = false → exec (.bcastResume node tree object version g) s = .next s) ∧
      (b.reader = true → s.granuleReadable h g = true → s.nodeLost node.val = false → s.partVcs b.part ≠ [] →
        ∃ t, exec (.bcastResume node tree object version g) s = .next t ∧ ∀ k, k < 16 →
          ∃ m, (m ∈ t.cause.sent ∨ m ∈ t.cause.parked) ∧ m.node = node.val ∧ m.op = 0x10 ∧ m.part = some b.part ∧
            m.data = s.peek h (g * 65536 + k * 4096) 4096)) ∧
    (∀ (object version : W32) (g : Nat) (r : Replica),
      s.tier.replicas.find? (fun r => r.object == object.toNat && r.version == version.toNat && r.granule == g && r.making) = some r →
      let coming (f : FetchWait) : Bool := f.granule == g && ((s.alloc? f.handle).bind (·.published)) == some (object.toNat, version.toNat)
      (s.tier.fetches.any coming = true → exec (.replicaMade object version g false) s = .next s) ∧
      (s.tier.fetches.any coming = false → exec (.replicaMade object version g false) s =
        .next { s with tier := { s.tier with replicas := s.tier.replicas.erase r ++ [{ r with making := false }] } }) ∧
      exec (.replicaMade object version g true) s =
        .next (({ s with tier := { s.tier with
          replicas := s.tier.replicas.erase r, fetches := s.tier.fetches.filter (fun f => !coming f) } } : State).bump
            (Reg.TIER_STREAM_PREFDROP r.part)))

/-! Causeway ports. -/

/-- A flit in order is accepted, one out of order asks once for a retry, as one of a bad codeword or with a CRC error does on a ready port,
the last counted; a flit goes out as eight blocks; a retry request sends the flits again from its seq; delays are requested, answered and averaged; link-state flits go out on their timer. -/
def Obligations.LinksRetryAndMeasure : Prop :=
  ∀ (s : State) (port : Fin 16), s.ready →
    let p := port.val
    let x := s.port p
    let flitsOut (t : State) (n : Nat) : Prop := ∃ l, t.cause.wire = s.cause.wire ++ l ∧ l.length = 8 * n ∧ ∀ e, e ∈ l → e.1 = p
    let bad (facts : FlitFacts) : Bool := if x.rxFlit = 0 then facts.uncorrectable != 0 else x.pairBad
    (∀ b facts, 2 ≤ x.step → s.portState p ≠ 3 → s.portState p ≠ 4 →
      let u := (if x.rxFlit = 0 then s.countFec p facts else s).updPort p (fun x => { x with rxFlit := (x.rxFlit + 1) % 5, pairBad := bad facts })
      (bad facts = true → exec (.flitReceive port b facts) s = .next u) ∧
      (bad facts = false → State.readFlit b = none → exec (.flitReceive port b facts) s = .next (u.bump (Reg.CAUSEWAY_PORT_CRC_ERR p)))) ∧
    (∀ b facts, 2 ≤ x.step → s.portState p = 3 ∨ s.portState p = 4 → bad facts = true ∨ State.readFlit b = none → x.retryAsked = false →
      ∃ t, exec (.flitReceive port b facts) s = .next t ∧ (t.port p).rxNext = x.rxNext ∧ (t.port p).retryAsked = true ∧
        t.rd (Reg.CAUSEWAY_PORT_RETRIES p) = (s.rd (Reg.CAUSEWAY_PORT_RETRIES p) + 1) % 2 ^ 32 ∧
        t.rd (Reg.CAUSEWAY_PORT_CRC_ERR p) = (s.rd (Reg.CAUSEWAY_PORT_CRC_ERR p) + b2n (!bad facts)) % 2 ^ 32) ∧
    (∀ b facts f, 2 ≤ x.step → bad facts = false → State.readFlit b = some f → f.kind = 1 ∨ f.kind = 2 → s.portReady p = true →
      (f.seq = x.rxNext → f.eop = false → ∃ t, exec (.flitReceive port b facts) s = .next t ∧ (t.port p).rxNext = (x.rxNext + 1) % 4096 ∧
        t.rd (Reg.CAUSEWAY_PORT_RX_FLITS p) = (s.rd (Reg.CAUSEWAY_PORT_RX_FLITS p) + 1) % 2 ^ 32) ∧
      (f.seq ≠ x.rxNext → x.retryAsked = false → ∃ t, exec (.flitReceive port b facts) s = .next t ∧ (t.port p).rxNext = x.rxNext ∧
        (t.port p).retryAsked = true ∧ t.rd (Reg.CAUSEWAY_PORT_RETRIES p) = (s.rd (Reg.CAUSEWAY_PORT_RETRIES p) + 1) % 2 ^ 32 ∧
        t.rd (Reg.CAUSEWAY_PORT_RX_FLITS p) = s.rd (Reg.CAUSEWAY_PORT_RX_FLITS p))) ∧
    (∀ seqNo : BitVec 12,
      let i := x.retry.findIdx (fun f => f.1.seq == seqNo.toNat)
      (x.retry.length ≤ i → exec (.retryRequest port seqNo) s = .next s) ∧
      (i < x.retry.length → s.portState p = 3 ∨ s.portState p = 4 → (∀ f, f ∈ x.retry → f.2 < 7) →
        ∃ t, exec (.retryRequest port seqNo) s = .next t ∧ flitsOut t (x.retry.length - i) ∧ t.regs = s.regs ∧
          (t.port p).retry = x.retry.take i ++ (x.retry.drop i).map (fun f => (f.1, f.2 + 1)))) ∧
    (x.retryAsked = true → s.portState p = 3 → ∃ t, exec (.retryTimer port) s = .next t ∧ flitsOut t 1 ∧
      t.rd (Reg.CAUSEWAY_PORT_RETRIES p) = (s.rd (Reg.CAUSEWAY_PORT_RETRIES p) + 1) % 2 ^ 32) ∧
    (x.retryAsked = false → exec (.retryTimer port) s = .next s) ∧
    (2 ≤ x.step → s.portState p ≠ 0 → ∃ t, exec (.linkStateTimer port) s = .next t ∧ flitsOut t 1 ∧ t.regs = s.regs) ∧
    (s.portState p = 3 → ∃ t, exec (.delayTimer port) s = .next t ∧ flitsOut t 1 ∧ t.regs = s.regs) ∧
    (∀ turnaround : W32, 3 ≤ x.step → ∃ t, exec (.delayRequest port turnaround) s = .next t ∧ flitsOut t 1 ∧ t.regs = s.regs) ∧
    (∀ trip turnaround : W32, 3 ≤ x.step →
      let l := ((trip.toNat - turnaround.toNat) / 2 :: x.delays).take 8
      ∃ t, exec (.delayResponse port trip turnaround) s = .next t ∧ (t.port p).delays = l ∧
        t.fld (Reg.CAUSEWAY_PORT_DELAY p) 15 0 = min 65535 (l.sum / l.length / 4) ∧
        OnlyRegs (fun off => off == Reg.CAUSEWAY_PORT_DELAY p) { s with cause := t.cause } t)

/-- A port trains step by step once it is enabled with a role and light, becomes ready when both ends are in P4, closes when disabled and
goes down at once when killed, lost or closed by its far end; the node ID takes a write only while every port is down. -/
def Obligations.PortsTrainAndGoDown : Prop :=
  ∀ (s : State) (port : Fin 16), s.ready →
    let p := port.val
    let x := s.port p
    let ctrl := Reg.CAUSEWAY_PORT_CTRL p
    let st := Reg.CAUSEWAY_PORT_STATUS p
    let down (t : State) : Prop := t.portState p = 0 ∧ (t.port p).step = 0 ∧
      t.rd (Reg.CAUSEWAY_PORT_DOWNS p) = (s.rd (Reg.CAUSEWAY_PORT_DOWNS p) + 1) % 2 ^ 32
    let unfenced : Prop := s.fld Reg.CAUSEWAY_STATUS 31 31 = 0
    (∀ lanes : BitVec 4, s.portState p = 0 → s.fld ctrl 2 2 = 1 → s.fld ctrl 1 0 ≠ 0 → s.fld st 3 3 = 1 → unfenced →
      ∃ t, exec (.portTrainingStep port 1 lanes) s = .next t ∧ t.portState p = (if lanes = 15 then 1 else 0) ∧
        (t.port p).step = (if lanes = 15 then 1 else 0) ∧ t.fld st 7 4 = lanes.toNat) ∧
    (∀ lanes : BitVec 4, s.portState p = 1 →
      (x.step = 1 → ∃ t, exec (.portTrainingStep port 2 lanes) s = .next t ∧ (t.port p).step = 2 ∧ t.regs = s.regs) ∧
      (x.step = 2 → x.farState ≠ 0 → s.refuses p = false → ∃ t, exec (.portTrainingStep port 3 lanes) s = .next t ∧ (t.port p).step = 3 ∧
        t.regs = s.regs) ∧
      (x.step = 3 → 8 ≤ x.delays.length → s.phase ≠ 4 → ∃ t, exec (.portTrainingStep port 4 lanes) s = .next t ∧ (t.port p).step = 4 ∧
        t.portState p = 2)) ∧
    (∀ lanes : BitVec 4, s.portState p = 2 → x.step = 4 → s.phase = 4 → s.fld st 2 0 = 4 → x.farState = 2 ∨ x.farState = 3 → s.refuses p = false →
      s.nodeLost (s.fld st 27 16) = false → s.fld ctrl 1 0 ≠ 3 →
      ∃ t, exec (.portTrainingStep port 5 lanes) s = .next t ∧ t.portState p = 3 ∧ (t.port p).step = 5 ∧ t.cause.everTrained = true ∧
        Tab.find? t.cause.known (s.fld st 27 16) = some x.farInc ∧ t.fld Reg.CAUSEWAY_STATUS 30 30 = 0) ∧
    (∀ aux : BitVec 42, 2 ≤ x.step →
      (bits aux.toNat 41 38 ≠ 4 → bits aux.toNat 41 38 ≠ 5 → s.portState p ≠ 2 → ∃ t, exec (.linkState port aux) s = .next t ∧
        t.fld st 27 16 = bits aux.toNat 33 22 ∧ t.fld st 15 12 = bits aux.toNat 37 34 ∧ t.fld st 2 0 = bits aux.toNat 5 3 ∧
        t.portState p = s.portState p ∧ (t.port p).farState = bits aux.toNat 41 38 ∧ (t.port p).farInc = bits aux.toNat 21 6) ∧
      (bits aux.toNat 41 38 = 4 → s.portState p ≠ 0 → ∃ t, exec (.linkState port aux) s = .next t ∧ down t)) ∧
    (∀ cause : Fin 7, (s.portState p = 0 → exec (.portDown port cause) s = .next s) ∧
      (s.portState p ≠ 0 → ∃ t, exec (.portDown port cause) s = .next t ∧ down t)) ∧
    (∀ role : BitVec 2, ∃ t, exec (.portEnable port role) s = .next t ∧ t.fld ctrl 1 0 = role.toNat ∧ t.fld ctrl 2 2 = 1 ∧
      (s.portState p = 0 → role ≠ 0 → s.fld st 3 3 = 1 → unfenced → t.portState p = 1) ∧ (s.portState p ≠ 0 → s.portState p ≠ 4 → t.portState p = s.portState p) ∧
      (s.portState p = 4 → x.step = 5 → t.portState p = 3)) ∧
    (s.fld ctrl 2 2 = 1 → s.portState p ≠ 0 → ∃ t, exec (.portDisable port) s = .next t ∧ t.fld ctrl 2 2 = 0 ∧ t.portState p = 4 ∧
      t.fld ctrl 1 0 = s.fld ctrl 1 0) ∧
    (s.portState p ≠ 0 → ∃ t, exec (.portKill port) s = .next t ∧ down t ∧ t.fld ctrl 1 0 = s.fld ctrl 1 0 ∧ t.fld ctrl 2 2 = 0) ∧
    (∃ t, exec (.laserLightRestored port) s = .next t ∧ t.fld st 3 3 = 1 ∧
      (s.portState p = 0 → s.fld ctrl 2 2 = 1 → s.fld ctrl 1 0 ≠ 0 → unfenced → t.portState p = 1) ∧
      (s.fld ctrl 2 2 = 0 → t.portState p = s.portState p)) ∧
    (∀ node : Fin 4096,
      ((∀ q, q < 16 → s.portState q = 0) → exec (.causewayNodeWrite node) s = .next (s.setFld Reg.CAUSEWAY_NODE 11 0 node.val)) ∧
      ((∃ q, q < 16 ∧ s.portState q ≠ 0) → exec (.causewayNodeWrite node) s = .next s))

/-! Transport and membership. -/

/-- A message with a bad CRC, from a lost node or with a stale incarnation is dropped; one ahead of a gap is held, the one awaited is
delivered; acks are sent, and messages sent again. Of its identifiers and numbers the widths of Table 14.8 count. -/
def Obligations.TransportDeliversInOrder : Prop :=
  ∀ (s : State) (raw : Message) (via : Option (Fin 16)), s.ready →
    let m := raw.cut
    let n := m.flow.node
    let rx (t : State) : FlowRx := (t.cause.rx.find? (fun f => decide (f.id = m.flow))).getD { id := m.flow }
    (m.good = false → exec (.transportMessage raw via) s = .next (s.bump Reg.CAUSEWAY_E2E_CRC)) ∧
    (m.good = true → s.nodeLost n = true → exec (.transportMessage raw via) s = .next s) ∧
    (∀ i, m.good = true → Tab.find? s.cause.known n = some i → i ≠ m.incarnation → exec (.transportMessage raw via) s = .next s) ∧
    (m.good = true → s.nodeLost n = false → (∀ i, Tab.find? s.cause.known n = some i → i = m.incarnation) → m.flags = 0 → s.cause.parked = [] →
      let ahead := (m.seq + 2 ^ 32 - (rx s).next) % 2 ^ 32
      (0 < ahead → ahead ≤ 64 → (∀ h, h ∈ (rx s).held → h.1 ≠ m.seq ∧ h.1 ≠ (rx s).next) → (rx s).next < 2 ^ 32 →
        ∃ t, exec (.transportMessage raw via) s = .next t ∧ (rx t).held = (rx s).held ++ [(m.seq, m.txn)] ∧ (rx t).next = (rx s).next ∧
          (rx t).ackDue = true ∧ t.regs = s.regs ∧ t.tier = s.tier) ∧
      (64 < ahead → ∃ t, exec (.transportMessage raw via) s = .next t ∧ (rx t).held = (rx s).held ∧ (rx t).next = (rx s).next ∧
        (rx t).ackDue = true ∧ t.regs = s.regs ∧ t.tier = s.tier) ∧
      (m.seq = (rx s).next → (rx s).held = [] → m.txn.op = 0x07 → m.seq < 2 ^ 32 →
        ∃ t, exec (.transportMessage raw via) s = .next t ∧ (rx t).held = [] ∧ (rx t).next = (m.seq + 1) % 2 ^ 32 ∧
          t.tier.moveAcks = s.tier.moveAcks.filter (fun a => a.txn != m.txn.txn))) ∧
    (∀ (id : FlowId) (f : FlowRx), s.cause.rx.find? (fun f => decide (f.id = id)) = some f →
      (f.ackDue = false → exec (.ackTimer id) s = .next s) ∧
      (f.ackDue = true → ∃ t g, exec (.ackTimer id) s = .next t ∧ t.cause.rx.find? (fun f => decide (f.id = id)) = some g ∧ g.ackDue = false ∧
        g.next = f.next ∧ t.cause.tx = s.cause.tx)) ∧
    (∀ (id : FlowId) (seqNo : W32) (f : FlowTx) (u : Nat × Txn), s.cause.tx.find? (fun f => decide (f.id = id)) = some f →
      f.unacked.find? (fun u => u.1 == seqNo.toNat) = some u → s.nodeLost id.node = false →
      ∃ t, exec (.retransmitTimer id seqNo) s = .next t ∧ t.cause.tx = s.cause.tx ∧ t.cause.sent = s.cause.sent ∧
        t.rd Reg.CAUSEWAY_RETRANSMITS = (s.rd Reg.CAUSEWAY_RETRANSMITS + 1) % 2 ^ 32)

/-- A probe goes to a node that can be asked, is answered with the incarnation, and ends with its reply or with the node declared lost; a
loss or a join is acted on once; a module told of its own loss is fenced, and one without a trained port is isolated. -/
def Obligations.NodesAreProbedLostAndJoined : Prop :=
  ∀ (s : State) (node : Fin 4096) (inc : BitVec 16) (via : Option (Fin 16)), s.ready →
    let n := node.val
    let holdsNothing : Prop := s.seams.recs = [] ∧ s.tier.allocs = [] ∧ s.tier.rebuilds = [] ∧ s.expert.blocks = [] ∧
      ∀ c, c ∈ s.cores → ∀ x, x ∈ c.2.descs → ∀ r, r ∈ x.reqs → r.node ≠ n
    let lose (t : State) (i : Nat) : Prop := Tab.find? t.cause.lost n = some i ∧ (n, i) ∈ t.cause.acted ∧
      t.rd Reg.CAUSEWAY_LOSSES = (s.rd Reg.CAUSEWAY_LOSSES + 1) % 2 ^ 32 ∧ n ∉ t.cause.probes ∧ (∀ f, f ∈ t.cause.tx → f.id.node ≠ n) ∧
      ∀ e, e ∈ t.tier.lent → e.2 ≠ n
    (n ≠ s.node → s.nodeLost n = false → n ∉ s.cause.probes → s.routeValid n = true → s.canSend n →
      ∃ t, exec (.probeStart node) s = .next t ∧ n ∈ t.cause.probes ∧ sysTxn n 0x50 [] ∈ t.cause.sent) ∧
    (n ∈ s.cause.probes → exec (.probeStart node) s = .next s) ∧
    exec (.probe node) s = .next (s.sendSystem n 0x51 [s.incarnation]) ∧
    (Tab.find? s.cause.lost n ≠ some inc.toNat → exec (.probeReply node inc) s =
      .next { s with cause := { s.cause with probes := s.cause.probes.filter (· != n) } }) ∧
    (n ∉ s.cause.probes → exec (.probeTimeout node) s = .next s) ∧
    (n ∈ s.cause.probes → s.nodeLost n = false → n ≠ s.node → (n, Tab.get 0 s.cause.known n) ∉ s.cause.acted → holdsNothing →
      ∃ t, exec (.probeTimeout node) s = .next t ∧ lose t (Tab.get 0 s.cause.known n)) ∧
    ((n, inc.toNat) ∈ s.cause.acted → exec (.nodeLost node inc via) s = .next s) ∧
    ((n, inc.toNat) ∉ s.cause.acted → n ≠ s.node → holdsNothing → ∃ t, exec (.nodeLost node inc via) s = .next t ∧ lose t inc.toNat) ∧
    ((n, inc.toNat) ∉ s.cause.acted → n = s.node → inc.toNat = s.incarnation → s.cause.known = [] →
      ∃ t, exec (.nodeLost node inc via) s = .next t ∧ t.fld Reg.CAUSEWAY_STATUS 31 31 = 1 ∧ ∀ p, p < 16 → t.portState p = 0) ∧
    ((n, inc.toNat) ∈ s.cause.joined ∨ n = s.node → exec (.nodeJoined node inc via) s = .next s) ∧
    ((n, inc.toNat) ∉ s.cause.joined → n ≠ s.node → Tab.find? s.cause.lost n ≠ some inc.toNat →
      ∃ t, exec (.nodeJoined node inc via) s = .next t ∧ t.nodeLost n = false ∧ (n, inc.toNat) ∈ t.cause.joined ∧
        Tab.find? t.cause.known n = some inc.toNat) ∧
    (s.cause.everTrained = true → (∀ p, p < 16 → s.portState p < 2 ∨ 4 < s.portState p) → s.fld Reg.CAUSEWAY_STATUS 30 30 = 0 → s.cause.known = [] →
      exec .isolationTimer s = .next (s.setFld Reg.CAUSEWAY_STATUS 30 30 1)) ∧
    (s.cause.everTrained = false → exec .isolationTimer s = .next s)

/-- A far READ or WRITE is served where its range is permitted, readable and writable, and refused else; moved blocks are kept and answered;
answers end the far requests that wait for them, and a refusal faults its descriptor. -/
def Obligations.FarAccessesAreServedOrRefused : Prop :=
  ∀ (s : State) (node : Fin 4096) (part : Fin 32) (txn : W32), s.ready →
    let n := node.val
    let p := part.val
    let x := txn.toNat
    (∀ h off len, (s.handleRefusal p h off len false = 0 →
        exec (.read node part txn (.handle h off) len) s = .next ((s.countServed p (.handle h off)).answer n p x 0x02 0 (s.peek h off len))) ∧
      (s.handleRefusal p h off len false ≠ 0 →
        exec (.read node part txn (.handle h off) len) s = .next (s.answer n p x 0x05 (s.handleRefusal p h off len false)))) ∧
    (∀ l off len,
      let mine : Prop := Tab.find? s.tier.lent (l / 128) = some n
      (65536 < off + len → exec (.read node part txn (.place l 0 off) len) s = .next (s.answer n p x 0x05 3)) ∧
      (off + len ≤ 65536 → mine → s.rawBad l off len = false →
        exec (.read node part txn (.place l 0 off) len) s = .next (s.answer n p x 0x02 0 (s.tier.raw.bytes (l / 128 * 65536 + off) len))) ∧
      (off + len ≤ 65536 → ¬ mine ∨ s.rawBad l off len = true → exec (.read node part txn (.place l 0 off) len) s = .next (s.answer n p x 0x05 1)) ∧
      (∀ data, data.length = len → off + len ≤ 65536 →
        (mine → s.rawMerges l off len = false → ∃ t : State, exec (.write node part txn (.place l 0 off) data) s = .next (t.answer n p x 0x04 0) ∧
          t.tier.raw.bytes (l / 128 * 65536 + off) len = data ∧
          (∀ a, a < l / 128 * 65536 + off ∨ l / 128 * 65536 + off + len ≤ a → t.tier.raw.byte a = s.tier.raw.byte a) ∧
          { t with tier := { t.tier with raw := s.tier.raw, poison := s.tier.poison } } = s) ∧
        (¬ mine ∨ s.rawMerges l off len = true → exec (.write node part txn (.place l 0 off) data) s = .next (s.answer n p x 0x05 1)))) ∧
    (∀ h off data, (s.handleRefusal p h off data.length true = 0 →
        exec (.write node part txn (.handle h off) data) s = .next (((s.writeAlloc h off data).countServed p (.handle h off)).answer n p x 0x04 0)) ∧
      (s.handleRefusal p h off data.length true ≠ 0 →
        exec (.write node part txn (.handle h off) data) s = .next (s.answer n p x 0x05 (s.handleRefusal p h off data.length true)))) ∧
    (∀ (h : BitVec 20) (g : Nat) (block : Fin 16) (data : List Byte) (k : Nat) (y : Seam) (a : Action), s.seams.recs = [(k, y)] →
      y.submitter = 8 → y.coordNode = n → y.state ≤ 3 → y.actions = [a] → (Act.of a).kind = 1 → (Act.of a).handle = h.toNat →
      let l := (Act.of a).location
      ((Act.of a).granule = g → data.length = 4096 → ∃ t, exec (.moveData node part txn h g block data) s = .next t ∧
        t.tier.raw.bytes (l / 128 * 65536 + block.val * 4096) 4096 = data ∧ t.tier.allocs = s.tier.allocs ∧ t.seams = s.seams) ∧
      ((Act.of a).granule ≠ g → exec (.moveData node part txn h g block data) s = .next (s.answer n p x 0x05 1))) ∧
    (∀ data, (s.partValid p = true → exec (.msg node part data) s =
        .next (s.sendHost p 0x8041 (leBytes 2 n ++ List.replicate 14 0 ++ data) true)) ∧
      (s.partValid p = false → exec (.msg node part data) s = .next s)) ∧
    (∀ (c : Nat) (d : Desc) (r : FarReq), s.farReq? n x = some (c, d, r) →
      let ended (y : Desc) : Desc := { y with reqs := y.reqs.filter (fun q => q.txn != x) }
      (∀ q data, d.write = false → r.pieces = [q] → ∃ t, exec (.readData node txn data) s = .next t ∧
        t.scratch c q.2.1 q.2.2 = sliceBytes data q.1 q.2.2 ∧
        (∀ i, i < q.2.1 ∨ q.2.1 + q.2.2 ≤ i → (t.core c).scratch.byte i = (s.core c).scratch.byte i) ∧ OtherCores c s t ∧
        ∀ y, y ∈ (t.core c).descs → y.write = d.write → y.place = d.place → ∀ q, q ∈ y.reqs → q.txn ≠ x) ∧
      (d.write = true → exec (.writeAck node txn) s = .next (s.updDesc c d ended)) ∧
      (d.state = 1 → s.descAt c d.write d.place = some d → d.part < 32 → d.slot < 4 → c < 1024 → s.item? d.item = none →
        ∃ t y, exec (.refuse node txn) s = .next t ∧ t.descAt c d.write d.place = some y ∧ y.state = 2 ∧ y.reqs = [] ∧
        t.rd (Reg.TIER_STREAM_FAULTS d.part) = (s.rd (Reg.TIER_STREAM_FAULTS d.part) + 1) % 2 ^ 32 ∧
        (s.fld Reg.TIER_STREAM_FAULT 31 31 = 0 → t.fld Reg.TIER_STREAM_FAULT 9 0 = 9))) ∧
    exec (.moveAck txn) s = .next { s with tier := { s.tier with moveAcks := s.tier.moveAcks.filter (fun m => m.txn != x) } }

/-! The host: registers, slots, rings, functions. -/

/-- A write by the physical function reaches its register by the access codes of its fields, in a slow domain after the posted write's
delay, one at a time; a malformed write is flagged; an alias word writes one bit; a snapshot copies every snapshot register at once. -/
def Obligations.RegisterWritesAndSnapshots : Prop :=
  ∀ (s : State) (v : W32), s.hostOpen →
    let busy := s.fld Reg.GLOBAL_DOMAIN_STATUS 0 0
    (busy ≠ 1 → exec (.globalPllCtrlWrite 0 v) s =
      .next (({ s with posted := Tab.set s.posted 0 (Reg.GLOBAL_PLL_CTRL, v) } : State).setFld Reg.GLOBAL_DOMAIN_STATUS 0 0 1)) ∧
    (busy = 1 → exec (.globalPllCtrlWrite 0 v) s = .next (s.setFld Reg.GLOBAL_DOMAIN_STATUS 16 16 1)) ∧
    (∀ d : Fin 4, Tab.find? s.posted d.val = none → exec (.postedWriteApply d) s = .next s) ∧
    (Tab.find? s.posted 0 = some (Reg.GLOBAL_PLL_CTRL, v) → ∃ t, exec (.postedWriteApply 0) s = .next t ∧ t.posted = Tab.erase s.posted 0 ∧
      t.fld Reg.GLOBAL_DOMAIN_STATUS 0 0 = 0 ∧
      t.fld Reg.GLOBAL_PLL_CTRL 1 0 = (if bits v.toNat 1 0 = 3 then s.fld Reg.GLOBAL_PLL_CTRL 1 0 else bits v.toNat 1 0) ∧
      OnlyRegs (fun off => off == Reg.GLOBAL_DOMAIN_STATUS || off == Reg.GLOBAL_PLL_CTRL) { s with posted := t.posted } t) ∧
    (∀ (fn : Fin 33) (off n : Nat) (w : W64),
      (s.barOpen fn.val = false → exec (.registerWrite fn off n w) s = .next s) ∧
      (fn = 0 → (n ≠ 4 ∧ n ≠ 8) ∨ off % n ≠ 0 → exec (.registerWrite fn off n w) s = .next (s.setFld Reg.GLOBAL_ACCESS_ERR 0 0 1)) ∧
      (s.barOpen fn.val = true → fn ≠ 0 → n = 4 → off % 4 = 0 → exec (.registerWrite fn off n w) s = .next (s.setFld Reg.GLOBAL_ACCESS_ERR 1 1 1))) ∧
    (∀ (off : Nat) (r : RegDef), off % 4 = 0 → off < 0x38000 ∨ 0x3A000 ≤ off → off < 0x2000000 →
      (findReg off = some r → s.blockUp off = true → State.slowDomain off = none → r.name ∉ actingRegs →
        exec (.registerWrite 0 off 4 (v.setWidth 64)) s = .next (s.wr off (State.mergeWrite r (s.rd off) v.toNat))) ∧
      (findReg off = none → exec (.registerWrite 0 off 4 (v.setWidth 64)) s = .next s) ∧
      (∀ b : Fin 32, findReg off = some r → (∀ f, r.fields.find? (fun f => decide (f.lo ≤ b.val) && decide (b.val ≤ f.hi)) = some f → f.acc = .RO) →
        exec (.aliasWrite 0 (0x2000000 + 4 * (8 * off + b.val)) v) s = .next s)) ∧
    (∀ (i : Fin 4) (b : Fin 32), exec (.aliasWrite 0 (0x2000000 + 4 * (8 * Reg.GLOBAL_SCRATCH i.val + b.val)) v) s =
      .next (s.wr (Reg.GLOBAL_SCRATCH i.val) (withBits (s.rd (Reg.GLOBAL_SCRATCH i.val)) b.val b.val (b2n (bit v.toNat 0))))) ∧
    (∀ n : Fin 34, (∀ w, w < 34 → (s.vector 0 w).pending = false) →
      exec (.registerWrite 0 (0x3800C + 16 * n.val) 4 (v.setWidth 64)) s = .next (s.updVector 0 n.val (fun x => { x with masked := bit v.toNat 0 }))) ∧
    (bits v.toNat 1 0 = 1 → ∃ t tab, exec (.snapTake 0 v) s = .next t ∧ t.snap = some tab ∧
      (∀ r ∈ regTable, r.snap = true → ∀ off ∈ State.rowOffsets r, Tab.get 0 tab off = BitVec.ofNat 32 (s.liveReg off)) ∧
      t.fld Reg.SNAP_STATUS 31 31 = 1 ∧ t.fld Reg.SNAP_STATUS 15 0 = (s.fld Reg.SNAP_STATUS 15 0 + 1) % 65536 ∧
      t.rd Reg.SNAP_LEG_LO = s.legCount % 2 ^ 32 ∧ t.rd Reg.SNAP_LEG_HI = s.legCount / 2 ^ 32 ∧ t.rd Reg.SNAP_OFFSET = s.leg.sub % 2 ^ 32 ∧
      { t with regs := s.regs, snap := s.snap } = s) ∧
    (bits v.toNat 1 0 = 2 → exec (.snapRelease 0 v) s = .next (({ s with snap := none } : State).setFld Reg.SNAP_STATUS 31 31 0))

/-- A slot of the host's is handed over with its bytes and what its word's fields take, one of the module's is not; out_cons moves forward up to out_prod and frees space
for the backlog; a vector held off is sent, or left pending, at the end of its hold-off. -/
def Obligations.SlotsRingsAndVectors : Prop :=
  ∀ (s : State) (fn : Fin 33) (set : Fin 32), s.due = [] →
    let p := set.val
    let f := fn.val
    let m := s.mbox p
    (∀ (slot : Fin 16) (area : List Byte) (word : W64),
      let n := slot.val
      (s.barOpen f = false ∨ State.setOf f p = false ∨ n = 0 → exec (.mailboxHandover fn set slot area word) s = .next s) ∧
      (s.barOpen f = true → State.setOf f p = true → n ≠ 0 → bits (s.ownership p n) 1 0 ≠ 0 →
        exec (.mailboxHandover fn set slot area word) s = .next (s.bump (Reg.MAILBOX_DROPPED p))) ∧
      (s.barOpen f = true → State.setOf f p = true → n ≠ 0 → bits (s.ownership p n) 1 0 = 0 →
        ∃ t, exec (.mailboxHandover fn set slot area word) s = .next t ∧
          t.ownership p n = (if word.toNat % 4 = 2 then s.ownership p n
            else withBits (withBits word.toNat 31 28 0) 7 0 (if word.toNat % 4 = 3 then 0 else word.toNat % 4)) ∧
          t.host.mem.bytes (p * 65536 + 0x800 + (n - 1) * 0x800 + 16) (min 2032 area.length) = area.take 2032 ∧
          (word.toNat % 4 ≠ 2 → Tab.find? (t.mbox p).slotFn n = some f) ∧
          (∀ a, a < p * 65536 + n * 0x800 ∨ p * 65536 + (n + 1) * 0x800 ≤ a → t.host.mem.byte a = s.host.mem.byte a) ∧
          (∀ q, q ≠ p → t.mbox q = s.mbox q) ∧ t.regs = s.regs ∧ t.tier = s.tier)) ∧
    (∀ v : W32, s.barOpen f = true → State.setOf f p = true →
      ((m.outProd - m.outCons).toNat < (v - m.outCons).toNat → exec (.outConsWrite fn set v) s = .next (s.setFld Reg.MAILBOX_ERR 0 0 1)) ∧
      ((v - m.outCons).toNat ≤ (m.outProd - m.outCons).toNat →
        let u := s.updMbox p (fun m => { m with outCons := v })
        (m.backlog = [] → exec (.outConsWrite fn set v) s = .next (u.showBacklog p)) ∧
        (∀ msg rest, m.backlog = msg :: rest → u.ringFits p msg = false → exec (.outConsWrite fn set v) s = .next (u.showBacklog p)) ∧
        (∀ msg, m.backlog = [msg] → u.ringFits p msg = true →
          exec (.outConsWrite fn set v) s = .next (((u.placeRing p msg).updMbox p (fun m => { m with backlog := [] })).showBacklog p)))) ∧
    (∀ vec : Fin 34,
      let x := s.vector f vec.val
      (x.held = false → exec (.msixHoldoffExpiry fn vec) s = .next s) ∧
      (∀ t, x.lastSent = some t → s.now < t + s.holdoff → exec (.msixHoldoffExpiry fn vec) s = .next s) ∧
      (x.held = true → (∀ t, x.lastSent = some t → t + s.holdoff ≤ s.now) →
        (s.vectorOpen f vec.val = true → ∃ t, exec (.msixHoldoffExpiry fn vec) s = .next t ∧ t.host.sent = s.host.sent ++ [(x.addr, x.data)] ∧
          t.vector f vec.val = { x with pending := false, held := false, lastSent := some s.now } ∧ t.regs = s.regs ∧ t.host.mboxes = s.host.mboxes) ∧
        (s.vectorOpen f vec.val = false → exec (.msixHoldoffExpiry fn vec) s =
          .next (s.updVector f vec.val (fun x => { x with held := false, pending := true })))))

/-- A Function Level Reset gives a function's configuration its reset state and closes its sessions, and that of a virtual function
discards what waits for its host and cancels its partition's requests; configuration requests are answered, or get Retry Status. -/
def Obligations.FunctionsResetAndConfigure : Prop :=
  ∀ s : State, s.due = [] →
    (∃ t, exec .pfFlr s = .next t ∧ t.fnState 0 = { resetting := true } ∧ (∀ v, v < 64 → t.vector 0 v = {}) ∧ t.snap = none ∧ t.host.numVfs = 0 ∧
      t.fld Reg.SNAP_STATUS 31 31 = 0 ∧
      (∀ p ss, p < 32 → (s.mbox p).session = some ss →
        (ss.fn = 0 → (t.mbox p).session = none ∧ t.fld (Reg.MAILBOX_STATUS p) 0 0 = 0) ∧ (ss.fn ≠ 0 → t.mbox p = s.mbox p)) ∧
      (∀ fn, fn ≠ 0 → t.fnState fn = s.fnState fn) ∧ t.serving = s.serving ∧ t.tier = s.tier ∧ t.leg = s.leg) ∧
    (∀ vf : Fin 32,
      let p := vf.val
      ∃ t, exec (.vfFlr vf) s = .next t ∧ t.fnState (p + 1) = { resetting := true } ∧ (t.mbox p).session = none ∧ (t.mbox p).closed = true ∧
        (t.mbox p).backlog = [] ∧ (t.mbox p).outCons = (s.mbox p).outProd ∧ t.fld (Reg.MAILBOX_STATUS p) 0 0 = 0 ∧
        (∀ n, 1 ≤ n → n ≤ 15 → bits (t.ownership p n) 1 0 = 0) ∧
        t.serving = { s.serving with cancels := s.serving.cancels ++ (s.serving.reqs.filter (fun r => decide (r.part = p))).map (fun r =>
          { reqId := r.id, set := 32, seqNo := 0 }) } ∧
        (∀ fn, fn ≠ p + 1 → t.fnState fn = s.fnState fn) ∧ (∀ q, q ≠ p → t.mbox q = s.mbox q) ∧ t.tier = s.tier) ∧
    (∀ (fn : Fin 33) (op : ConfigOp),
      let f := fn.val
      (s.host.linkUp = false → exec (.configurationRequest fn op false) s = .next (s.configAnswer f 0 none)) ∧
      ((s.fnState f).resetting = true → exec (.configurationRequest fn op false) s = .next (s.configAnswer f 0 none)) ∧
      ((s.fnState f).resetting = false → s.host.linkUp = true → f ≤ s.host.numVfs → (∀ w, w < 34 → (s.vector f w).pending = false) →
        exec (.configurationRequest fn (.read 0) false) s =
          .next (s.configAnswer f 0 (some ((if f = 0 then 0x0960 else 0x0961) * 65536 + 0x1E77))) ∧
        (∀ d3, exec (.configurationRequest fn (.power d3) false) s =
          .next ((s.updFn f (fun x => { x with d3hot := d3 })).configAnswer f 4 (some 0))) ∧
        (∀ bm, exec (.configurationRequest fn (.command bm) false) s =
          .next ((s.updFn f (fun x => { x with busMaster := bm })).configAnswer f 4 (some 0))) ∧
        (∀ en mask, exec (.configurationRequest fn (.msix en mask) false) s =
          .next ((s.updFn f (fun x => { x with msixEnable := en, functionMask := mask })).configAnswer f 4 (some 0)))) ∧
      (∀ n, (s.fnState 0).resetting = false → s.host.linkUp = true → n ≤ 32 → exec (.configurationRequest 0 (.numVfs n) false) s =
        .next (({ s with host := { s.host with numVfs := n } } : State).configAnswer 0 4 (some 0))))

/-! Messages (R399 to R404, R416). -/

/-- Messages about data, sessions, requests and seams: a HELLO opens the session both sides support, a CANCEL is kept for step 3, data is
put into and got from an allocation of the set's partition, and where a lender or washed space is waited for the message is kept; a SEAM is
opened, or ends as one refused, and a SEAM_ABORT unpicks one that has not committed, or waits for a participant's decision. -/
def Obligations.MessagesActOnDataAndSeams : Prop :=
  ∀ (s : State) (set : Fin 32) (fn : Fin 33) (head : HostHead), s.due = [] →
    let p := set.val
    (let b := hostMessage 0x0001 head
     let a := State.helloAgreed (fieldAt b 0x10 1) (fieldAt b 0x11 1)
     s.accepts set fn 0x0001 head →
      (a.1 = 0 → exec (.hello set fn head) s = .next (s.helloReply p a)) ∧
      (a.1 ≠ 0 → ∃ t, exec (.hello set fn head) s = .next t ∧ (t.mbox p).session = some { major := a.1, minor := a.2, fn := fn.val } ∧
        (t.mbox p).closed = false ∧ (t.mbox p).backlog = [] ∧ (t.mbox p).outCons = 0 ∧ (t.mbox p).outProd = 32 ∧ (t.mbox p).placed = 1 ∧
        leNat (t.host.mem.bytes (p * 65536 + 32768 + 2) 2) = 0x8001 ∧ t.fld (Reg.MAILBOX_STATUS p) 0 0 = 1 ∧
        ((s.mbox p).session = none → t.serving = s.serving) ∧ (∀ q, q ≠ p → t.mbox q = s.mbox q) ∧ t.tier = s.tier)) ∧
    (let b := hostMessage 0x0011 head
     s.accepts set fn 0x0011 head → exec (.cancel set fn head) s = .next { s with serving := { s.serving with
       cancels := s.serving.cancels ++ [{ reqId := fieldAt b 0x10 8, set := p, seqNo := fieldAt b 8 4 }] } }) ∧
    (let b := hostMessage 0x0023 head
     let h := fieldAt b 0x10 4
     let q := fieldAt b 8 4
     let off := fieldAt b 0x18 8
     let data := b.drop 0x20
     s.accepts set fn 0x0023 head →
      (∀ a, s.alloc? h = some a → s.handleResult p h = 0 →
        let permitted : Prop := off + data.length ≤ a.size ∧ a.published = none ∧ a.publishing = none
        let unreadable : Prop := a.meetsLost off data.length = true ∨ s.writeBad a off data.length = true
        let waits := s.homeWaits a ((State.blockPieces off data.length).map (·.1))
        let r := ((s.updAlloc h (fun a => { a with hostWritten := true })).landBytes h off data).lentRequests h off data.length true
        (permitted → ¬ unreadable → waits = false → r.2 = [] → exec (.dataPut set fn head) s = .next (r.1.reply p 0x0023 q 0 0)) ∧
        (permitted → ¬ unreadable → waits = false → r.2 ≠ [] → exec (.dataPut set fn head) s =
          .next (r.1.keepWait { set := p, msg := b, asked := r.2 })) ∧
        (permitted → ¬ unreadable → waits = true → exec (.dataPut set fn head) s = .next (s.keepWait { set := p, msg := b })) ∧
        (permitted → unreadable → exec (.dataPut set fn head) s = .next (s.reply p 0x0023 q 4 0)) ∧
        (¬ permitted → exec (.dataPut set fn head) s = .next (s.reply p 0x0023 q 3 0))) ∧
      (s.handleResult p h ≠ 0 → exec (.dataPut set fn head) s = .next (s.reply p 0x0023 q (s.handleResult p h) 0))) ∧
    (let b := hostMessage 0x0024 head
     let h := fieldAt b 0x10 4
     let q := fieldAt b 8 4
     let off := fieldAt b 0x18 8
     let n := fieldAt b 0x14 2
     s.accepts set fn 0x0024 head →
      (∀ a, s.alloc? h = some a → s.handleResult p h = 0 →
        let r := s.lentRequests h off n false
        (off + n ≤ a.size → s.readable none p a off n = true →
          (r.2 = [] → exec (.dataGet set fn head) s = .next (r.1.reply p 0x0024 q 0 0 (a.data.bytes off n))) ∧
          (r.2 ≠ [] → exec (.dataGet set fn head) s = .next (r.1.keepWait { set := p, msg := b, asked := r.2 }))) ∧
        (off + n ≤ a.size → s.readable none p a off n = false → exec (.dataGet set fn head) s = .next (s.reply p 0x0024 q 4 0)) ∧
        (a.size < off + n → exec (.dataGet set fn head) s = .next (s.reply p 0x0024 q 3 0))) ∧
      (s.handleResult p h ≠ 0 → exec (.dataGet set fn head) s = .next (s.reply p 0x0024 q (s.handleResult p h) 0))) ∧
    (let b := hostMessage 0x0030 head
     let n := fieldAt b 0x11 1
     let actions : List Action := (List.range n).map (fun i =>
       (BitVec.ofNat 64 (fieldAt b (0x20 + 16 * i) 8), BitVec.ofNat 64 (fieldAt b (0x28 + 16 * i) 8)))
     let timing := fieldAt b 0x10 1
     let x0 : Seam := { submitter := 6, scope := some (p, 0), timing := timing, host := some (p, fieldAt b 8 4), fromVf := fn.val != 0
                        actions := actions }
     let nodes := s.seamNodes actions
     let spelt : Prop := actions.any actionBad = false ∧ nodes.length ≤ 15 ∧ (timing = 1 → nodes = []) ∧
       ((∀ a, a ∈ actions → Seam.kind a ≠ 6) ∨ (actions.length = 1 ∧ timing = 0))
     let ended (t : State) (status : Nat) : Prop := t.rd Reg.SEAM_UNPICKED = (s.rd Reg.SEAM_UNPICKED + 1) % 2 ^ 32 ∧ t.fld Reg.SEAM_LAST 31 24 = status
     s.accepts set fn 0x0030 head →
      (s.scopeOff x0 = true → ∃ t, exec (.seam set fn head) s = .next t ∧ t.seams = s.seams ∧ ended t 0x12) ∧
      (s.scopeOff x0 = false → s.freeRecord = none → ∃ t, exec (.seam set fn head) s = .next t ∧ t.seams = s.seams ∧ ended t 0x15 ∧
        t.rd Reg.SEAM_FULL_COUNT = (s.rd Reg.SEAM_FULL_COUNT + 1) % 2 ^ 32) ∧
      (∀ k, s.scopeOff x0 = false → s.freeRecord = some k →
        (spelt → ∃ t x, exec (.seam set fn head) s = .next t ∧ s.seam? k = none ∧ t.seam? k = some x ∧ x.state = 2 ∧
          x.gen = s.nextGen k ∧ x.actions = actions ∧ x.submitter = 6 ∧ x.scope = some (p, 0) ∧
          x.host = some (p, fieldAt b 8 4) ∧ (∀ j, j ≠ k → t.seam? j = s.seam? j) ∧ t.regs = s.regs ∧ t.tier = s.tier ∧ t.serving = s.serving) ∧
        (¬ spelt → ∃ t, exec (.seam set fn head) s = .next t ∧ (∀ j, t.seam? j = s.seam? j) ∧ ended t 0x16))) ∧
    (let b := hostMessage 0x0031 head
     let q := fieldAt b 8 4
     let id := fieldAt b 0x10 2
     s.accepts set fn 0x0031 head →
      (s.seam? (id % 256) = none → Tab.find? s.seams.gens (id % 256) ≠ some (id / 256) →
        exec (.seamAbort set fn head) s = .next (s.reply p 0x0031 q 1 0)) ∧
      (∀ x i, s.seam? (id % 256) = some x → x.gen = id / 256 → x.scope = some (p, i) → x.submitter ≠ 8 →
        (x.state ≤ 3 → x.plain → x.participants = [] →
          ∃ t, exec (.seamAbort set fn head) s = .next t ∧ s.unpicked t (id % 256) 0x10 ∧ (∀ j, j ≠ id % 256 → t.seam? j = s.seam? j)) ∧
        (3 < x.state → exec (.seamAbort set fn head) s = .next (s.reply p 0x0031 q 0 2))) ∧
      (∀ x i, s.seam? (id % 256) = some x → x.gen = id / 256 → x.scope = some (p, i) → x.submitter = 8 → x.state = 3 →
        exec (.seamAbort set fn head) s = .next (s.updSeam (id % 256) (fun x => { x with aborts := x.aborts ++ [(p, q)] }))))

/-- Messages about functions, the leg, power, events and firmware: a function is disabled (in an emergency its items leave the list and its
requests end) or enabled, the period's change is armed and kept,
the cap is kept, a query is answered, the set's event mask is set, an update begins and a processor restarts. -/
def Obligations.MessagesActOnTheModule : Prop :=
  ∀ (s : State) (set : Fin 32) (fn : Fin 33) (head : HostHead), s.due = [] →
    let p := set.val
    (let b := hostMessage 0x0040 head
     let q := fieldAt b 8 4
     let f := State.fnOf p fn.val b
     let off : State := { s with serving := { s.serving with
       disabled := if s.serving.disabled.contains f then s.serving.disabled else s.serving.disabled ++ [f] } }
     s.accepts set fn 0x0040 head →
      (fieldAt b 0x11 1 = 0 →
        (s.fnResult p fn.val f ≠ 0 → exec (.disable set fn head) s = .next (s.reply p 0x0040 q (s.fnResult p fn.val f) 0)) ∧
        (s.fnResult p fn.val f = 0 → (∀ n, f ≠ .port n) → exec (.disable set fn head) s = .next (off.reply p 0x0040 q 0 0)) ∧
        (∀ n, s.fnResult p fn.val f = 0 → f = .port n → exec (.disable set fn head) s = .next ((s.closePort n).reply p 0x0040 q 0 0))) ∧
      (fieldAt b 0x11 1 = 1 → s.fnResult p fn.val f = 0 → s.seams.recs = [] → s.expert.blocks = [] →
        (s.serving.reqs.any (State.Fn_hits f) = false →
          (∀ d, f = .partition d → exec (.emergencyDisable set fn head) s =
            .next ((off.dropItems (fun i => s.ctxPart i.context == d)).reply p 0x0040 q 0 0)) ∧
          (∀ m, f = .model m → exec (.emergencyDisable set fn head) s =
            .next ((off.dropItems (fun i => s.ctxModel i.context == m)).reply p 0x0040 q 0 0)) ∧
          (∀ d m, f = .modelIn d m → exec (.emergencyDisable set fn head) s =
            .next ((off.dropItems (fun i => s.ctxModel i.context == m && s.ctxPart i.context == d)).reply p 0x0040 q 0 0)) ∧
          (∀ d, f = .tenant d ∨ f = .patch d → exec (.emergencyDisable set fn head) s = .next (off.reply p 0x0040 q 0 0))) ∧
        (∀ r d, f = .tenant d ∨ f = .patch d → s.serving.reqs.filter (State.Fn_hits f) = [r] → s.req? r.id = some r → r.slot = none →
          s.freeRecord.isSome = true → ∃ t, exec (.emergencyDisable set fn head) s = .next t ∧
            t.serving.reqs = s.serving.reqs.filter (fun x => decide (x.id ≠ r.id)) ∧ t.serving.disabled = off.serving.disabled ∧
            t.serving.slots = s.serving.slots ∧ t.serving.items = s.serving.items))) ∧
    (let b := hostMessage 0x0041 head
     let q := fieldAt b 8 4
     let f := State.fnOf p fn.val b
     s.accepts set fn 0x0041 head →
      (s.fnResult p fn.val f ≠ 0 → exec (.enable set fn head) s = .next (s.reply p 0x0041 q (s.fnResult p fn.val f) 0)) ∧
      (s.fnResult p fn.val f = 0 → (∀ n, f ≠ .port n) → exec (.enable set fn head) s =
        .next (({ s with serving := { s.serving with disabled := s.serving.disabled.filter (fun g => decide (g ≠ f)) } } : State).reply p 0x0041 q 0 0))) ∧
    (let b := hostMessage 0x0042 head
     let period := fieldAt b 0x10 2
     s.accepts set fn 0x0042 head → exec (.setLeg set fn head) s =
       .next (((s.changeAt (fieldAt b 0x14 4) period).setCfg 0 2 period).replyLater p 0x0042 (fieldAt b 8 4))) ∧
    (let b := hostMessage 0x0043 head
     let cap := fieldAt b 0x10 2
     s.accepts set fn 0x0043 head → 800 ≤ cap ∧ cap ≤ 1700 ∧ ∃ t, exec (.setPower set fn head) s = .next t ∧ t.fld Reg.POWER_CAP 10 0 = cap ∧
       t.cfg 0x10 2 = cap ∧ (1, 0) ∈ t.store.unwritten ∧ t.store.replies = s.store.replies ++ [(p, 0x0043, fieldAt b 8 4)] ∧
       t.host = s.host ∧ t.power = s.power) ∧
    (let b := hostMessage 0x0050 head
     let q := fieldAt b 8 4
     let sel := fieldAt b 0x10 1
     let arg := fieldAt b 0x18 8
     s.accepts set fn 0x0050 head →
      (sel = 0 ∨ (sel = 1 ∧ arg = p) ∨ (sel = 3 ∧ arg < 4096) ∨ (sel = 4 ∧ arg < 256) →
        exec (.query set fn head) s = .next (s.reply p 0x0050 q 0 0 ((Config.queryData sel arg s.free).take 2000)).drawn) ∧
      ((sel = 1 ∧ arg ≠ p) → exec (.query set fn head) s = .next (s.reply p 0x0050 q 2 0)) ∧
      (sel = 2 → s.req? arg = none → exec (.query set fn head) s = .next (s.reply p 0x0050 q 1 0))) ∧
    (let b := hostMessage 0x0051 head
     s.accepts set fn 0x0051 head → ∃ t, exec (.eventMask set fn head) s = .next t ∧ (t.mbox p).maskSources = fieldAt b 0x10 2 ∧
       (t.mbox p).maskSeverity = fieldAt b 0x12 1 ∧ (∀ q, q ≠ p → t.mbox q = s.mbox q) ∧ t.serving = s.serving ∧ t.tier = s.tier ∧ t.leg = s.leg) ∧
    (let b := hostMessage 0x0060 head
     let q := fieldAt b 8 4
     let h := fieldAt b 0x10 4
     s.accepts set fn 0x0060 head →
      (s.updateBusy = true → exec (.fwUpdate set fn head) s = .next (s.reply p 0x0060 q 0x20 0)) ∧
      (∀ a, s.updateBusy = false → s.alloc? h = some a → a.part = p → a.internal = false → a.published = some (fieldAt b 0x14 4, fieldAt b 0x18 4) →
        ∃ t, exec (.fwUpdate set fn head) s = .next t ∧ t.rd Reg.FW_UPDATE_STATUS = 17 ∧
          t.host.update = some { handle := h, version := fieldAt b 0x18 4, host := some (p, q), image := a.data, step := 1 } ∧
          OnlyRegs (fun off => off == Reg.FW_UPDATE_STATUS) { s with host := t.host } t)) ∧
    (let b := hostMessage 0x0061 head
     let q := fieldAt b 8 4
     let c := fieldAt b 0x10 1
     s.accepts set fn 0x0061 head → c < 4 ∧
      (s.cpState c = 4 → exec (.cpRestart set fn head) s = .next (s.reply p 0x0061 q 0x22 0)) ∧
      (s.cpState c = 1 → s.host.restarts = [] → s.host.restarting = none → s.host.update = none →
        ∃ t, exec (.cpRestart set fn head) s = .next t ∧ t.cpState c = 2 ∧ t.fld (Reg.FW_STATUS c) 23 16 = 4 ∧ t.host.restarting = some c ∧
          (c = 3 → t.fld Reg.POWER_STATUS 25 25 = 1) ∧ ∀ d, d < 4 → d ≠ c → t.cpState d = s.cpState d))

/-! Control processors, management and the life cycle. -/

/-- A processor that crashes is reloaded, and held down at its third crash within 60 s; a restart asked for takes a running processor down,
one at a time, and one that is done resumes; an update goes on once its image is verified, and reverts when a hand-off fails. -/
def Obligations.ProcessorsCrashRestartAndUpdate : Prop :=
  ∀ (s : State) (cp : Fin 4) (addr : W32), s.due = [] →
    let c := cp.val
    let near := ((Tab.get [] s.host.crashes c).filter (fun t => decide (s.now < t + 6000000000))) ++ [s.now]
    let others (t : State) : Prop := ∀ d, d < 4 → d ≠ c → t.cpState d = s.cpState d
    let crashed (t : State) (cause : Nat) : Prop := t.cpState c = (if near.length < 3 then 2 else 4) ∧ t.fld (Reg.FW_STATUS c) 23 16 = cause ∧
      Tab.find? t.host.crashes c = some near ∧ (c = 3 → t.fld Reg.POWER_STATUS 25 25 = 1) ∧ others t ∧ t.serving = s.serving ∧ t.tier = s.tier
    (s.cpState c ≠ 1 → s.cpState c ≠ 3 → exec (.cpWatchdogExpiry cp) s = .next s ∧ exec (.cpException cp addr) s = .next s ∧
      ∀ fn v, exec (.fwRestartWrite fn v (some cp)) s = .next s) ∧
    (s.cpState c = 1 ∨ s.cpState c = 3 → (∃ t, exec (.cpWatchdogExpiry cp) s = .next t ∧ crashed t 1) ∧
      (∃ t, exec (.cpException cp addr) s = .next t ∧ crashed t 2) ∧ ∀ fn v, ∃ t, exec (.fwRestartWrite fn v (some cp)) s = .next t ∧ crashed t 3) ∧
    (∀ v : W32, s.barOpen 0 = true →
      let bitsSet := (List.range 4).filter (fun d => bit v.toNat d)
      (bitsSet.length ≠ 1 → exec (.fwRestartWrite 0 v none) s = .next s) ∧
      (bitsSet = [c] → s.cpState c = 0 ∨ s.cpState c = 2 ∨ s.cpState c = 4 → exec (.fwRestartWrite 0 v none) s = .next s) ∧
      (bitsSet = [c] → s.cpState c = 1 → s.host.restarts = [] → s.host.restarting = none → s.host.update = none →
        ∃ t, exec (.fwRestartWrite 0 v none) s = .next t ∧ t.cpState c = 2 ∧ t.fld (Reg.FW_STATUS c) 23 16 = 4 ∧ t.host.restarting = some c ∧ others t)) ∧
    (s.cpState c ≠ 2 → exec (.cpRestartDone cp) s = .next s) ∧
    (s.cpState c = 2 → s.host.restarts = [] → (c = 0 → s.residents = []) → (c = 1 → s.host.deferred = []) →
      ∃ t, exec (.cpRestartDone cp) s = .next t ∧ t.cpState c = 1 ∧
        t.fld (Reg.FW_STATUS c) 31 24 = min 255 (s.fld (Reg.FW_STATUS c) 31 24 + 1) ∧
        t.host.restarting = (if s.host.restarting = some c then none else s.host.restarting) ∧ others t) ∧
    (s.host.update = none → exec .fwImageVerified s = .next s ∧ ∀ refused, exec (.fwHandoffTimeout refused) s = .next s) ∧
    (∀ u, s.host.update = some u → (∀ p q, u.host = some (p, q) → p < 32) →
      (u.step ≠ 1 → exec .fwImageVerified s = .next s) ∧
      (u.step = 1 → s.host.restarts = [] → ∃ t, exec .fwImageVerified s = .next t ∧
        (s.imageCheck u.image = 0 → t.host.update = some { u with verified := true, step := 2 } ∧ t.rd Reg.FW_UPDATE_STATUS = 33) ∧
        (s.imageCheck u.image ≠ 0 → t.host.update = none ∧ t.rd Reg.FW_UPDATE_STATUS = 4) ∧ ∀ d, d < 4 → t.cpState d = s.cpState d) ∧
      (u.step < 3 ∨ s.cpState (State.handOffCp u.step) ≠ 3 → ∀ refused, exec (.fwHandoffTimeout refused) s = .next s) ∧
      (3 ≤ u.step → s.cpState (State.handOffCp u.step) = 3 → s.host.restarts = [] → ∀ refused, ∃ t, exec (.fwHandoffTimeout refused) s = .next t ∧
        t.host.update = none ∧ t.rd Reg.FW_UPDATE_STATUS = 3 ∧ (refused = true → t.cpState (State.handOffCp u.step) = 1) ∧
        (refused = false → t.cpState (State.handOffCp u.step) = 2 ∨ t.cpState (State.handOffCp u.step) = 4)))

/-- The management endpoint answers MCTP control from P0; PLDM and SPDM from P4 while CP3 runs, and says so before; heartbeats set the
budget and their loss is flagged once. The codes of the answers are the model's (log entry 66). -/
def Obligations.ManagementAnswers : Prop :=
  ∀ s : State, s.due = [] → s.power.vauxGood = true →
    (∀ data : BitVec 8, exec (.mctpControl 1 data) s =
      .next (({ s with mgmt := { s.mgmt with eid := data.toNat } } : State).mgmtAnswer 0 1 ([0] ++ leBytes 1 data.toNat))) ∧
    (∀ data : BitVec 8, exec (.mctpControl 2 data) s = .next (s.mgmtAnswer 0 2 ([0] ++ leBytes 1 s.mgmt.eid))) ∧
    exec (.pldmCommand .getStatus) s = .next (s.mgmtAnswer 1 0 ([0] ++ leBytes 1 (s.rd Reg.FW_UPDATE_STATUS))) ∧
    (s.mgmtReady = false →
      (∀ n, exec (.pldmCommand (.numericSensor n)) s = .next (s.mgmtAnswer 1 1 ([4] ++ leBytes 1 s.phase))) ∧
      (∀ image, exec (.pldmFwUpdate image) s = .next (s.mgmtAnswer 1 4 ([4] ++ leBytes 1 s.phase))) ∧
      ∀ c, c = .spdmGetVersion ∨ c = .spdmGetCapabilities ∨ c = .spdmNegotiateAlgorithms ∨ c = .spdmGetDigests ∨
        (∃ slot off n, c = .spdmGetCertificate slot off n) ∨ (∃ slot nonce, c = .spdmChallenge slot nonce) ∨
        (∃ index nonce, c = .spdmGetMeasurements index nonce) → exec c s = .next (s.mgmtAnswer 2 0x7F [0x42])) ∧
    (s.mgmtReady = true →
      (∀ n, exec (.pldmCommand (.numericSensor n)) s = .next (s.mgmtAnswer 1 1 ([0] ++ leBytes 4 (s.numericReading n)))) ∧
      exec (.pldmCommand (.stateSensor 1)) s = .next (s.mgmtAnswer 1 2 ([0] ++ leBytes 1 s.enclave.state)) ∧
      (∀ i e m, Tab.find? s.host.ring (i % 1024) = some (e, m) → ∃ t, exec (.pldmCommand (.readEvent i)) s = .next t ∧
        Tab.find? t.host.ring (i % 1024) = some (e, true) ∧ t.mgmt.answers = s.mgmt.answers ++ [{ proto := 1, code := 3, body := [0] ++ e.bytes }]) ∧
      (∀ image, (s.updateBusy = true → exec (.pldmFwUpdate image) s = .next (s.mgmtAnswer 1 4 [1])) ∧
        (s.updateBusy = false → ∃ t u, exec (.pldmFwUpdate image) s = .next t ∧ t.host.update = some u ∧ u.step = 1 ∧ u.host = none ∧
          u.image = Mem.write [] 0 image ∧ t.rd Reg.FW_UPDATE_STATUS = 17 ∧
          t.mgmt.answers = s.mgmt.answers ++ [{ proto := 1, code := 4, body := [0] }])) ∧
      (s.enclave.aliasFailed.isSome = true → exec .spdmGetDigests s = .next (s.mgmtAnswer 2 0x7F [0x04])) ∧
      (s.enclave.aliasFailed = none →
        exec .spdmGetVersion s = .next (s.mgmtAnswer 2 0x04 [0x14]) ∧
        exec .spdmGetCapabilities s = .next (s.mgmtAnswer 2 0x61 [0x16]) ∧
        exec .spdmNegotiateAlgorithms s = .next (s.mgmtAnswer 2 0x63 [1, 1]) ∧
        exec .spdmGetDigests s = .next (s.mgmtAnswer 2 0x01 (sha256 Config.certificateChain)) ∧
        (∀ off n : BitVec 16, exec (.spdmGetCertificate 0 off n) s = .next (s.mgmtAnswer 2 0x02 ((Config.certificateChain.drop off.toNat).take n.toNat))) ∧
        (∀ nonce, let d := sha256 Config.certificateChain ++ nonce
          exec (.spdmChallenge 0 nonce) s = .next (s.mgmtAnswer 2 0x03 (d ++ Config.slhDsaSign 0 d))) ∧
        (∀ slot, slot ≠ 0 → ∀ nonce, exec (.spdmChallenge slot nonce) s = .next (s.mgmtAnswer 2 0x7F [0x01])) ∧
        (∀ (index : BitVec 8) nonce d, index ≠ 0 → index ≠ 255 → s.measurement index.toNat = some d →
          let b := leBytes 1 index.toNat ++ d ++ nonce
          exec (.spdmGetMeasurements index nonce) s = .next (s.mgmtAnswer 2 0x60 (b ++ Config.slhDsaSign 0 b))) ∧
        (∀ nonce, exec (.spdmGetMeasurements 9 nonce) s = .next (s.mgmtAnswer 2 0x7F [0x01])))) ∧
    (∀ budget : BitVec 11, ∃ t, exec (.heartbeat budget) s = .next t ∧ t.fld Reg.POWER_BUDGET 26 16 = budget.toNat ∧ t.fld Reg.POWER_STATUS 27 27 = 0 ∧
      t.power = { s.power with beatAt := some s.now, restored := s.power.restored || s.fld Reg.POWER_STATUS 27 27 == 1 } ∧
      OnlyRegs (fun off => off == Reg.POWER_BUDGET || off == Reg.POWER_STATUS) { s with power := t.power } t) ∧
    (∀ b, s.power.beatAt = some b →
      (s.now < b + 300000000 ∨ s.fld Reg.POWER_STATUS 27 27 = 1 → exec .heartbeatLost s = .next s) ∧
      (b + 300000000 ≤ s.now → s.fld Reg.POWER_STATUS 27 27 = 0 → ∃ t, exec .heartbeatLost s = .next t ∧ t.fld Reg.POWER_STATUS 27 27 = 1 ∧
        t.power = s.power ∧ t.serving = s.serving))

/-- Status and nonces are answered; a nonce is good for 60 s and for one token; a token or bundle that fails a check changes nothing of
the life cycle, and one accepted revokes a key, raises the least security version, or begins a transition that the reset carries out. The
test port offers BYPASS, IDCODE, SAMPLE/PRELOAD and EXTEST in every state, and the debug instructions in FIELD_DEBUG alone. -/
def Obligations.TokensAndTheTestPort : Prop :=
  (∀ s : State, s.due = [] → s.power.vauxGood = true →
      exec .lcStatus s = .next (s.mgmtAnswer 3 0x10 (leBytes 1 s.enclave.state ++ leBytes 1 (b2n s.enclave.pending.isSome) ++ leBytes 8 s.serial.toNat ++
        leBytes 1 s.enclave.storeEpoch ++ leBytes 1 s.enclave.minSvn)) ∧
      (∃ t n, exec .lcNonce s = .next t ∧ t.enclave = { s.enclave with nonce := some (n, s.now) } ∧ n.length = 16 ∧
        t.mgmt.answers = s.mgmt.answers ++ [{ proto := 3, code := 0x11, body := n }] ∧ t.regs = s.regs) ∧
      (∀ n b, s.enclave.nonce = some (n, b) → (s.now < b + 6000000000 → exec .lcNonceExpiry s = .next s) ∧
        (b + 6000000000 ≤ s.now → exec .lcNonceExpiry s = .next { s with enclave := { s.enclave with nonce := none } })) ∧
      (s.enclave.nonce = none → exec .lcNonceExpiry s = .next s) ∧
      (let reset (t : State) (target : Nat) (bundle : Option Bundle) : Prop :=
         (s.fld Reg.STORE_STATUS 27 27 = 1 → s.power.saving = none → s.power.held = false →
           t.enclave.pending = some (target, bundle) ∧ t.enclave.state = s.enclave.state ∧ t.power.saving = some 5 ∧ t.power.resetDue = true ∧
             t.enclave.nonce = none) ∧
         (s.power.saving = none → s.power.held = true → t.enclave.pending = none ∧ t.enclave.state = target ∧ t.phase = 0 ∧
           t.enclave.storeEpoch = (if target = 3 ∨ target = 4 then min 64 (s.enclave.storeEpoch + 1) else s.enclave.storeEpoch))
       (∀ k : LcToken,
         let cause := s.tokenCause k
         ∃ t, exec (.lcToken k) s = .next t ∧
           (cause ≠ 0 → t.mgmt.answers = s.mgmt.answers ++ [{ proto := 3, code := 0x12, body := leBytes 1 cause }] ∧
             t.enclave = (s.useNonce k.nonce).enclave) ∧
           (cause = 0 → k.command = 1 → reset t k.target none) ∧
           (cause = 0 → k.command = 2 → t.enclave = { s.enclave with nonce := none, minSvn := max s.enclave.minSvn s.runSvn }) ∧
           (cause = 0 → k.command = 3 → t.enclave = { s.enclave with nonce := none, revoked := s.enclave.revoked ||| BitVec.ofNat 4 (2 ^ k.target) })) ∧
       ∀ k : LcBundle,
         let cause := s.bundleCause k
         ∃ t, exec (.provision k) s = .next t ∧
           (cause ≠ 0 → t.mgmt.answers = s.mgmt.answers ++ [{ proto := 3, code := 0x13, body := leBytes 1 cause }] ∧
             t.enclave = (s.useNonce k.nonce).enclave) ∧
           (cause = 0 → reset t 1 (some { ownerKey := k.ownerKey, config := k.config, pages := k.pages })))) ∧
  (∀ (s : State) (instr : Fin 5), s.due = [] → s.power.vauxGood = true →
      (instr.val ≤ 3 ∨ s.enclave.state = 3 → exec (.testPortInstruction instr) s = .next { s with test := { s.test with instr := instr.val } }) ∧
      (instr.val = 4 → s.enclave.state ≠ 3 → exec (.testPortInstruction instr) s = .next { s with test := { s.test with refused := s.test.refused + 1 } }))
/-! The store. -/

/-- The store's controller collects, levels, writes back, compacts and scrubs only while the store serves and there is work; work that a
request of a higher precedence goes before stands in its queue (what waits: log entry 143); a bank record that is written goes to the bank without the newest, and a
failed write is flagged. -/
def Obligations.StoreWorksInTheBackground : Prop :=
  ∀ s : State, s.due = [] →
    let serves := s.storeOpen = true
    let request (w : StoreWork) : StoreReq := { work := w, ahead := if s.workStep w = 1 then s.store.unwritten else [] }
    let queued (w : StoreWork) : State := { s with store := { s.store with queue := s.store.queue ++ [request w] } }
    let first (w : StoreWork) : Prop := s.store.queue = [] ∧ s.workWaits (request w) = false
    let waits (w : StoreWork) : Prop := s.workDue w = true ∧ ∀ y, (queued w).nextWork = some y → s.workWaits y = true
    let moved (t : State) (n : Nat) : Prop := t.rd Reg.STORE_NAND_UNITS = (s.rd Reg.STORE_NAND_UNITS + n) % 2 ^ 32 ∧
      t.store.mapChanges = min 8192 (s.store.mapChanges + n)
    (∀ target freeNow units erased bad lo hi mean x, Tab.find? s.store.targets target = some x →
      (waits (.collect target freeNow units erased bad lo hi mean) →
        exec (.garbageCollection target freeNow units erased bad lo hi mean) s = .next (queued (.collect target freeNow units erased bad lo hi mean))) ∧
      (s.storeOpen = false ∨ x.blocks * 2 ≤ freeNow * 100 → exec (.garbageCollection target freeNow units erased bad lo hi mean) s = .next s) ∧
      (serves → freeNow * 100 < x.blocks * 2 → first (.collect target freeNow units erased bad lo hi mean) → ∃ t, exec (.garbageCollection target freeNow units erased bad lo hi mean) s = .next t ∧
        moved t units ∧ t.rd Reg.STORE_GROWN_BAD = (s.rd Reg.STORE_GROWN_BAD + bad) % 2 ^ 32 ∧
        Tab.find? t.store.targets target = some { x with freeBlocks := freeNow + erased, eraseMin := lo, eraseMax := hi, eraseMean := mean } ∧
        (∀ j, j ≠ target → Tab.find? t.store.targets j = Tab.find? s.store.targets j) ∧ t.store.records = s.store.records ∧ t.tier = s.tier)) ∧
    (∀ target units lo hi mean x, Tab.find? s.store.targets target = some x →
      (waits (.level target units lo hi mean) → exec (.staticWearLevelling target units lo hi mean) s = .next (queued (.level target units lo hi mean))) ∧
      (s.storeOpen = false ∨ (x.eraseMax - x.eraseMin) * 20 ≤ x.rating → exec (.staticWearLevelling target units lo hi mean) s = .next s) ∧
      (serves → x.rating < (x.eraseMax - x.eraseMin) * 20 → first (.level target units lo hi mean) → ∃ t, exec (.staticWearLevelling target units lo hi mean) s = .next t ∧ moved t units ∧
        Tab.find? t.store.targets target = some { x with eraseMin := lo, eraseMax := hi, eraseMean := mean } ∧ t.store.records = s.store.records)) ∧
    (∀ target, Tab.find? s.store.targets target = none → ∀ n units lo hi mean, exec (.staticWearLevelling target units lo hi mean) s = .next s ∧
      ∀ erased bad, exec (.garbageCollection target n units erased bad lo hi mean) s = .next s) ∧
    (∀ pages, (waits (.writeback pages) → exec (.mapWriteback pages) s = .next (queued (.writeback pages))) ∧
      (s.storeOpen = false ∨ (s.store.mapChanges < 6144 ∧ s.store.dirChanges < 1536) → exec (.mapWriteback pages) s = .next s) ∧
      (serves → 6144 ≤ s.store.mapChanges ∨ 1536 ≤ s.store.dirChanges → first (.writeback pages) → s.tier.unhomed = [] →
        ∃ t, exec (.mapWriteback pages) s = .next t ∧ t.store.mapChanges = 0 ∧ t.tier = s.tier ∧ t.store.dirChanges = 0 ∧
        t.rd Reg.STORE_NAND_UNITS = (s.rd Reg.STORE_NAND_UNITS + pages) % 2 ^ 32 ∧
        t.bankSeq = (s.bankSeq + pages) % 2 ^ 64 ∧ t.store.records = s.store.records)) ∧
    (∀ bank : Fin 2, (waits (.compact bank.val) → exec (.bankCompaction bank) s = .next (queued (.compact bank.val))) ∧
      (s.storeOpen = false → exec (.bankCompaction bank) s = .next s) ∧
      (serves → first (.compact bank.val) → ∃ t, exec (.bankCompaction bank) s = .next t ∧ (∀ r, r ∈ t.store.records → r ∈ s.store.records) ∧
        (∀ r, r ∈ s.store.records → r.1 % 2 ≠ bank.val → r ∈ t.store.records) ∧
        (∀ r, r ∈ s.store.records → (s.newestRec (r.1 / 2 / 2 ^ 20) (r.1 / 2 % 2 ^ 20)).map (·.1) = some bank.val → r ∈ t.store.records) ∧
        t.regs = s.regs)) ∧
    (∀ retried refreshed units bad,
      (∀ ue, waits (.scrub retried refreshed units bad ue) → exec (.storePatrolScrub retried refreshed units bad ue) s =
        .next (queued (.scrub retried refreshed units bad ue))) ∧
      (s.fld Reg.STORE_SCRUB_CTRL 8 8 = 0 ∨ s.storeOpen = false → ∀ ue, exec (.storePatrolScrub retried refreshed units bad ue) s = .next s) ∧
      (s.fld Reg.STORE_SCRUB_CTRL 8 8 = 1 → serves → first (.scrub retried refreshed units bad none) → ∃ t, exec (.storePatrolScrub retried refreshed units bad none) s = .next t ∧ moved t units ∧
        t.rd Reg.STORE_RETRY_CW = (s.rd Reg.STORE_RETRY_CW + retried) % 2 ^ 32 ∧
        t.rd Reg.STORE_REFRESHED = (s.rd Reg.STORE_REFRESHED + refreshed) % 2 ^ 32 ∧ t.rd Reg.STORE_UE = s.rd Reg.STORE_UE ∧
        (0 < bad → t.fld Reg.STORE_ERR 1 1 = 1) ∧ t.tier = s.tier)) ∧
    exec .storeZqCalibration s = .next s ∧
    (∀ page, ∃ t, exec (.mapPageRebuildDone page) s = .next t ∧ page ∉ t.store.rebuilding ∧ (∀ q, q ∈ s.store.rebuilding → q ≠ page → q ∈ t.store.rebuilding) ∧
      t.fld Reg.STORE_STATUS 23 23 = (if t.store.rebuilding = [] then 0 else 1) ∧
      OnlyRegs (fun off => off == Reg.STORE_STATUS) { s with store := t.store } t) ∧
    (s.power.vmainGood = true →
      (s.tier.dirRewrite = true → ∃ t, exec .directoryCopyRewritten s = .next t ∧ t.fld Reg.TIER_STATUS 0 0 = 0 ∧ t.tier = { s.tier with dirRewrite := false } ∧
        OnlyRegs (fun off => off == Reg.TIER_STATUS) { s with tier := t.tier } t) ∧
      (s.tier.dirRewrite = false → exec .directoryCopyRewritten s = .next s)) ∧
    (∀ (kind : BitVec 8) (index : Nat),
      let k := kind.toNat
      let w := (k, index)
      (w ∉ s.store.unwritten ∨ s.storeOpen = false → ∀ failed, exec (.bankRecordWritten kind index failed) s = .next s) ∧
      (w ∈ s.store.unwritten → serves → exec (.bankRecordWritten kind index true) s = .next (s.setFld Reg.STORE_ERR 3 3 1)) ∧
      (w ∈ s.store.unwritten → serves → s.seams.recs = [] → (∀ p q z, (p, q, z) ∈ s.store.replies → p < 32) →
        ∃ t b, exec (.bankRecordWritten kind index false) s = .next t ∧ w ∉ t.store.unwritten ∧
          (∀ old r, s.newestRec k index = some (old, r) → b ≠ old) ∧ b < 2 ∧
          Tab.find? t.store.records (recKey k index b) = some { seqNo := s.bankSeq + 1, body := s.recordBody k index } ∧
          (∀ j, j ≠ recKey k index b → Tab.find? t.store.records j = Tab.find? s.store.records j) ∧
          (k = 1 → t.store.replies = []) ∧ t.tier = s.tier ∧ t.serving = s.serving)) ∧
    (∀ (chan : Fin 128) (code : Fin 8) (ce : Nat) (failed : Bool), s.power.vmainGood = true →
      let sub := Reg.LPDDR_SUB chan.val
      (s.fld Reg.LPDDR_CTRL 8 8 = 0 ∨ s.subChannels ≤ chan.val ∨ s.fld sub 31 28 ≠ 2 → exec (.lpddrRetrain chan code ce failed) s = .next s) ∧
      (s.fld Reg.LPDDR_CTRL 8 8 = 1 → chan.val < s.subChannels → s.fld sub 31 28 = 2 → ∃ t, exec (.lpddrRetrain chan code ce failed) s = .next t ∧
        t.fld sub 27 25 = code.val ∧ t.fld sub 15 0 = min 65535 (s.fld sub 15 0 + ce) ∧ t.fld sub 31 28 = (if failed then 3 else 2) ∧
        t.rd Reg.LPDDR_RETRAINS = (s.rd Reg.LPDDR_RETRAINS + 1) % 2 ^ 32 ∧
        OnlyRegs (fun off => off == sub || off == Reg.LPDDR_RETRAINS || off == Reg.LPDDR_STATUS) s t))

/-! Start, power and the save. -/

/-- P0 begins with VAUX; P1 finds an image, or the start stops; START_GRANT and VMAIN together switch the loads on once P1 has ended; the
timebase starts with VMAIN good; the link comes up once PERST_N is high. -/
def Obligations.StartGoesOnInPhases : Prop :=
  ∀ s : State, s.due = [] →
    let canLoad : Prop := s.power.pwrfail = false ∧ s.power.p1Done = true ∧ s.stopped = false ∧ s.tripped = false ∧ s.power.held = false ∧
      s.power.saving = none ∧ s.power.resetPin = false ∧ s.power.loadsOn = false
    (s.power.vauxGood = true → exec .vauxGood s = .next s) ∧
    (s.power.vauxGood = false → s.power.saving = none → ∃ t, exec .vauxGood s = .next t ∧ t.atP0 ∧ t.power.vauxGood = true ∧
      ∀ i, i < 4 → t.rd (Reg.GLOBAL_SCRATCH i) = 0) ∧
    (∀ f : StartFound,
      (s.power.vauxGood = false ∨ s.power.p1Done = true ∨ s.power.held = true ∨ s.power.resetPin = true ∨ s.stopped = true ∨ s.tripped = true →
        exec (.p1Complete f) s = .next s) ∧
      (s.power.vauxGood = true → s.power.p1Done = false → s.power.saving = none → s.power.held = false → s.power.resetPin = false →
        s.stopped = false → s.tripped = false → f.dirLost = [] →
        ∃ t, exec (.p1Complete f) s = .next t ∧
          (s.enclave.state = 4 ∨ s.bootChoice = none → t.stopped = true ∧ t.power.p1Done = false ∧ t.enclave = s.enclave) ∧
          (∀ b, s.enclave.state ≠ 4 → s.bootChoice = some b → t.phase = 1 ∧ t.power.p1Done = true ∧ t.enclave.bootBank = b ∧ t.enclave.runBank = b ∧
            t.enclave.state = s.enclave.state))) ∧
    (∃ t, exec .startGrantAssert s = .next t ∧ t.power.startGrant = true ∧
      (canLoad → 800 ≤ s.fld Reg.POWER_RAILS 11 0 → t.power.loadsOn = true ∧ t.power.grantAt = s.now) ∧
      (¬ canLoad ∨ s.fld Reg.POWER_RAILS 11 0 < 800 → t = { s with power := { s.power with startGrant := true } }) ∧ t.regs = s.regs) ∧
    (∃ t, exec .vmainAt40V s = .next t ∧ 800 ≤ t.fld Reg.POWER_RAILS 11 0 ∧
      (canLoad → s.power.startGrant = true → t.power.loadsOn = true ∧ t.power.grantAt = s.now) ∧
      (¬ canLoad ∨ s.power.startGrant = false → t.power = s.power)) ∧
    (s.power.loadsOn = false ∨ s.power.vmainGood = true → exec .vmainGood s = .next s) ∧
    (s.power.loadsOn = true → s.power.vmainGood = false → ∃ t, exec .vmainGood s = .next t ∧ t.power.vmainGood = true ∧ t.leg.running = true ∧
      t.leg.counted = false ∧ t.leg.sub = 0 ∧ t.cores = [] ∧ t.net = {} ∧ t.fld Reg.GLOBAL_PLL_STATUS 2 0 = 7 ∧ t.tier = s.tier) ∧
    (s.power.loadsOn = true → s.power.perst = false →
      exec .pcieLinkUp s = .next (({ s with host := { s.host with linkUp := true } } : State).setFld Reg.GLOBAL_PLL_STATUS 3 3 1)) ∧
    (s.power.loadsOn = false ∨ s.power.perst = true → exec .pcieLinkUp s = .next s) ∧
    (exec .perstDeassert s = .next { s with
      power := { s.power with perst := false }, host := { s.host with perstSeen := s.host.perstSeen || s.power.vauxGood } }) ∧
    (s.host.perstSeen = false ∨ s.power.vauxGood = false → exec .perstAssert s = .next { s with
      power := { s.power with perst := true }, host := { s.host with linkUp := false } }) ∧
    (s.host.perstSeen = true → s.power.vauxGood = true → s.power.saving = none → s.power.held = true → ∃ t, exec .perstAssert s = .next t ∧ t.atP0)

/-- P2 puts the configuration record in force, P3 the large tier and the store, where it also counts the seams that the power loss cut off,
P4 full serving; each ends only in its turn, and sub-channels that fail to train stop the start after P2. -/
def Obligations.StartReachesFullServing : Prop :=
  ∀ s : State, s.due = [] →
    let up := s.power.vmainGood = true ∧ s.stopped = false
    (∀ press, (¬ up ∨ s.phase ≠ 1 → exec (.p2Complete press) s = .next s) ∧
      (up → s.phase = 1 → (∀ p, p < 32 → s.entry 7 p = s.partCommitted p) → s.objectHandle (s.cfg 0x48 4) (s.cfg 0x4C 4) = none →
        ∃ t, exec (.p2Complete press) s = .next t ∧ t.phase = 2 ∧ t.fld Reg.POWER_CAP 10 0 = s.cfg 0x10 2 % 2 ^ 11 ∧
          t.serving.treeLog2 = s.cfg 0x2A 2 ∧ (∀ c, c < 1024 → t.rd (Reg.CORE_ARITH_LIMIT c) = s.cfg 0x18 4) ∧
          t.power = s.power ∧ t.tier = s.tier ∧ t.cores = s.cores)) ∧
    (∀ failed, (¬ up ∨ s.phase ≠ 2 → exec (.p3Complete failed) s = .next s) ∧
      (∀ c, up → s.phase = 2 → c ∈ failed → c.val < s.subChannels → ∃ t, exec (.p3Complete failed) s = .next t ∧ t.phase = 2 ∧ t.stopped = true ∧
        t.fld Reg.LPDDR_STATUS 31 28 = 3 ∧ t.fld (Reg.LPDDR_SUB c.val) 31 28 = 3 ∧ t.store = s.store)) ∧
    (up → s.phase = 2 → s.store.taken = none → s.enclave.erased = false → s.tier.unhomed = [] → ∃ t, exec (.p3Complete []) s = .next t ∧ t.phase = 3 ∧
      t.power.cutSeams = [] ∧ t.rd Reg.SEAM_UNPICKED = (s.rd Reg.SEAM_UNPICKED + s.power.cutSeams.length) % 2 ^ 32 ∧
      t.fld Reg.STORE_STATUS 27 27 = 1 ∧ t.fld Reg.LPDDR_STATUS 31 28 = 2 ∧ t.fld Reg.LPDDR_STATUS 7 0 = s.subChannels ∧
      (∀ c, c < s.subChannels → t.fld (Reg.LPDDR_SUB c) 31 28 = 2) ∧ t.fld Reg.LEG_SYNC 1 0 = bits (s.cfg 2 1) 1 0 ∧ t.power.modeAt = s.now) ∧
    (s.power.vmainGood = false ∨ s.phase ≠ 3 ∨ s.settled = false → exec .p4Complete s = .next s) ∧
    (s.power.vmainGood = true → s.phase = 3 → s.settled = true → (∀ p, p < 16 → s.portState p ≠ 2) → ∃ t, exec .p4Complete s = .next t ∧
      t.phase = 4 ∧ t.fld Reg.POWER_KW_FLOOR 10 0 = s.cfg 0x14 2 % 2 ^ 11 ∧ t.fld Reg.POWER_KW_FALL 10 0 = s.cfg 0x16 2 % 2 ^ 11 ∧
      t.fld Reg.POWER_KW_CTRL 0 0 = bits (s.cfg 3 1) 0 0 ∧ t.power = { s.power with beatAt := some (s.power.beatAt.getD s.now) } ∧
      t.serving = s.serving ∧ t.tier = s.tier)

/-- The loss of a supply, of the grant, PWRFAIL_N or a reset begins a save where the store is armed, and only drops the loads where it is
not; an open seam that the save does not hold is kept as cut off; its end programs the other slot, and is followed by P0 after a reset or a failure that is over, else the module is held. -/
def Obligations.FailuresSaveAndRestart : Prop :=
  ∀ s : State, s.due = [] →
    let armed := s.fld Reg.STORE_STATUS 27 27 = 1
    let quiet := s.power.saving = none ∧ s.power.held = false
    let down (t : State) : Prop := t.power.loadsOn = false ∧ t.power.vmainGood = false ∧ t.leg.running = false ∧ t.cores = [] ∧ t.net = {} ∧
      t.host.linkUp = false
    let saves (t : State) (cause : Nat) : Prop :=
      (quiet → armed → down t ∧ t.power.saving = some cause ∧ t.power.held = false ∧ ∃ img, t.store.sealed = some img ∧ img.leg = s.leg.count ∧
        (∀ k x, s.seam? k = some x → img.seams.any (fun y => y.1 == k) = false → (x.id k, x.scope) ∈ t.power.cutSeams) ∧
        img.prefixCount = s.serving.prefixCount ∧ img.startCount = s.store.startCount) ∧
      (quiet → s.fld Reg.STORE_STATUS 27 27 = 0 → s.power.loadsOn = true → down t ∧ t.power.saving = none ∧ t.power.held = true ∧ t.store.sealed = none) ∧
      (¬ quiet → t.power.saving = s.power.saving ∧ t.store = s.store ∧ t.cores = s.cores) ∧ t.tier = s.tier ∧ t.store.records = s.store.records
    (∃ t, exec .pwrfailAssert s = .next t ∧ saves t 1 ∧ t.power.pwrfail = true) ∧
    (∃ t, exec .vmainLow s = .next t ∧ saves t 2) ∧
    (∃ t, exec .vauxLow s = .next t ∧ saves t 3 ∧ t.power.vauxGood = false) ∧
    (s.power.startGrant = true → ∃ t, exec .startGrantWithdraw s = .next t ∧ saves t 4 ∧ t.power.startGrant = false) ∧
    (s.power.startGrant = false → exec .startGrantWithdraw s = .next s) ∧
    (s.power.vauxGood = true → ∃ t, exec .resetAssert s = .next t ∧ t.power.resetPin = true ∧
      (quiet → armed → down t ∧ t.power.saving = some 5 ∧ t.power.resetDue = true) ∧
      (s.power.saving = none → s.power.held = true → t.atP0 ∧ t.tripped = false)) ∧
    (s.power.resetPin = false → exec .resetDeassert s = .next s) ∧
    (s.power.resetPin = true → s.power.saving = none → s.power.vauxGood = true → ∃ t, exec .resetDeassert s = .next t ∧ t.atP0 ∧ t.power.resetPin = false) ∧
    (s.power.saving = none → exec .saveComplete s = .next s) ∧
    (∀ cause img, s.power.saving = some cause → s.store.sealed = some img → ∃ t, exec .saveComplete s = .next t ∧ t.power.saving = none ∧
      ((∀ b, s.enclave.pending ≠ some (4, b)) → ∃ k, k < 2 ∧ Tab.find? t.store.saves k = some img ∧
        (∀ o x, s.newestSave = some (o, x) → k ≠ o) ∧ ∀ j, j ≠ k → Tab.find? t.store.saves j = Tab.find? s.store.saves j) ∧
      (s.power.vauxGood = true → s.power.resetDue = true → t.atP0 ∧
        (∀ target b, s.enclave.pending = some (target, b) → t.enclave.state = target)) ∧
      (s.power.resetDue = false → cause ≠ 1 → t.power.held = true ∧ t.fld Reg.POWER_STATUS 31 31 = 1 ∧ t.fld Reg.STORE_STATUS 27 27 = 0 ∧
        t.store.sealed = none)) ∧
    (s.power.held = true → s.power.saving = none → s.power.vauxGood = true → s.power.resetPin = false → s.tripped = false →
      800 ≤ s.fld Reg.POWER_RAILS 11 0 → ∃ t, exec .pwrfailDeassert s = .next t ∧ t.atP0 ∧ t.power.pwrfail = false) ∧
    (s.power.held = false → s.power.loadsOn = true → exec .pwrfailDeassert s = .next { s with power := { s.power with pwrfail := false } })

/-- Power samples are shown and kept, engage the clamps, and at 110 °C trip the module; a clamp is released after 1 ms; POWER_CAP takes 800
to 1,700; an overcurrent switches the store's supply off. -/
def Obligations.SamplesEngageTheClamps : Prop :=
  ∀ s : State, s.due = [] →
    let window (x : PowerSample) : List Nat := (x.watts :: s.power.window).take 10
    (∀ x, s.power.vauxGood = false → exec (.powerSample x) s = .next s) ∧
    (∀ x, s.power.vauxGood = true → x.tj < 110 ∨ s.tripped = true → ∃ t, exec (.powerSample x) s = .next t ∧
      t.fld Reg.POWER_RAILS 11 0 = x.vmain % 2 ^ 12 ∧ t.fld Reg.POWER_RAILS 21 12 = x.vaux % 2 ^ 10 ∧ t.fld Reg.POWER_RAILS 31 22 = x.vsave % 2 ^ 10 ∧
      t.fld Reg.POWER_TEMP 7 0 = x.tj % 2 ^ 8 ∧ t.power.window = window x ∧ t.power.legSum = s.power.legSum + x.watts ∧
      t.power.legSamples = s.power.legSamples + 1 ∧ t.power.legTj = max s.power.legTj x.tj ∧
      (t.fld Reg.POWER_STATUS 24 24 = 1 ↔ s.fld Reg.POWER_STATUS 24 24 = 1 ∨ 100 ≤ x.tj) ∧
      (t.fld Reg.POWER_STATUS 23 23 = 1 ↔ s.fld Reg.POWER_STATUS 23 23 = 1 ∨ 17000 < (window x).sum) ∧
      (95 ≤ x.tj → t.power.kwStopped = true) ∧ t.serving = s.serving ∧ t.tier = s.tier ∧ t.leg = s.leg) ∧
    (∀ x, s.power.vauxGood = true → 110 ≤ x.tj → s.tripped = false → s.power.saving = none → s.power.held = false → s.fld Reg.STORE_STATUS 27 27 = 1 →
      ∃ t, exec (.powerSample x) s = .next t ∧ t.tripped = true ∧ t.power.saving = some 6 ∧ t.power.vmainGood = false ∧ t.power.loadsOn = false) ∧
    (∀ power : Bool,
      let since := if power then s.power.powerClear else s.power.thermClear
      (since = none → exec (.clampRelease power) s = .next s) ∧
      (∀ b, since = some b → (s.now < b + 100000 → exec (.clampRelease power) s = .next s) ∧
        (b + 100000 ≤ s.now → ∃ t, exec (.clampRelease power) s = .next t ∧
          (if power then t.fld Reg.POWER_STATUS 23 23 else t.fld Reg.POWER_STATUS 24 24) = 0 ∧
          (s.fld Reg.POWER_STATUS 25 23 = (if power then 1 else 2) → t.fld Reg.POWER_CLOCK 10 0 = s.fld Reg.POWER_CLOCK 26 16) ∧
          OnlyRegs (fun off => off == Reg.POWER_STATUS || off == Reg.POWER_CLOCK) s t))) ∧
    (∀ v : W32, s.barOpen 0 = true →
      let n := bits v.toNat 10 0
      ∃ t, exec (.powerCapWrite 0 v) s = .next t ∧
        t.fld Reg.POWER_CAP 10 0 = (if 800 ≤ n ∧ n ≤ 1700 then n else s.fld Reg.POWER_CAP 10 0) ∧ OnlyRegs (fun off => off == Reg.POWER_CAP) s t) ∧
    (∀ volts, (s.power.vauxGood = false ∨ s.store.supplyOff = true → exec (.flSupplyOvercurrent volts) s = .next s) ∧
      (s.power.vauxGood = true → s.store.supplyOff = false → ∃ t, exec (.flSupplyOvercurrent volts) s = .next t ∧ t.fld Reg.STORE_STATUS 31 28 = 4 ∧
        t.store = { s.store with supplyOff := true } ∧ t.tier = s.tier))
end

