-- ==== Sys2Proof/Laws/State.lean ====
section
/-!
SUPPORT. What each primitive update of the state leaves as it was: one lemma for each field, true by unfolding.
-/
namespace Sys2Proof.Machine.State

@[simp] theorem setReg_part (s : State) (off : Nat) (v : W32) : (s.setReg off v).part = s.part := rfl
@[simp] theorem setReg_free (s : State) (off : Nat) (v : W32) : (s.setReg off v).free = s.free := rfl
@[simp] theorem setReg_snap (s : State) (off : Nat) (v : W32) : (s.setReg off v).snap = s.snap := rfl
@[simp] theorem setReg_posted (s : State) (off : Nat) (v : W32) : (s.setReg off v).posted = s.posted := rfl
@[simp] theorem setReg_leg (s : State) (off : Nat) (v : W32) : (s.setReg off v).leg = s.leg := rfl
@[simp] theorem setReg_host (s : State) (off : Nat) (v : W32) : (s.setReg off v).host = s.host := rfl
@[simp] theorem setReg_serving (s : State) (off : Nat) (v : W32) : (s.setReg off v).serving = s.serving := rfl
@[simp] theorem setReg_tables (s : State) (off : Nat) (v : W32) : (s.setReg off v).tables = s.tables := rfl
@[simp] theorem setReg_seams (s : State) (off : Nat) (v : W32) : (s.setReg off v).seams = s.seams := rfl
@[simp] theorem setReg_tier (s : State) (off : Nat) (v : W32) : (s.setReg off v).tier = s.tier := rfl
@[simp] theorem setReg_cause (s : State) (off : Nat) (v : W32) : (s.setReg off v).cause = s.cause := rfl
@[simp] theorem setReg_cores (s : State) (off : Nat) (v : W32) : (s.setReg off v).cores = s.cores := rfl
@[simp] theorem setReg_net (s : State) (off : Nat) (v : W32) : (s.setReg off v).net = s.net := rfl
@[simp] theorem setReg_expert (s : State) (off : Nat) (v : W32) : (s.setReg off v).expert = s.expert := rfl
@[simp] theorem setReg_store (s : State) (off : Nat) (v : W32) : (s.setReg off v).store = s.store := rfl
@[simp] theorem setReg_power (s : State) (off : Nat) (v : W32) : (s.setReg off v).power = s.power := rfl
@[simp] theorem setReg_enclave (s : State) (off : Nat) (v : W32) : (s.setReg off v).enclave = s.enclave := rfl
@[simp] theorem setReg_mgmt (s : State) (off : Nat) (v : W32) : (s.setReg off v).mgmt = s.mgmt := rfl
@[simp] theorem setReg_test (s : State) (off : Nat) (v : W32) : (s.setReg off v).test = s.test := rfl
@[simp] theorem setReg_due (s : State) (off : Nat) (v : W32) : (s.setReg off v).due = s.due := rfl
@[simp] theorem setReg_pending (s : State) (off : Nat) (v : W32) : (s.setReg off v).pending = s.pending := rfl

@[simp] theorem wr_part (s : State) (off v : Nat) : (s.wr off v).part = s.part := rfl
@[simp] theorem wr_free (s : State) (off v : Nat) : (s.wr off v).free = s.free := rfl
@[simp] theorem wr_snap (s : State) (off v : Nat) : (s.wr off v).snap = s.snap := rfl
@[simp] theorem wr_posted (s : State) (off v : Nat) : (s.wr off v).posted = s.posted := rfl
@[simp] theorem wr_leg (s : State) (off v : Nat) : (s.wr off v).leg = s.leg := rfl
@[simp] theorem wr_host (s : State) (off v : Nat) : (s.wr off v).host = s.host := rfl
@[simp] theorem wr_serving (s : State) (off v : Nat) : (s.wr off v).serving = s.serving := rfl
@[simp] theorem wr_tables (s : State) (off v : Nat) : (s.wr off v).tables = s.tables := rfl
@[simp] theorem wr_seams (s : State) (off v : Nat) : (s.wr off v).seams = s.seams := rfl
@[simp] theorem wr_tier (s : State) (off v : Nat) : (s.wr off v).tier = s.tier := rfl
@[simp] theorem wr_cause (s : State) (off v : Nat) : (s.wr off v).cause = s.cause := rfl
@[simp] theorem wr_cores (s : State) (off v : Nat) : (s.wr off v).cores = s.cores := rfl
@[simp] theorem wr_net (s : State) (off v : Nat) : (s.wr off v).net = s.net := rfl
@[simp] theorem wr_expert (s : State) (off v : Nat) : (s.wr off v).expert = s.expert := rfl
@[simp] theorem wr_store (s : State) (off v : Nat) : (s.wr off v).store = s.store := rfl
@[simp] theorem wr_power (s : State) (off v : Nat) : (s.wr off v).power = s.power := rfl
@[simp] theorem wr_enclave (s : State) (off v : Nat) : (s.wr off v).enclave = s.enclave := rfl
@[simp] theorem wr_mgmt (s : State) (off v : Nat) : (s.wr off v).mgmt = s.mgmt := rfl
@[simp] theorem wr_test (s : State) (off v : Nat) : (s.wr off v).test = s.test := rfl
@[simp] theorem wr_due (s : State) (off v : Nat) : (s.wr off v).due = s.due := rfl
@[simp] theorem wr_pending (s : State) (off v : Nat) : (s.wr off v).pending = s.pending := rfl

@[simp] theorem setFld_part (s : State) (off hi lo v : Nat) : (s.setFld off hi lo v).part = s.part := rfl
@[simp] theorem setFld_free (s : State) (off hi lo v : Nat) : (s.setFld off hi lo v).free = s.free := rfl
@[simp] theorem setFld_snap (s : State) (off hi lo v : Nat) : (s.setFld off hi lo v).snap = s.snap := rfl
@[simp] theorem setFld_posted (s : State) (off hi lo v : Nat) : (s.setFld off hi lo v).posted = s.posted := rfl
@[simp] theorem setFld_leg (s : State) (off hi lo v : Nat) : (s.setFld off hi lo v).leg = s.leg := rfl
@[simp] theorem setFld_host (s : State) (off hi lo v : Nat) : (s.setFld off hi lo v).host = s.host := rfl
@[simp] theorem setFld_serving (s : State) (off hi lo v : Nat) : (s.setFld off hi lo v).serving = s.serving := rfl
@[simp] theorem setFld_tables (s : State) (off hi lo v : Nat) : (s.setFld off hi lo v).tables = s.tables := rfl
@[simp] theorem setFld_seams (s : State) (off hi lo v : Nat) : (s.setFld off hi lo v).seams = s.seams := rfl
@[simp] theorem setFld_tier (s : State) (off hi lo v : Nat) : (s.setFld off hi lo v).tier = s.tier := rfl
@[simp] theorem setFld_cause (s : State) (off hi lo v : Nat) : (s.setFld off hi lo v).cause = s.cause := rfl
@[simp] theorem setFld_cores (s : State) (off hi lo v : Nat) : (s.setFld off hi lo v).cores = s.cores := rfl
@[simp] theorem setFld_net (s : State) (off hi lo v : Nat) : (s.setFld off hi lo v).net = s.net := rfl
@[simp] theorem setFld_expert (s : State) (off hi lo v : Nat) : (s.setFld off hi lo v).expert = s.expert := rfl
@[simp] theorem setFld_store (s : State) (off hi lo v : Nat) : (s.setFld off hi lo v).store = s.store := rfl
@[simp] theorem setFld_power (s : State) (off hi lo v : Nat) : (s.setFld off hi lo v).power = s.power := rfl
@[simp] theorem setFld_enclave (s : State) (off hi lo v : Nat) : (s.setFld off hi lo v).enclave = s.enclave := rfl
@[simp] theorem setFld_mgmt (s : State) (off hi lo v : Nat) : (s.setFld off hi lo v).mgmt = s.mgmt := rfl
@[simp] theorem setFld_test (s : State) (off hi lo v : Nat) : (s.setFld off hi lo v).test = s.test := rfl
@[simp] theorem setFld_due (s : State) (off hi lo v : Nat) : (s.setFld off hi lo v).due = s.due := rfl
@[simp] theorem setFld_pending (s : State) (off hi lo v : Nat) : (s.setFld off hi lo v).pending = s.pending := rfl

@[simp] theorem bump_part (s : State) (off n : Nat) : (s.bump off n).part = s.part := rfl
@[simp] theorem bump_free (s : State) (off n : Nat) : (s.bump off n).free = s.free := rfl
@[simp] theorem bump_snap (s : State) (off n : Nat) : (s.bump off n).snap = s.snap := rfl
@[simp] theorem bump_posted (s : State) (off n : Nat) : (s.bump off n).posted = s.posted := rfl
@[simp] theorem bump_leg (s : State) (off n : Nat) : (s.bump off n).leg = s.leg := rfl
@[simp] theorem bump_host (s : State) (off n : Nat) : (s.bump off n).host = s.host := rfl
@[simp] theorem bump_serving (s : State) (off n : Nat) : (s.bump off n).serving = s.serving := rfl
@[simp] theorem bump_tables (s : State) (off n : Nat) : (s.bump off n).tables = s.tables := rfl
@[simp] theorem bump_seams (s : State) (off n : Nat) : (s.bump off n).seams = s.seams := rfl
@[simp] theorem bump_tier (s : State) (off n : Nat) : (s.bump off n).tier = s.tier := rfl
@[simp] theorem bump_cause (s : State) (off n : Nat) : (s.bump off n).cause = s.cause := rfl
@[simp] theorem bump_cores (s : State) (off n : Nat) : (s.bump off n).cores = s.cores := rfl
@[simp] theorem bump_net (s : State) (off n : Nat) : (s.bump off n).net = s.net := rfl
@[simp] theorem bump_expert (s : State) (off n : Nat) : (s.bump off n).expert = s.expert := rfl
@[simp] theorem bump_store (s : State) (off n : Nat) : (s.bump off n).store = s.store := rfl
@[simp] theorem bump_power (s : State) (off n : Nat) : (s.bump off n).power = s.power := rfl
@[simp] theorem bump_enclave (s : State) (off n : Nat) : (s.bump off n).enclave = s.enclave := rfl
@[simp] theorem bump_mgmt (s : State) (off n : Nat) : (s.bump off n).mgmt = s.mgmt := rfl
@[simp] theorem bump_test (s : State) (off n : Nat) : (s.bump off n).test = s.test := rfl
@[simp] theorem bump_due (s : State) (off n : Nat) : (s.bump off n).due = s.due := rfl
@[simp] theorem bump_pending (s : State) (off n : Nat) : (s.bump off n).pending = s.pending := rfl

@[simp] theorem bumpSat_part (s : State) (off n : Nat) : (s.bumpSat off n).part = s.part := rfl
@[simp] theorem bumpSat_free (s : State) (off n : Nat) : (s.bumpSat off n).free = s.free := rfl
@[simp] theorem bumpSat_snap (s : State) (off n : Nat) : (s.bumpSat off n).snap = s.snap := rfl
@[simp] theorem bumpSat_posted (s : State) (off n : Nat) : (s.bumpSat off n).posted = s.posted := rfl
@[simp] theorem bumpSat_leg (s : State) (off n : Nat) : (s.bumpSat off n).leg = s.leg := rfl
@[simp] theorem bumpSat_host (s : State) (off n : Nat) : (s.bumpSat off n).host = s.host := rfl
@[simp] theorem bumpSat_serving (s : State) (off n : Nat) : (s.bumpSat off n).serving = s.serving := rfl
@[simp] theorem bumpSat_tables (s : State) (off n : Nat) : (s.bumpSat off n).tables = s.tables := rfl
@[simp] theorem bumpSat_seams (s : State) (off n : Nat) : (s.bumpSat off n).seams = s.seams := rfl
@[simp] theorem bumpSat_tier (s : State) (off n : Nat) : (s.bumpSat off n).tier = s.tier := rfl
@[simp] theorem bumpSat_cause (s : State) (off n : Nat) : (s.bumpSat off n).cause = s.cause := rfl
@[simp] theorem bumpSat_cores (s : State) (off n : Nat) : (s.bumpSat off n).cores = s.cores := rfl
@[simp] theorem bumpSat_net (s : State) (off n : Nat) : (s.bumpSat off n).net = s.net := rfl
@[simp] theorem bumpSat_expert (s : State) (off n : Nat) : (s.bumpSat off n).expert = s.expert := rfl
@[simp] theorem bumpSat_store (s : State) (off n : Nat) : (s.bumpSat off n).store = s.store := rfl
@[simp] theorem bumpSat_power (s : State) (off n : Nat) : (s.bumpSat off n).power = s.power := rfl
@[simp] theorem bumpSat_enclave (s : State) (off n : Nat) : (s.bumpSat off n).enclave = s.enclave := rfl
@[simp] theorem bumpSat_mgmt (s : State) (off n : Nat) : (s.bumpSat off n).mgmt = s.mgmt := rfl
@[simp] theorem bumpSat_test (s : State) (off n : Nat) : (s.bumpSat off n).test = s.test := rfl
@[simp] theorem bumpSat_due (s : State) (off n : Nat) : (s.bumpSat off n).due = s.due := rfl
@[simp] theorem bumpSat_pending (s : State) (off n : Nat) : (s.bumpSat off n).pending = s.pending := rfl

@[simp] theorem drawn_part (s : State) (n : Nat) : (s.drawn n).part = s.part := rfl
@[simp] theorem drawn_regs (s : State) (n : Nat) : (s.drawn n).regs = s.regs := rfl
@[simp] theorem drawn_snap (s : State) (n : Nat) : (s.drawn n).snap = s.snap := rfl
@[simp] theorem drawn_posted (s : State) (n : Nat) : (s.drawn n).posted = s.posted := rfl
@[simp] theorem drawn_leg (s : State) (n : Nat) : (s.drawn n).leg = s.leg := rfl
@[simp] theorem drawn_host (s : State) (n : Nat) : (s.drawn n).host = s.host := rfl
@[simp] theorem drawn_serving (s : State) (n : Nat) : (s.drawn n).serving = s.serving := rfl
@[simp] theorem drawn_tables (s : State) (n : Nat) : (s.drawn n).tables = s.tables := rfl
@[simp] theorem drawn_seams (s : State) (n : Nat) : (s.drawn n).seams = s.seams := rfl
@[simp] theorem drawn_tier (s : State) (n : Nat) : (s.drawn n).tier = s.tier := rfl
@[simp] theorem drawn_cause (s : State) (n : Nat) : (s.drawn n).cause = s.cause := rfl
@[simp] theorem drawn_cores (s : State) (n : Nat) : (s.drawn n).cores = s.cores := rfl
@[simp] theorem drawn_net (s : State) (n : Nat) : (s.drawn n).net = s.net := rfl
@[simp] theorem drawn_expert (s : State) (n : Nat) : (s.drawn n).expert = s.expert := rfl
@[simp] theorem drawn_store (s : State) (n : Nat) : (s.drawn n).store = s.store := rfl
@[simp] theorem drawn_power (s : State) (n : Nat) : (s.drawn n).power = s.power := rfl
@[simp] theorem drawn_enclave (s : State) (n : Nat) : (s.drawn n).enclave = s.enclave := rfl
@[simp] theorem drawn_mgmt (s : State) (n : Nat) : (s.drawn n).mgmt = s.mgmt := rfl
@[simp] theorem drawn_test (s : State) (n : Nat) : (s.drawn n).test = s.test := rfl
@[simp] theorem drawn_due (s : State) (n : Nat) : (s.drawn n).due = s.due := rfl
@[simp] theorem drawn_pending (s : State) (n : Nat) : (s.drawn n).pending = s.pending := rfl

@[simp] theorem setEntry_part (s : State) (t i v : Nat) : (s.setEntry t i v).part = s.part := rfl
@[simp] theorem setEntry_free (s : State) (t i v : Nat) : (s.setEntry t i v).free = s.free := rfl
@[simp] theorem setEntry_regs (s : State) (t i v : Nat) : (s.setEntry t i v).regs = s.regs := rfl
@[simp] theorem setEntry_snap (s : State) (t i v : Nat) : (s.setEntry t i v).snap = s.snap := rfl
@[simp] theorem setEntry_posted (s : State) (t i v : Nat) : (s.setEntry t i v).posted = s.posted := rfl
@[simp] theorem setEntry_leg (s : State) (t i v : Nat) : (s.setEntry t i v).leg = s.leg := rfl
@[simp] theorem setEntry_host (s : State) (t i v : Nat) : (s.setEntry t i v).host = s.host := rfl
@[simp] theorem setEntry_serving (s : State) (t i v : Nat) : (s.setEntry t i v).serving = s.serving := rfl
@[simp] theorem setEntry_seams (s : State) (t i v : Nat) : (s.setEntry t i v).seams = s.seams := rfl
@[simp] theorem setEntry_tier (s : State) (t i v : Nat) : (s.setEntry t i v).tier = s.tier := rfl
@[simp] theorem setEntry_cause (s : State) (t i v : Nat) : (s.setEntry t i v).cause = s.cause := rfl
@[simp] theorem setEntry_cores (s : State) (t i v : Nat) : (s.setEntry t i v).cores = s.cores := rfl
@[simp] theorem setEntry_net (s : State) (t i v : Nat) : (s.setEntry t i v).net = s.net := rfl
@[simp] theorem setEntry_expert (s : State) (t i v : Nat) : (s.setEntry t i v).expert = s.expert := rfl
@[simp] theorem setEntry_store (s : State) (t i v : Nat) : (s.setEntry t i v).store = s.store := rfl
@[simp] theorem setEntry_power (s : State) (t i v : Nat) : (s.setEntry t i v).power = s.power := rfl
@[simp] theorem setEntry_enclave (s : State) (t i v : Nat) : (s.setEntry t i v).enclave = s.enclave := rfl
@[simp] theorem setEntry_mgmt (s : State) (t i v : Nat) : (s.setEntry t i v).mgmt = s.mgmt := rfl
@[simp] theorem setEntry_test (s : State) (t i v : Nat) : (s.setEntry t i v).test = s.test := rfl
@[simp] theorem setEntry_due (s : State) (t i v : Nat) : (s.setEntry t i v).due = s.due := rfl
@[simp] theorem setEntry_pending (s : State) (t i v : Nat) : (s.setEntry t i v).pending = s.pending := rfl

@[simp] theorem updCore_part (s : State) (c : Nat) (f : Core → Core) : (s.updCore c f).part = s.part := rfl
@[simp] theorem updCore_free (s : State) (c : Nat) (f : Core → Core) : (s.updCore c f).free = s.free := rfl
@[simp] theorem updCore_regs (s : State) (c : Nat) (f : Core → Core) : (s.updCore c f).regs = s.regs := rfl
@[simp] theorem updCore_snap (s : State) (c : Nat) (f : Core → Core) : (s.updCore c f).snap = s.snap := rfl
@[simp] theorem updCore_posted (s : State) (c : Nat) (f : Core → Core) : (s.updCore c f).posted = s.posted := rfl
@[simp] theorem updCore_leg (s : State) (c : Nat) (f : Core → Core) : (s.updCore c f).leg = s.leg := rfl
@[simp] theorem updCore_host (s : State) (c : Nat) (f : Core → Core) : (s.updCore c f).host = s.host := rfl
@[simp] theorem updCore_serving (s : State) (c : Nat) (f : Core → Core) : (s.updCore c f).serving = s.serving := rfl
@[simp] theorem updCore_tables (s : State) (c : Nat) (f : Core → Core) : (s.updCore c f).tables = s.tables := rfl
@[simp] theorem updCore_seams (s : State) (c : Nat) (f : Core → Core) : (s.updCore c f).seams = s.seams := rfl
@[simp] theorem updCore_tier (s : State) (c : Nat) (f : Core → Core) : (s.updCore c f).tier = s.tier := rfl
@[simp] theorem updCore_cause (s : State) (c : Nat) (f : Core → Core) : (s.updCore c f).cause = s.cause := rfl
@[simp] theorem updCore_net (s : State) (c : Nat) (f : Core → Core) : (s.updCore c f).net = s.net := rfl
@[simp] theorem updCore_expert (s : State) (c : Nat) (f : Core → Core) : (s.updCore c f).expert = s.expert := rfl
@[simp] theorem updCore_store (s : State) (c : Nat) (f : Core → Core) : (s.updCore c f).store = s.store := rfl
@[simp] theorem updCore_power (s : State) (c : Nat) (f : Core → Core) : (s.updCore c f).power = s.power := rfl
@[simp] theorem updCore_enclave (s : State) (c : Nat) (f : Core → Core) : (s.updCore c f).enclave = s.enclave := rfl
@[simp] theorem updCore_mgmt (s : State) (c : Nat) (f : Core → Core) : (s.updCore c f).mgmt = s.mgmt := rfl
@[simp] theorem updCore_test (s : State) (c : Nat) (f : Core → Core) : (s.updCore c f).test = s.test := rfl
@[simp] theorem updCore_due (s : State) (c : Nat) (f : Core → Core) : (s.updCore c f).due = s.due := rfl
@[simp] theorem updCore_pending (s : State) (c : Nat) (f : Core → Core) : (s.updCore c f).pending = s.pending := rfl

@[simp] theorem setCoreState_part (s : State) (c v : Nat) : (s.setCoreState c v).part = s.part := rfl
@[simp] theorem setCoreState_free (s : State) (c v : Nat) : (s.setCoreState c v).free = s.free := rfl
@[simp] theorem setCoreState_snap (s : State) (c v : Nat) : (s.setCoreState c v).snap = s.snap := rfl
@[simp] theorem setCoreState_posted (s : State) (c v : Nat) : (s.setCoreState c v).posted = s.posted := rfl
@[simp] theorem setCoreState_leg (s : State) (c v : Nat) : (s.setCoreState c v).leg = s.leg := rfl
@[simp] theorem setCoreState_host (s : State) (c v : Nat) : (s.setCoreState c v).host = s.host := rfl
@[simp] theorem setCoreState_serving (s : State) (c v : Nat) : (s.setCoreState c v).serving = s.serving := rfl
@[simp] theorem setCoreState_tables (s : State) (c v : Nat) : (s.setCoreState c v).tables = s.tables := rfl
@[simp] theorem setCoreState_seams (s : State) (c v : Nat) : (s.setCoreState c v).seams = s.seams := rfl
@[simp] theorem setCoreState_tier (s : State) (c v : Nat) : (s.setCoreState c v).tier = s.tier := rfl
@[simp] theorem setCoreState_cause (s : State) (c v : Nat) : (s.setCoreState c v).cause = s.cause := rfl
@[simp] theorem setCoreState_cores (s : State) (c v : Nat) : (s.setCoreState c v).cores = s.cores := rfl
@[simp] theorem setCoreState_net (s : State) (c v : Nat) : (s.setCoreState c v).net = s.net := rfl
@[simp] theorem setCoreState_expert (s : State) (c v : Nat) : (s.setCoreState c v).expert = s.expert := rfl
@[simp] theorem setCoreState_store (s : State) (c v : Nat) : (s.setCoreState c v).store = s.store := rfl
@[simp] theorem setCoreState_power (s : State) (c v : Nat) : (s.setCoreState c v).power = s.power := rfl
@[simp] theorem setCoreState_enclave (s : State) (c v : Nat) : (s.setCoreState c v).enclave = s.enclave := rfl
@[simp] theorem setCoreState_mgmt (s : State) (c v : Nat) : (s.setCoreState c v).mgmt = s.mgmt := rfl
@[simp] theorem setCoreState_test (s : State) (c v : Nat) : (s.setCoreState c v).test = s.test := rfl
@[simp] theorem setCoreState_due (s : State) (c v : Nat) : (s.setCoreState c v).due = s.due := rfl
@[simp] theorem setCoreState_pending (s : State) (c v : Nat) : (s.setCoreState c v).pending = s.pending := rfl

@[simp] theorem owe_part (s : State) (d : Due) : (s.owe d).part = s.part := rfl
@[simp] theorem owe_free (s : State) (d : Due) : (s.owe d).free = s.free := rfl
@[simp] theorem owe_regs (s : State) (d : Due) : (s.owe d).regs = s.regs := rfl
@[simp] theorem owe_snap (s : State) (d : Due) : (s.owe d).snap = s.snap := rfl
@[simp] theorem owe_posted (s : State) (d : Due) : (s.owe d).posted = s.posted := rfl
@[simp] theorem owe_leg (s : State) (d : Due) : (s.owe d).leg = s.leg := rfl
@[simp] theorem owe_host (s : State) (d : Due) : (s.owe d).host = s.host := rfl
@[simp] theorem owe_serving (s : State) (d : Due) : (s.owe d).serving = s.serving := rfl
@[simp] theorem owe_tables (s : State) (d : Due) : (s.owe d).tables = s.tables := rfl
@[simp] theorem owe_seams (s : State) (d : Due) : (s.owe d).seams = s.seams := rfl
@[simp] theorem owe_tier (s : State) (d : Due) : (s.owe d).tier = s.tier := rfl
@[simp] theorem owe_cause (s : State) (d : Due) : (s.owe d).cause = s.cause := rfl
@[simp] theorem owe_cores (s : State) (d : Due) : (s.owe d).cores = s.cores := rfl
@[simp] theorem owe_net (s : State) (d : Due) : (s.owe d).net = s.net := rfl
@[simp] theorem owe_expert (s : State) (d : Due) : (s.owe d).expert = s.expert := rfl
@[simp] theorem owe_store (s : State) (d : Due) : (s.owe d).store = s.store := rfl
@[simp] theorem owe_power (s : State) (d : Due) : (s.owe d).power = s.power := rfl
@[simp] theorem owe_enclave (s : State) (d : Due) : (s.owe d).enclave = s.enclave := rfl
@[simp] theorem owe_mgmt (s : State) (d : Due) : (s.owe d).mgmt = s.mgmt := rfl
@[simp] theorem owe_test (s : State) (d : Due) : (s.owe d).test = s.test := rfl
@[simp] theorem owe_pending (s : State) (d : Due) : (s.owe d).pending = s.pending := rfl

/-- keepMax changes registers alone. -/
theorem keepMax_cases (s : State) (off v : Nat) : s.keepMax off v = s ∨ s.keepMax off v = s.wr off (min v (2 ^ 32 - 1)) := by
  unfold keepMax; split
  · exact Or.inr rfl
  · exact Or.inl rfl

@[simp] theorem keepMax_part (s : State) (off v : Nat) : (s.keepMax off v).part = s.part := by
  rcases s.keepMax_cases off v with h | h <;> simp [h]
@[simp] theorem keepMax_free (s : State) (off v : Nat) : (s.keepMax off v).free = s.free := by
  rcases s.keepMax_cases off v with h | h <;> simp [h]
@[simp] theorem keepMax_snap (s : State) (off v : Nat) : (s.keepMax off v).snap = s.snap := by
  rcases s.keepMax_cases off v with h | h <;> simp [h]
@[simp] theorem keepMax_posted (s : State) (off v : Nat) : (s.keepMax off v).posted = s.posted := by
  rcases s.keepMax_cases off v with h | h <;> simp [h]
@[simp] theorem keepMax_leg (s : State) (off v : Nat) : (s.keepMax off v).leg = s.leg := by
  rcases s.keepMax_cases off v with h | h <;> simp [h]
@[simp] theorem keepMax_host (s : State) (off v : Nat) : (s.keepMax off v).host = s.host := by
  rcases s.keepMax_cases off v with h | h <;> simp [h]
@[simp] theorem keepMax_serving (s : State) (off v : Nat) : (s.keepMax off v).serving = s.serving := by
  rcases s.keepMax_cases off v with h | h <;> simp [h]
@[simp] theorem keepMax_tables (s : State) (off v : Nat) : (s.keepMax off v).tables = s.tables := by
  rcases s.keepMax_cases off v with h | h <;> simp [h]
@[simp] theorem keepMax_seams (s : State) (off v : Nat) : (s.keepMax off v).seams = s.seams := by
  rcases s.keepMax_cases off v with h | h <;> simp [h]
@[simp] theorem keepMax_tier (s : State) (off v : Nat) : (s.keepMax off v).tier = s.tier := by
  rcases s.keepMax_cases off v with h | h <;> simp [h]
@[simp] theorem keepMax_cause (s : State) (off v : Nat) : (s.keepMax off v).cause = s.cause := by
  rcases s.keepMax_cases off v with h | h <;> simp [h]
@[simp] theorem keepMax_cores (s : State) (off v : Nat) : (s.keepMax off v).cores = s.cores := by
  rcases s.keepMax_cases off v with h | h <;> simp [h]
@[simp] theorem keepMax_net (s : State) (off v : Nat) : (s.keepMax off v).net = s.net := by
  rcases s.keepMax_cases off v with h | h <;> simp [h]
@[simp] theorem keepMax_expert (s : State) (off v : Nat) : (s.keepMax off v).expert = s.expert := by
  rcases s.keepMax_cases off v with h | h <;> simp [h]
@[simp] theorem keepMax_store (s : State) (off v : Nat) : (s.keepMax off v).store = s.store := by
  rcases s.keepMax_cases off v with h | h <;> simp [h]
@[simp] theorem keepMax_power (s : State) (off v : Nat) : (s.keepMax off v).power = s.power := by
  rcases s.keepMax_cases off v with h | h <;> simp [h]
@[simp] theorem keepMax_enclave (s : State) (off v : Nat) : (s.keepMax off v).enclave = s.enclave := by
  rcases s.keepMax_cases off v with h | h <;> simp [h]
@[simp] theorem keepMax_mgmt (s : State) (off v : Nat) : (s.keepMax off v).mgmt = s.mgmt := by
  rcases s.keepMax_cases off v with h | h <;> simp [h]
@[simp] theorem keepMax_test (s : State) (off v : Nat) : (s.keepMax off v).test = s.test := by
  rcases s.keepMax_cases off v with h | h <;> simp [h]
@[simp] theorem keepMax_due (s : State) (off v : Nat) : (s.keepMax off v).due = s.due := by
  rcases s.keepMax_cases off v with h | h <;> simp [h]
@[simp] theorem keepMax_pending (s : State) (off v : Nat) : (s.keepMax off v).pending = s.pending := by
  rcases s.keepMax_cases off v with h | h <;> simp [h]

end Sys2Proof.Machine.State
end

