-- ==== Sys2Proof/Laws/Tab.lean ====
section
/-!
SUPPORT. Laws of sparse tables and memories: what a read gives after a write, and that writes keep the canonical form.
-/
namespace Sys2Proof.Machine

namespace Tab

variable {α : Type}

theorem find?_set_same (t : Tab α) (i : Nat) (x : α) : find? (set t i x) i = some x := by
  induction t with
  | nil => simp [set, find?]
  | cons p t ih =>
    obtain ⟨k, v⟩ := p
    simp only [set]
    split
    · subst_vars; simp [find?]
    · split
      · simp [find?]
      · rename_i h1 h2; simp [find?, h1, h2, ih]

theorem find?_set_ne (t : Tab α) (i j : Nat) (x : α) (h : j ≠ i) : find? (set t i x) j = find? t j := by
  induction t with
  | nil =>
    simp only [set, find?]
    split
    · exact absurd ‹j = i› h
    · split <;> rfl
  | cons p t ih =>
    obtain ⟨k, v⟩ := p
    simp only [set]
    split
    · subst_vars; simp [find?, h]
    · split
      · simp only [find?, h, ↓reduceIte]
        split
        · rw [if_neg (by omega), if_pos (by omega)]
        · rfl
      · simp only [find?, ih]

/-- Of two writes of one key the later one holds. -/
theorem set_set (t : Tab α) (i : Nat) (x y : α) : set (set t i x) i y = set t i y := by
  induction t with
  | nil => simp [set]
  | cons p t ih =>
    obtain ⟨k, v⟩ := p
    simp only [set]
    split
    · subst_vars; simp [set]
    · split
      · simp [set]
      · rename_i h1 h2; simp only [set]; rw [if_neg h1, if_neg h2, ih]

theorem get_above (d : α) (t : Tab α) (i j : Nat) (h : i < j) : get d (above i t) j = get d t j := by
  induction t with
  | nil => rfl
  | cons p t ih =>
    obtain ⟨k, v⟩ := p
    simp only [above]
    split
    · rw [ih]; simp only [get]; rw [if_neg (by omega), if_neg (by omega)]
    · rfl

/-- No key of a table that rises above `lo` is `lo` or less. -/
theorem get_of_rising (d : α) (t : Tab α) (i j : Nat) (h : rising (some i) t = true) (hj : j ≤ i) : get d t j = d := by
  cases t with
  | nil => rfl
  | cons p t =>
    obtain ⟨k, v⟩ := p
    simp only [rising, Bool.and_eq_true, decide_eq_true_eq] at h
    simp only [get]; rw [if_neg (by omega), if_pos (by omega)]

theorem rising_above (t : Tab α) (i : Nat) (lo : Option Nat) (h : rising lo t = true) : rising (some i) (above i t) = true := by
  induction t generalizing lo with
  | nil => rfl
  | cons p t ih =>
    obtain ⟨k, v⟩ := p
    have h2 : rising (some k) t = true := by
      cases lo with
      | none => exact h
      | some j => simp only [rising, Bool.and_eq_true] at h; exact h.2
    simp only [above]
    split
    · exact ih _ h2
    · simp only [rising, Bool.and_eq_true, decide_eq_true_eq]; exact ⟨by omega, h2⟩

theorem rising_weaken (t : Tab α) (i j : Nat) (h : rising (some j) t = true) (hij : i ≤ j) : rising (some i) t = true := by
  cases t with
  | nil => rfl
  | cons p t =>
    obtain ⟨k, v⟩ := p
    simp only [rising, Bool.and_eq_true, decide_eq_true_eq] at h ⊢
    exact ⟨by omega, h.2⟩

theorem above_of_rising (t : Tab α) (i : Nat) (h : rising (some i) t = true) : above i t = t := by
  cases t with
  | nil => rfl
  | cons p t =>
    obtain ⟨k, v⟩ := p
    simp only [rising, Bool.and_eq_true, decide_eq_true_eq] at h
    simp only [above]; rw [if_neg (by omega)]

/-- The pairs above a key do not name it. -/
theorem get_above_self (d : α) (t : Tab α) (i j : Nat) (h : j ≤ i) : get d (above i t) j = d := by
  induction t with
  | nil => rfl
  | cons p t ih =>
    obtain ⟨k, v⟩ := p
    simp only [above]
    split
    · exact ih
    · simp only [get]; rw [if_neg (by omega), if_pos (by omega)]

variable [DecidableEq α]

/-- A key reads as it was written. -/
theorem get_put_same (d : α) (t : Tab α) (i : Nat) (x : α) : get d (put d t i x) i = x := by
  induction t with
  | nil => simp only [put]; split <;> simp [get, *]
  | cons p t ih =>
    obtain ⟨k, v⟩ := p
    simp only [put]
    split
    · subst_vars
      split
      · subst_vars; exact get_above_self _ _ _ _ (Nat.le_refl _)
      · simp [get]
    · split
      · split
        · subst_vars; simp [get, *]
        · simp [get]
      · rename_i h1 h3; simp only [get]; rw [if_neg h1, if_neg h3]; exact ih

/-- Every other key reads as before. -/
theorem get_put_ne (d : α) (t : Tab α) (i j : Nat) (x : α) (hj : j ≠ i) : get d (put d t i x) j = get d t j := by
  induction t with
  | nil =>
    simp only [put]
    split
    · rfl
    · simp only [get, hj, ↓reduceIte]; split <;> rfl
  | cons p t ih =>
    obtain ⟨k, v⟩ := p
    simp only [put]
    split
    · subst_vars
      split
      · simp only [get, hj, ↓reduceIte]
        split
        · exact get_above_self _ _ _ _ (by omega)
        · exact get_above _ _ _ _ (by omega)
      · simp [get, hj]
    · split
      · split
        · rfl
        · simp only [get, hj, ↓reduceIte]
          split
          · rw [if_neg (by omega), if_pos (by omega)]
          · rfl
      · simp only [get, ih]

/-- Keys above a bound rise, whatever is written at a key above it. -/
theorem rising_put (d : α) (t : Tab α) (i : Nat) (x : α) (lo : Option Nat) (h : rising lo t = true) (hi : ∀ j, lo = some j → j < i) :
    rising lo (put d t i x) = true := by
  induction t generalizing lo with
  | nil =>
    simp only [put]
    split
    · exact h
    · cases lo with
      | none => rfl
      | some j => simp [rising, hi j rfl]
  | cons p t ih =>
    obtain ⟨k, v⟩ := p
    have h2 : rising (some k) t = true := by
      cases lo with
      | none => exact h
      | some j => simp only [rising, Bool.and_eq_true] at h; exact h.2
    have hk : ∀ j, lo = some j → j < k := by
      intro j hj; subst hj; simp only [rising, Bool.and_eq_true, decide_eq_true_eq] at h; exact h.1
    have cons_ok : ∀ (m : Nat) (y : α) (u : Tab α), (∀ j, lo = some j → j < m) → rising (some m) u = true → rising lo ((m, y) :: u) = true := by
      intro m y u hm hu
      cases lo with
      | none => exact hu
      | some j => simp only [rising, Bool.and_eq_true, decide_eq_true_eq]; exact ⟨hm j rfl, hu⟩
    simp only [put]
    split
    · subst_vars
      split
      · rw [above_of_rising _ _ h2]
        cases lo with
        | none =>
          cases t with
          | nil => rfl
          | cons q t => obtain ⟨m, w⟩ := q; simp only [rising, Bool.and_eq_true] at h2 ⊢; exact h2.2
        | some j => exact rising_weaken _ _ _ h2 (Nat.le_of_lt (hk j rfl))
      · exact cons_ok _ _ _ hk h2
    · split
      · split
        · exact h
        · refine cons_ok _ _ _ hi ?_
          simp only [rising, Bool.and_eq_true, decide_eq_true_eq]; exact ⟨by assumption, h2⟩
      · refine cons_ok _ _ _ hk (ih _ h2 ?_)
        intro j hj; cases hj; omega

omit [DecidableEq α] in
theorem all_above (t : Tab α) (i : Nat) (q : Nat × α → Bool) (h : t.all q = true) : (above i t).all q = true := by
  induction t with
  | nil => rfl
  | cons p t ih =>
    obtain ⟨k, v⟩ := p
    simp only [List.all_cons, Bool.and_eq_true] at h
    simp only [above]
    split
    · exact ih h.2
    · simp only [List.all_cons, Bool.and_eq_true]; exact h

/-- A write keeps the canonical form. -/
theorem wf_put (d : α) (t : Tab α) (i : Nat) (x : α) (h : wf d t = true) : wf d (put d t i x) = true := by
  simp only [wf, Bool.and_eq_true] at h ⊢
  refine ⟨rising_put d t i x none h.1 (by intro j hj; cases hj), ?_⟩
  have hall := h.2
  clear h
  induction t with
  | nil => simp only [put]; split <;> simp [*]
  | cons p t ih =>
    obtain ⟨k, v⟩ := p
    simp only [List.all_cons, Bool.and_eq_true] at hall
    simp only [put]
    split
    · split
      · exact all_above _ _ _ hall.2
      · simp only [List.all_cons, Bool.and_eq_true]; exact ⟨by simp [*], hall.2⟩
    · split
      · split
        · simp only [List.all_cons, Bool.and_eq_true]; exact hall
        · simp only [List.all_cons, Bool.and_eq_true]; exact ⟨by simp [*], hall⟩
      · simp only [List.all_cons, Bool.and_eq_true]; exact ⟨hall.1, ih hall.2⟩

omit [DecidableEq α] in
theorem rising_filter (t : Tab α) (q : Nat × α → Bool) (lo : Option Nat) (h : rising lo t = true) : rising lo (t.filter q) = true := by
  induction t generalizing lo with
  | nil => exact h
  | cons p t ih =>
    obtain ⟨k, v⟩ := p
    have h2 : rising (some k) t = true := by
      cases lo with
      | none => exact h
      | some j => simp only [rising, Bool.and_eq_true] at h; exact h.2
    simp only [List.filter_cons]
    split
    · cases lo with
      | none => exact ih _ h2
      | some j =>
        simp only [rising, Bool.and_eq_true, decide_eq_true_eq] at h ⊢
        exact ⟨h.1, ih _ h2⟩
    · cases lo with
      | none =>
        have := ih _ h2
        generalize t.filter q = u at this
        cases u with
        | nil => rfl
        | cons r u => obtain ⟨m, w⟩ := r; simp only [rising, Bool.and_eq_true] at this ⊢; exact this.2
      | some j =>
        simp only [rising, Bool.and_eq_true, decide_eq_true_eq] at h
        exact rising_weaken _ _ _ (ih _ h2) (Nat.le_of_lt h.1)

/-- Clearing a range of keys keeps the canonical form. -/
theorem wf_clearRange (d : α) (t : Tab α) (lo hi : Nat) (h : wf d t = true) : wf d (clearRange t lo hi) = true := by
  simp only [wf, Bool.and_eq_true] at h ⊢
  refine ⟨rising_filter _ _ _ h.1, ?_⟩
  simp only [clearRange, List.all_eq_true, List.mem_filter] at h ⊢
  intro p hp; exact h.2 p hp.1

end Tab

namespace Mem

/-- A byte reads as it was written. -/
theorem byte_setByte_same (m : Mem) (a : Nat) (b : Byte) : (m.setByte a b).byte a = b := Tab.get_put_same 0 m a b

/-- Every other byte reads as before. -/
theorem byte_setByte_ne (m : Mem) (a c : Nat) (b : Byte) (hc : c ≠ a) : (m.setByte a b).byte c = m.byte c := Tab.get_put_ne 0 m a c b hc

/-- Writing one byte keeps the canonical form. -/
theorem wf_setByte (m : Mem) (a : Nat) (b : Byte) (h : m.wf = true) : (m.setByte a b).wf = true := Tab.wf_put 0 m a b h

/-- Writing bytes keeps the canonical form. -/
theorem wf_write (m : Mem) (a : Nat) (l : List Byte) (h : m.wf = true) : (m.write a l).wf = true := by
  induction l generalizing m a with
  | nil => exact h
  | cons b bs ih => exact ih _ _ (wf_setByte m a b h)

/-- Clearing a range keeps the canonical form. -/
theorem wf_zero (m : Mem) (a n : Nat) (h : m.wf = true) : (m.zero a n).wf = true := by
  simp only [zero]
  split
  · exact h
  · exact Tab.wf_clearRange 0 m _ _ h

/-- Bytes outside the range written read as before. -/
theorem byte_write_outside (m : Mem) (a c : Nat) (l : List Byte) (hc : c < a ∨ a + l.length ≤ c) :
    (m.write a l).byte c = m.byte c := by
  induction l generalizing m a with
  | nil => rfl
  | cons b bs ih =>
    simp only [List.length_cons] at hc
    simp only [write]
    rw [ih _ _ (by omega), byte_setByte_ne m a c b (by omega)]

/-- The bytes written read back. -/
theorem bytes_write (m : Mem) (a : Nat) (l : List Byte) : (m.write a l).bytes a l.length = l := by
  induction l generalizing m a with
  | nil => rfl
  | cons b bs ih =>
    simp only [write, List.length_cons, bytes]
    rw [ih _ _, byte_write_outside _ _ _ _ (by omega), byte_setByte_same m a b]

/-- The empty memory has the canonical form. -/
theorem wf_nil : Mem.wf [] = true := rfl

end Mem

end Sys2Proof.Machine
end

