-- ==== Sys2Proof/Laws/Regs.lean ====
section
/-!
SUPPORT. Laws of the register file: a register reads as it was written, every other register as before, and fields likewise.
-/
namespace Sys2Proof.Machine

/-- A field of a number is below its width's power of two. -/
theorem bits_lt (n hi lo : Nat) : bits n hi lo < 2 ^ (hi + 1 - lo) := Nat.mod_lt _ (Nat.two_pow_pos _)

theorem bit_eq_testBit (n i : Nat) : bit n i = n.testBit i := by
  simp only [bit, Nat.testBit, Nat.shiftRight_eq_div_pow, Nat.one_and_eq_mod_two]
  rcases Nat.mod_two_eq_zero_or_one (n / 2 ^ i) with h | h <;> simp [h]

namespace State

@[simp] theorem reg_setReg_same (s : State) (off : Nat) (v : W32) : (s.setReg off v).reg off = v := by
  simp [reg, setReg, Tab.find?_set_same]

theorem reg_setReg_ne (s : State) (off o : Nat) (v : W32) (h : o ≠ off) : (s.setReg off v).reg o = s.reg o := by
  simp [reg, setReg, Tab.find?_set_ne _ _ _ _ h]

@[simp] theorem rd_wr_same (s : State) (off v : Nat) : (s.wr off v).rd off = v % 2 ^ 32 := by simp [rd, wr]

theorem rd_wr_ne (s : State) (off o v : Nat) (h : o ≠ off) : (s.wr off v).rd o = s.rd o := by simp [rd, wr, reg_setReg_ne _ _ _ _ h]

theorem rd_lt (s : State) (off : Nat) : s.rd off < 2 ^ 32 := (s.reg off).isLt

theorem rd_setFld_ne (s : State) (off hi lo v o : Nat) (h : o ≠ off) : (s.setFld off hi lo v).rd o = s.rd o := rd_wr_ne _ _ _ _ h

theorem fld_setFld_ne (s : State) (off hi lo v o h l : Nat) (hne : o ≠ off) : (s.setFld off hi lo v).fld o h l = s.fld o h l := by
  simp [fld, rd_setFld_ne _ _ _ _ _ _ hne]

theorem fld_wr_ne (s : State) (off v o h l : Nat) (hne : o ≠ off) : (s.wr off v).fld o h l = s.fld o h l := by
  simp [fld, rd_wr_ne _ _ _ _ hne]

@[simp] theorem fld_wr_same (s : State) (off v h l : Nat) : (s.wr off v).fld off h l = bits (v % 2 ^ 32) h l := by simp [fld]

end State

/-- A number with a field written, as its parts above the field, the field, and below it. -/
theorem withBits_eq (n hi lo v : Nat) :
    withBits n hi lo v = (n / 2 ^ lo / 2 ^ (hi + 1 - lo) * 2 ^ (hi + 1 - lo) + v % 2 ^ (hi + 1 - lo)) * 2 ^ lo + n % 2 ^ lo := by
  simp only [withBits, bits, Nat.shiftRight_eq_div_pow]
  generalize hw : 2 ^ (hi + 1 - lo) = w
  generalize hp : 2 ^ lo = p
  have h1 := Nat.div_add_mod n p
  have h2 := Nat.div_add_mod (n / p) w
  have e1 : n / p * p + n % p = n := by rw [Nat.mul_comm]; exact h1
  have e2 : n / p / w * w + n / p % w = n / p := by rw [Nat.mul_comm]; exact h2
  have e3 : n = (n / p / w * w + n / p % w) * p + n % p := by rw [e2]; exact e1.symm
  have e4 : n = n / p / w * w * p + n / p % w * p + n % p := by rw [← Nat.add_mul]; exact e3
  rw [Nat.add_mul]
  generalize n / p / w * w * p = x at e4 ⊢
  generalize v % w * p = y
  generalize n / p % w * p = z at e4 ⊢
  generalize n % p = r at e4 ⊢
  omega

/-- The field written reads back. -/
theorem bits_withBits_same (n hi lo v : Nat) : bits (withBits n hi lo v) hi lo = v % 2 ^ (hi + 1 - lo) := by
  rw [withBits_eq]
  simp only [bits, Nat.shiftRight_eq_div_pow]
  rw [Nat.mul_comm _ (2 ^ lo), Nat.mul_add_div (Nat.two_pow_pos lo), Nat.div_eq_of_lt (Nat.mod_lt _ (Nat.two_pow_pos lo)), Nat.add_zero,
    Nat.mul_comm _ (2 ^ (hi + 1 - lo)), Nat.mul_add_mod, Nat.mod_mod]

/-- A field below the one written reads as before. -/
theorem bits_withBits_below (n hi lo v h l : Nat) (hh : h < lo) : bits (withBits n hi lo v) h l = bits n h l := by
  by_cases hl : l ≤ h
  · have key : ∀ a b : Nat, b < 2 ^ lo → bits (a * 2 ^ lo + b) h l = bits b h l := by
      intro a b hb
      simp only [bits, Nat.shiftRight_eq_div_pow]
      have e : 2 ^ lo = 2 ^ (h + 1 - l) * 2 ^ (lo - (h + 1)) * 2 ^ l := by rw [← Nat.pow_add, ← Nat.pow_add]; congr 1; omega
      rw [e, ← Nat.mul_assoc, Nat.mul_comm _ (2 ^ l), Nat.mul_add_div (Nat.two_pow_pos l), ← Nat.mul_assoc, Nat.mul_comm a, Nat.mul_assoc,
        Nat.mul_add_mod]
    rw [withBits_eq, key _ _ (Nat.mod_lt _ (Nat.two_pow_pos lo))]
    conv => rhs; rw [← Nat.div_add_mod n (2 ^ lo), Nat.mul_comm]
    rw [key _ _ (Nat.mod_lt _ (Nat.two_pow_pos lo))]
  · simp only [bits]
    rw [show h + 1 - l = 0 by omega]; simp [Nat.mod_one]

/-- A field above the one written reads as before. -/
theorem bits_withBits_above (n hi lo v h l : Nat) (hl : hi < l) (hlo : lo ≤ hi) : bits (withBits n hi lo v) h l = bits n h l := by
  have key : ∀ a b c : Nat, b < 2 ^ (hi + 1 - lo) → c < 2 ^ lo →
      ((a * 2 ^ (hi + 1 - lo) + b) * 2 ^ lo + c) / 2 ^ l = a / 2 ^ (l - (hi + 1)) := by
    intro a b c hb hc
    have e : 2 ^ l = 2 ^ lo * (2 ^ (hi + 1 - lo) * 2 ^ (l - (hi + 1))) := by rw [← Nat.pow_add, ← Nat.pow_add]; congr 1; omega
    rw [e, ← Nat.div_div_eq_div_mul, ← Nat.div_div_eq_div_mul]
    rw [Nat.mul_comm _ (2 ^ lo), Nat.mul_add_div (Nat.two_pow_pos lo), Nat.div_eq_of_lt hc, Nat.add_zero, Nat.mul_comm a,
      Nat.mul_add_div (Nat.two_pow_pos _), Nat.div_eq_of_lt hb, Nat.add_zero]
  have hn : n = (n / 2 ^ lo / 2 ^ (hi + 1 - lo) * 2 ^ (hi + 1 - lo) + n / 2 ^ lo % 2 ^ (hi + 1 - lo)) * 2 ^ lo + n % 2 ^ lo := by
    rw [Nat.mul_comm (n / 2 ^ lo / 2 ^ (hi + 1 - lo)), Nat.div_add_mod, Nat.mul_comm, Nat.div_add_mod]
  have m1 := Nat.mod_lt n (Nat.two_pow_pos lo)
  simp only [bits, Nat.shiftRight_eq_div_pow]
  rw [withBits_eq, key _ _ _ (Nat.mod_lt _ (Nat.two_pow_pos _)) m1]
  conv => rhs; rw [hn, key _ _ _ (Nat.mod_lt _ (Nat.two_pow_pos _)) m1]

/-- A field written within 32 bits leaves a number of 32 bits. -/
theorem withBits_lt (n hi lo v : Nat) (hn : n < 2 ^ 32) (hlo : lo ≤ hi) (hh : hi < 32) : withBits n hi lo v < 2 ^ 32 := by
  have h0 : n / 2 ^ lo / 2 ^ (hi + 1 - lo) < 2 ^ (31 - hi) := by
    rw [Nat.div_div_eq_div_mul, ← Nat.pow_add]
    apply Nat.div_lt_of_lt_mul
    rw [← Nat.pow_add]
    refine Nat.lt_of_lt_of_le hn (Nat.pow_le_pow_right (by decide) (by omega))
  rw [withBits_eq]
  have h1 : v % 2 ^ (hi + 1 - lo) < 2 ^ (hi + 1 - lo) := Nat.mod_lt _ (Nat.two_pow_pos _)
  have h2 : n % 2 ^ lo < 2 ^ lo := Nat.mod_lt _ (Nat.two_pow_pos _)
  generalize v % 2 ^ (hi + 1 - lo) = b at h1 ⊢
  generalize n % 2 ^ lo = c at h2 ⊢
  generalize n / 2 ^ lo / 2 ^ (hi + 1 - lo) = a at h0 ⊢
  have e : 2 ^ 32 = 2 ^ (31 - hi) * 2 ^ (hi + 1 - lo) * 2 ^ lo := by rw [← Nat.pow_add, ← Nat.pow_add]; congr 1; omega
  rw [e]
  calc (a * 2 ^ (hi + 1 - lo) + b) * 2 ^ lo + c < (a * 2 ^ (hi + 1 - lo) + b) * 2 ^ lo + 2 ^ lo := by omega
    _ = (a * 2 ^ (hi + 1 - lo) + b + 1) * 2 ^ lo := by rw [Nat.add_mul _ 1, Nat.one_mul]
    _ ≤ ((a + 1) * 2 ^ (hi + 1 - lo)) * 2 ^ lo := by
        apply Nat.mul_le_mul_right
        rw [Nat.add_mul a 1, Nat.one_mul]; omega
    _ ≤ 2 ^ (31 - hi) * 2 ^ (hi + 1 - lo) * 2 ^ lo := by
        apply Nat.mul_le_mul_right; apply Nat.mul_le_mul_right; omega

namespace State

theorem rd_setFld_same (s : State) (off hi lo v : Nat) (hlo : lo ≤ hi) (hh : hi < 32) :
    (s.setFld off hi lo v).rd off = withBits (s.rd off) hi lo v := by
  simp only [setFld, rd_wr_same]
  exact Nat.mod_eq_of_lt (withBits_lt _ _ _ _ (s.rd_lt off) hlo hh)

/-- A field reads as it was written. -/
theorem fld_setFld_same (s : State) (off hi lo v : Nat) (hlo : lo ≤ hi) (hh : hi < 32) :
    (s.setFld off hi lo v).fld off hi lo = v % 2 ^ (hi + 1 - lo) := by
  simp only [fld, rd_setFld_same _ _ _ _ _ hlo hh, bits_withBits_same]

/-- A field of the same register, apart from the one written, reads as before. -/
theorem fld_setFld_other (s : State) (off hi lo v h l : Nat) (hlo : lo ≤ hi) (hh : hi < 32) (hd : h < lo ∨ hi < l) :
    (s.setFld off hi lo v).fld off h l = s.fld off h l := by
  simp only [fld, rd_setFld_same _ _ _ _ _ hlo hh]
  rcases hd with hd | hd
  · exact bits_withBits_below _ _ _ _ _ _ hd
  · exact bits_withBits_above _ _ _ _ _ _ hd hlo

end State

end Sys2Proof.Machine
end

