-- ==== Sys2Proof/Laws/Run.lean ====
section
/-!
SUPPORT. What the ways in which commands take effect come to where the command owes nothing.
-/
namespace Sys2Proof.Machine

namespace State

theorem settle_nil (s : State) (h : s.due = []) : s.settle = s := by
  show settleAll (65535 + 1) s = s
  rw [settleAll, h]

theorem clear_due (s : State) (h : s.due = []) : ({ s with due := [] } : State) = s := by
  cases s; simp_all

/-- A command takes effect as `f` does, where `f` owes nothing and leaves the part and the queue. -/
theorem run_eq (s : State) (f : State → State) (hs : s.due = []) (hd : (f s).due = []) (hp : (f s).part = s.part)
    (hq : (f s).pending = s.pending) : s.run f = .next (f s) := by
  simp only [run, clear_due s hs, settle_nil _ hd]
  congr 1
  generalize f s = t at *
  cases t; simp_all

theorem plainly_eq (s : State) (f : State → State) (hd : (f s).due = []) (he : (f s).enclave = s.enclave) : plainly f s = f s := by
  simp only [plainly, settle_nil _ hd, keepLife]
  generalize f s = t at *
  cases t; simp only at he; simp only [he]

theorem onDie_eq (s : State) (f : State → State) (hv : s.power.vmainGood = true) (hd : (f s).due = []) (hm : (f s).mgmt = s.mgmt)
    (ht : (f s).test = s.test) : onDie f s = f s := by
  simp only [onDie, hv, ↓reduceIte, settle_nil _ hd]
  generalize f s = t at *
  cases t; simp_all

theorem onCore_eq (s : State) (f : State → State) (hd : (f s).due = []) (hl : (f s).leg = s.leg) (hw : (f s).power = s.power)
    (he : (f s).enclave = s.enclave) : onCore f s = f s := by
  simp only [onCore, settle_nil _ hd]
  generalize f s = t at *
  cases t; simp_all

theorem runPlain_eq (s : State) (f : State → State) (hs : s.due = []) (hd : (f s).due = []) (hp : (f s).part = s.part)
    (hq : (f s).pending = s.pending) (he : (f s).enclave = s.enclave) : s.runPlain f = .next (f s) := by
  have e := plainly_eq s f hd he
  rw [runPlain, run_eq s _ hs (by rw [e]; exact hd) (by rw [e]; exact hp) (by rw [e]; exact hq), e]

theorem runDie_eq (s : State) (f : State → State) (hs : s.ready) (hd : (f s).due = []) (hp : (f s).part = s.part)
    (hq : (f s).pending = s.pending) (he : (f s).enclave = s.enclave) (hm : (f s).mgmt = s.mgmt) (ht : (f s).test = s.test) :
    s.runDie f = .next (f s) := by
  have e := onDie_eq s f hs.1 hd hm ht
  rw [runDie, runPlain_eq s _ hs.2 (by rw [e]; exact hd) (by rw [e]; exact hp) (by rw [e]; exact hq) (by rw [e]; exact he), e]

theorem runCore_eq (s : State) (f : State → State) (hs : s.ready) (hd : (f s).due = []) (hp : (f s).part = s.part)
    (hq : (f s).pending = s.pending) (he : (f s).enclave = s.enclave) (hm : (f s).mgmt = s.mgmt) (ht : (f s).test = s.test)
    (hl : (f s).leg = s.leg) (hw : (f s).power = s.power) : s.runCore f = .next (f s) := by
  have e := onCore_eq s f hd hl hw he
  rw [runCore, runDie_eq s _ hs (by rw [e]; exact hd) (by rw [e]; exact hp) (by rw [e]; exact hq) (by rw [e]; exact he)
    (by rw [e]; exact hm) (by rw [e]; exact ht), e]

/-- Settling leaves nothing owed. -/
theorem settle_due (s : State) : s.settle.due = [] := by
  have all : ∀ n (s : State), (settleAll n s).due = [] := by
    intro n
    induction n with
    | zero => intro s; rfl
    | succ n ih =>
      intro s
      simp only [settleAll]
      split
      · assumption
      · exact ih _
  exact all 65536 s

/-- Settling twice is settling once. -/
theorem settle_settle (s : State) : s.settle.settle = s.settle := settle_nil _ (settle_due s)

/-- What any command comes to: its effect settled, with the part and the queue as they were. -/
theorem run_next (s : State) (f : State → State) (hs : s.due = []) :
    s.run f = .next { (f s).settle with part := s.part, pending := s.pending, due := [] } := by
  simp only [run, clear_due s hs]

/-- What a command outside the core die comes to. -/
theorem runPlain_next (s : State) (f : State → State) (hs : s.due = []) :
    s.runPlain f = .next { s.keepLife (f s).settle with part := s.part, pending := s.pending, due := [] } := by
  have e : (s.keepLife (f s).settle).settle = s.keepLife (f s).settle := settle_nil _ (settle_due (f s))
  rw [runPlain, run_next s _ hs]
  simp only [plainly, e]

/-- What a command of the core die comes to. -/
theorem runDie_next (s : State) (f : State → State) (hs : s.ready) :
    s.runDie f = .next { s.keepLife { (f s).settle with mgmt := s.mgmt, test := s.test } with
      part := s.part, pending := s.pending, due := [] } := by
  have e : ({ (f s).settle with mgmt := s.mgmt, test := s.test } : State).settle = { (f s).settle with mgmt := s.mgmt, test := s.test } :=
    settle_nil _ (settle_due (f s))
  rw [runDie, runPlain_next s _ hs.2]
  simp only [onDie, hs.1, ↓reduceIte, e]

/-- Without the core die's power a command of the die changes nothing. -/
theorem runDie_off (s : State) (f : State → State) (hs : s.due = []) (hv : s.power.vmainGood = false) : s.runDie f = .next s := by
  have e : onDie f s = s := by simp [onDie, hv]
  rw [runDie, runPlain_eq s _ hs (by rw [e]; exact hs) (by rw [e]) (by rw [e]) (by rw [e]), e]

end State

end Sys2Proof.Machine
end

