-- ==== Sys2Proof/Laws/Issue.lean ====
section
/-!
SUPPORT. What issuing a tile instruction comes to, by what its body answers.
-/
namespace Sys2Proof.Machine

/-- What a command of one core leaves besides: the fields on which the ways of taking effect depend. -/
structure Within (s t : State) : Prop where
  due : t.due = []
  part : t.part = s.part
  pending : t.pending = s.pending
  enclave : t.enclave = s.enclave
  mgmt : t.mgmt = s.mgmt
  test : t.test = s.test
  leg : t.leg = s.leg
  power : t.power = s.power

namespace State

@[simp] theorem core_updCore_same (s : State) (c : Nat) (f : Core → Core) : (s.updCore c f).core c = f (s.core c) := by
  simp [core, updCore, Tab.find?_set_same]

theorem core_updCore_ne (s : State) (c d : Nat) (f : Core → Core) (h : d ≠ c) : (s.updCore c f).core d = s.core d := by
  simp [core, updCore, Tab.find?_set_ne _ _ _ _ h]

/-- Of two changes of one core the second is made to what the first left. -/
theorem updCore_updCore (s : State) (c : Nat) (f g : Core → Core) : (s.updCore c f).updCore c g = s.updCore c (fun k => g (f k)) := by
  have e : (s.updCore c f).core c = f (s.core c) := core_updCore_same s c f
  show { s with cores := Tab.set (Tab.set s.cores c (f (s.core c))) c (g ((s.updCore c f).core c)) } = _
  rw [Tab.set_set, e]; rfl

@[simp] theorem rd_updCore (s : State) (c : Nat) (f : Core → Core) (off : Nat) : (s.updCore c f).rd off = s.rd off := rfl
@[simp] theorem fld_updCore (s : State) (c : Nat) (f : Core → Core) (off h l : Nat) : (s.updCore c f).fld off h l = s.fld off h l := rfl
@[simp] theorem activeSlot_updCore (s : State) (c d : Nat) (f : Core → Core) : (s.updCore c f).activeSlot d = s.activeSlot d := rfl

theorem runCore_within (s : State) (f : State → State) (hs : s.ready) (h : Within s (f s)) : s.runCore f = .next (f s) :=
  runCore_eq s f hs h.due h.part h.pending h.enclave h.mgmt h.test h.leg h.power

theorem word_op (op : Nat) (low : BitVec 56) : wordOf op low / 2 ^ 56 = op := by
  unfold wordOf
  rw [Nat.mul_comm, Nat.mul_add_div (by decide), Nat.div_eq_of_lt low.isLt, Nat.add_zero]

/-- An issue that passes every test comes to what its body answers. -/
theorem issue_eq (op : Nat) (res : Nat → Bool) (body : Nat → Nat → State → Res) (core : BitVec 10) (low : BitVec 56) (s : State)
    (h : s.Issues op core low) (hop : opListed op = true) (hr : res (wordOf op low) = false) (hp : s.predicated op core low) :
    issue op res body core low s = s.conclude core.toNat (s.core core.toNat).pc (body core.toNat (wordOf op low) s) := by
  have hw := h.word
  unfold issue
  have e : op * 2 ^ 56 + low.toNat = wordOf op low := rfl
  simp only [e]
  rw [if_neg (by simp [h.running, h.inTile]), hw, word_op, hop, if_neg (by simp), if_neg (by simp), hr, if_neg (by simp)]
  rw [if_neg]
  intro hc
  exact hp (by simpa using hc)

theorem issue_reserved (op : Nat) (res : Nat → Bool) (body : Nat → Nat → State → Res) (core : BitVec 10) (low : BitVec 56) (s : State)
    (h : s.Issues op core low) (hop : opListed op = true) (hr : res (wordOf op low) = true) :
    issue op res body core low s = s.coreFault core.toNat (s.activeSlot core.toNat) 0x01 (s.core core.toNat).pc := by
  have hw := h.word
  unfold issue
  have e : op * 2 ^ 56 + low.toNat = wordOf op low := rfl
  simp only [e]
  rw [if_neg (by simp [h.running, h.inTile]), hw, word_op, hop, if_neg (by simp), if_neg (by simp), hr, if_pos rfl]

theorem issue_off (op : Nat) (res : Nat → Bool) (body : Nat → Nat → State → Res) (core : BitVec 10) (low : BitVec 56) (s : State)
    (h : s.Issues op core low) (hop : opListed op = true) (hr : res (wordOf op low) = false) (hp : ¬ s.predicated op core low) :
    issue op res body core low s = s.goOn core.toNat (s.core core.toNat).pc := by
  have hw := h.word
  unfold issue
  have e : op * 2 ^ 56 + low.toNat = wordOf op low := rfl
  simp only [e]
  rw [if_neg (by simp [h.running, h.inTile]), hw, word_op, hop, if_neg (by simp), if_neg (by simp), hr, if_neg (by simp)]
  rw [if_pos]
  have : (s.core core.toNat).p (iPred (wordOf op low)) = iNeg (wordOf op low) := by
    unfold predicated at hp; exact Classical.not_not.mp hp
  simp [this]

theorem goOn_eq (s : State) (c : Nat) (h : s.goesOn c) : s.goOn c (s.core c).pc = s.past c := by
  have e : s.goOn c (s.core c).pc = s.setPc c (afterPc (s.core c).loops (s.core c).pc).1 (afterPc (s.core c).loops (s.core c).pc).2 := rfl
  rw [e]
  unfold setPc goesOn at *
  rw [if_neg (by omega)]
  simp only [past, updCore]

/-- An instruction whose body completes goes on to the next one. -/
theorem exec_done (op : Nat) (res : Nat → Bool) (body : Nat → Nat → State → Res) (core : BitVec 10) (low : BitVec 56) (s t : State)
    (h : s.Executes op core low) (hop : opListed op = true) (hr : res (wordOf op low) = false)
    (hb : body core.toNat (wordOf op low) s = .done t) (hw : Within s t)
    (hpc : (t.core core.toNat).pc = (s.core core.toNat).pc) (hl : (t.core core.toNat).loops = (s.core core.toNat).loops) :
    s.runCore (issue op res body core low) = .next (t.past core.toNat) := by
  have e : issue op res body core low s = t.past core.toNat := by
    rw [issue_eq op res body core low s h.issues hop hr h.holds, hb]
    show t.goOn core.toNat (s.core core.toNat).pc = _
    rw [← hpc]
    apply goOn_eq
    unfold goesOn
    rw [hpc, hl]; exact h.next
  rw [runCore_within s _ h.issues.ready (by rw [e]; exact ⟨hw.due, hw.part, hw.pending, hw.enclave, hw.mgmt, hw.test, hw.leg, hw.power⟩), e]

/-- An instruction that executes comes to what its body's outcome makes of the state. -/
theorem conclude_state (op : Nat) (res : Nat → Bool) (body : Nat → Nat → State → Res) (core : BitVec 10) (low : BitVec 56) (s : State) (r : Res)
    (h : s.Issues op core low) (hop : opListed op = true) (hr : res (wordOf op low) = false) (hp : s.predicated op core low)
    (hb : body core.toNat (wordOf op low) s = r) (u : State) (hc : s.conclude core.toNat (s.core core.toNat).pc r = u) (hw : Within s u) :
    s.runCore (issue op res body core low) = .next u := by
  have e : issue op res body core low s = u := by rw [issue_eq op res body core low s h hop hr hp, hb, hc]
  rw [runCore_within s _ h.ready (by rw [e]; exact hw), e]

/-- An instruction whose body faults is the core fault. -/
theorem fault_eq (op : Nat) (res : Nat → Bool) (body : Nat → Nat → State → Res) (core : BitVec 10) (low : BitVec 56) (s : State) (code d : Nat)
    (h : s.Issues op core low) (hop : opListed op = true) (hr : res (wordOf op low) = false) (hp : s.predicated op core low)
    (hb : body core.toNat (wordOf op low) s = .fault code d) :
    s.runCore (issue op res body core low) = s.runCore (fun s => s.coreFault core.toNat (s.activeSlot core.toNat) code (s.core core.toNat).pc
      (if code = 0x0A then [d] else [])) := by
  have e : issue op res body core low s = s.coreFault core.toNat (s.activeSlot core.toNat) code (s.core core.toNat).pc
      (if code = 0x0A then [d] else []) := by rw [issue_eq op res body core low s h hop hr hp, hb]; rfl
  have hs := h.ready.2
  simp only [runCore, runDie, runPlain, run, clear_due s hs, plainly, onDie, onCore, e]

/-- An instruction that waits changes nothing. -/
theorem wait_eq (op : Nat) (res : Nat → Bool) (body : Nat → Nat → State → Res) (core : BitVec 10) (low : BitVec 56) (s : State)
    (h : s.Issues op core low) (hop : opListed op = true) (hr : res (wordOf op low) = false) (hp : s.predicated op core low)
    (hb : body core.toNat (wordOf op low) s = .wait) :
    s.runCore (issue op res body core low) = .next s :=
  conclude_state op res body core low s .wait h hop hr hp hb s rfl ⟨h.ready.2,rfl,rfl,rfl,rfl,rfl,rfl,rfl⟩

/-- A state whose cores alone differ is within what a command of one core reaches. -/
theorem within_cores (s : State) (l : Tab Core) (h : s.due = []) : Within s { s with cores := l } := ⟨h, rfl, rfl, rfl, rfl, rfl, rfl, rfl⟩

end State

end Sys2Proof.Machine
end

