-- ==== Sys2Proof/Laws/Outbox.lean ====
section
/-!
SUPPORT. Telling the host anything changes nothing but what telling changes: for each operation of Machine/Outbox.lean that the two
states differ as `Told` says.
-/
namespace Sys2Proof.Machine

theorem Told.refl (s : State) : Told s s := ⟨rfl, rfl, rfl, rfl, rfl, rfl, rfl, rfl, rfl, rfl, rfl, rfl, rfl, rfl, rfl, rfl, rfl, rfl, rfl, fun _ _ => rfl⟩

theorem Told.trans {s t u : State} (h : Told s t) (k : Told t u) : Told s u :=
  ⟨k.part.trans h.part, k.snap.trans h.snap, k.posted.trans h.posted, k.leg.trans h.leg, k.serving.trans h.serving, k.tables.trans h.tables,
    k.seams.trans h.seams, k.tier.trans h.tier, k.cause.trans h.cause, k.cores.trans h.cores, k.net.trans h.net, k.expert.trans h.expert,
    k.store.trans h.store, k.power.trans h.power, k.enclave.trans h.enclave, k.mgmt.trans h.mgmt, k.test.trans h.test, k.due.trans h.due,
    k.pending.trans h.pending, fun off ho => (k.regs off ho).trans (h.regs off ho)⟩

namespace State

/-- Only what the host block holds differs. -/
theorem told_host (s : State) (h : HostSt) : Told s { s with host := h } :=
  ⟨rfl, rfl, rfl, rfl, rfl, rfl, rfl, rfl, rfl, rfl, rfl, rfl, rfl, rfl, rfl, rfl, rfl, rfl, rfl, fun _ _ => rfl⟩

theorem told_drawn (s : State) (n : Nat) : Told s (s.drawn n) :=
  ⟨rfl, rfl, rfl, rfl, rfl, rfl, rfl, rfl, rfl, rfl, rfl, rfl, rfl, rfl, rfl, rfl, rfl, rfl, rfl, fun _ _ => rfl⟩

theorem told_setReg (s : State) (off : Nat) (v : W32) (h : tells off = true) : Told s (s.setReg off v) :=
  ⟨rfl, rfl, rfl, rfl, rfl, rfl, rfl, rfl, rfl, rfl, rfl, rfl, rfl, rfl, rfl, rfl, rfl, rfl, rfl, fun o ho =>
    reg_setReg_ne s off o v (fun e => by rw [e, h] at ho; exact Bool.noConfusion ho)⟩

theorem told_wr (s : State) (off v : Nat) (h : tells off = true) : Told s (s.wr off v) := told_setReg s off _ h
theorem told_bump (s : State) (off n : Nat) (h : tells off = true) : Told s (s.bump off n) := told_setReg s off _ h

theorem tells_backlog (p : Nat) (h : p < 32) : tells (Reg.MAILBOX_BACKLOG p) = true := by
  have e : (0x030104 + 16 * p) % 8 = 4 := by omega
  have a : 0x030100 ≤ 0x030104 + 16 * p ∧ 0x030104 + 16 * p < 0x030300 := by omega
  show (_ || _ || _ || _) = true
  simp [e, a.1, a.2]
theorem tells_lost (p : Nat) (h : p < 32) : tells (Reg.MAILBOX_LOST p) = true := by
  have e : (0x03010C + 16 * p) % 8 = 4 := by omega
  have a : 0x030100 ≤ 0x03010C + 16 * p ∧ 0x03010C + 16 * p < 0x030300 := by omega
  show (_ || _ || _ || _) = true
  simp [e, a.1, a.2]

theorem told_updMbox (s : State) (p : Nat) (f : Mbox → Mbox) : Told s (s.updMbox p f) := told_host s _
theorem told_updVector (s : State) (fn v : Nat) (f : MsixVector → MsixVector) : Told s (s.updVector fn v f) := told_host s _
theorem told_sendVector (s : State) (fn v : Nat) : Told s (s.sendVector fn v) := told_host s _

theorem told_raiseVector (s : State) (fn v : Nat) : Told s (s.raiseVector fn v) := by
  unfold raiseVector; split
  · exact told_sendVector s fn v
  · exact told_updVector s fn v _

theorem told_raiseMailVector (s : State) (fn v : Nat) : Told s (s.raiseMailVector fn v) := by
  simp only [raiseMailVector]
  repeat' split
  all_goals first | exact told_raiseVector s fn v | exact told_updVector s fn v _

theorem told_raiseSetVector (s : State) (p : Nat) : Told s (s.raiseSetVector p) := by
  unfold raiseSetVector; split
  · split <;> exact told_raiseMailVector s _ _
  · exact told_raiseMailVector s _ _

theorem told_putRing (s : State) (p : Nat) (msg : List Byte) : Told s (s.putRing p msg) := told_host s _

theorem told_placeRing (s : State) (p : Nat) (msg : List Byte) : Told s (s.placeRing p msg) := by
  simp only [placeRing]
  refine Told.trans ?_ (told_raiseSetVector _ p)
  refine Told.trans ?_ (told_putRing _ p msg)
  split
  · exact Told.refl s
  · exact told_putRing s p _

theorem told_showBacklog (s : State) (p : Nat) (h : p < 32) : Told s (s.showBacklog p) := told_wr s _ _ (tells_backlog p h)

theorem told_drainBacklog (p : Nat) (h : p < 32) (fuel : Nat) : ∀ s : State, Told s (s.drainBacklog p fuel) := by
  induction fuel with
  | zero => intro s; exact told_showBacklog s p h
  | succ n ih =>
    intro s
    simp only [drainBacklog]
    split
    · exact told_showBacklog s p h
    · split
      · exact ((told_placeRing s p _).trans (told_updMbox _ p _)).trans (ih _)
      · exact told_showBacklog s p h

theorem told_place (s : State) (p : Nat) (msg : List Byte) (d : Bool) (h : p < 32) : Told s (s.place p msg d) := by
  simp only [place]
  split
  · exact Told.refl s
  · split
    · exact told_placeRing s p msg
    · split
      · exact (told_updMbox s p _).trans (told_bump _ _ _ (tells_lost p h))
      · exact (told_updMbox s p _).trans (told_showBacklog _ p h)

theorem told_sendHost (s : State) (p type : Nat) (body : List Byte) (d : Bool) (h : p < 32) : Told s (s.sendHost p type body d) :=
  told_place s p _ d h

theorem told_reply (s : State) (p t q r v : Nat) (data : List Byte) (h : p < 32) : Told s (s.reply p t q r v data) :=
  told_sendHost s p _ _ _ h

theorem told_logEntry (s : State) (kind cp code : Nat) (body : List Byte) : Told s (s.logEntry kind cp code body) :=
  (told_host s _).trans (told_bump _ _ _ (by decide))

theorem told_eventLost (s : State) (code source : Nat) : Told s (s.eventLost code source) :=
  (told_host s _).trans (told_bump _ _ _ (by decide))

theorem told_enterRing (s : State) (e : EventRec) : Told s (s.enterRing e) := by
  simp only [enterRing]
  split
  · exact told_eventLost s _ _
  · refine Told.trans ((told_host s { s.host with
      ring := Tab.set s.host.ring (s.rd Reg.EVENT_PROD % 1024) (e, false)
      perLeg := Tab.set s.host.perLeg e.code (Tab.get 0 s.host.perLeg e.code + 1) }).trans (told_bump _ Reg.EVENT_PROD 1 (by decide))) ?_
    split
    · exact told_raiseVector _ 0 32
    · exact Told.refl _

theorem told_tellSet (s : State) (e : EventRec) (h : ∀ p, e.part = some p → p < 32) : Told s (s.tellSet e) := by
  unfold tellSet
  split
  · exact Told.refl s
  · rename_i p hp
    split
    · exact told_sendHost s p _ _ _ (h p hp)
    · exact Told.refl s

/-- An event of a partition that exists, or of none, tells the host and does nothing else. -/
theorem told_event (s : State) (code sev src : Nat) (part : Option Nat) (detail : List Nat) (h : ∀ p, part = some p → p < 32) :
    Told s (s.event code sev src part detail) := by
  simp only [event]
  split
  · exact told_eventLost s code src
  · exact ((((told_host s { s.host with lostCounts := Tab.set s.host.lostCounts (code * 16 + src) 0 }).trans (told_enterRing _ _)).trans
      (told_logEntry _ _ _ _ _)).trans (told_drawn _ _)).trans (told_tellSet _ _ h)

theorem firstFrom_lt (q : Nat → Bool) (n : Nat) : ∀ i j, firstFrom q i n = some j → j < i + n := by
  induction n with
  | zero => intro i j h; exact absurd h (by simp [firstFrom])
  | succ n ih =>
    intro i j h
    simp only [firstFrom] at h
    split at h
    · cases h; omega
    · have := ih (i + 1) j h; omega

/-- The partition of a district is one of the 32. -/
theorem districtOwner_lt (s : State) (d p : Nat) (h : s.districtOwner d = some p) : p < 32 := by
  have := firstFrom_lt _ _ _ _ h; omega

/-- An event of the partition that owns a district. -/
theorem told_district (s u : State) (d code sev src : Nat) (detail : List Nat) : Told s (s.event code sev src (u.districtOwner d) detail) :=
  told_event s code sev src _ detail (fun p h => districtOwner_lt u d p h)

theorem told_none (s : State) (code sev src : Nat) (detail : List Nat) : Told s (s.event code sev src none detail) :=
  told_event s code sev src none detail (fun p h => by cases h)

end State

end Sys2Proof.Machine
end

