-- ==== Sys2Proof/Laws/Net.lean ====
section
/-!
SUPPORT. Handing a message to the Causeway transport changes nothing but what `Talked` names, and enters it in the list of what has been
handed over.
-/
namespace Sys2Proof.Machine

theorem Talked.refl (s : State) : Talked s s := ⟨rfl, rfl, rfl, rfl, rfl, rfl, rfl, rfl, rfl, rfl, rfl, rfl, rfl, rfl, rfl, rfl, rfl, rfl, fun _ _ _ => rfl⟩

theorem Talked.trans {s t u : State} (h : Talked s t) (k : Talked t u) : Talked s u :=
  ⟨k.part.trans h.part, k.snap.trans h.snap, k.posted.trans h.posted, k.leg.trans h.leg, k.serving.trans h.serving, k.tables.trans h.tables,
    k.seams.trans h.seams, k.tier.trans h.tier, k.cores.trans h.cores, k.net.trans h.net, k.expert.trans h.expert,
    k.store.trans h.store, k.power.trans h.power, k.enclave.trans h.enclave, k.mgmt.trans h.mgmt, k.test.trans h.test, k.due.trans h.due,
    k.pending.trans h.pending, fun off h1 h2 => (k.regs off h1 h2).trans (h.regs off h1 h2)⟩

theorem Told.talked {s t : State} (h : Told s t) : Talked s t :=
  ⟨h.part, h.snap, h.posted, h.leg, h.serving, h.tables, h.seams, h.tier, h.cores, h.net, h.expert, h.store, h.power, h.enclave, h.mgmt,
    h.test, h.due, h.pending, fun off ho _ => h.regs off ho⟩

namespace State

theorem talked_cause (s : State) (x : CauseSt) : Talked s { s with cause := x } :=
  ⟨rfl, rfl, rfl, rfl, rfl, rfl, rfl, rfl, rfl, rfl, rfl, rfl, rfl, rfl, rfl, rfl, rfl, rfl, fun _ _ _ => rfl⟩

theorem talked_bump (s : State) (off n : Nat) (h : carries off = true) : Talked s (s.bump off n) :=
  ⟨rfl, rfl, rfl, rfl, rfl, rfl, rfl, rfl, rfl, rfl, rfl, rfl, rfl, rfl, rfl, rfl, rfl, rfl, fun o _ ho =>
    reg_setReg_ne s off o _ (fun e => by rw [e, h] at ho; exact Bool.noConfusion ho)⟩

theorem carries_tx (p : Nat) (h : p < 16) : carries (Reg.CAUSEWAY_PORT_TX_FLITS p) = true := by
  have e : (0x400020 + 4096 * p) % 0x1000 = 0x20 := by omega
  have a : 0x400020 ≤ 0x400020 + 4096 * p ∧ 0x400020 + 4096 * p < 0x410000 := by omega
  show (_ || _) = true
  simp [e, a.1, a.2]

theorem talked_updPort (s : State) (p : Nat) (f : PortSt → PortSt) : Talked s (s.updPort p f) := talked_cause s _

theorem talked_putFlit (s : State) (p : Nat) (f : Flit) : Talked s (s.putFlit p f).1 := (talked_updPort s p _).trans (talked_cause _ _)

@[simp] theorem sent_updPort (s : State) (p : Nat) (f : PortSt → PortSt) : (s.updPort p f).cause.sent = s.cause.sent := rfl
@[simp] theorem sent_putFlit (s : State) (p : Nat) (f : Flit) : (s.putFlit p f).1.cause.sent = s.cause.sent := rfl

theorem talked_freeBuffer (s : State) (b : Nat × Nat × Nat) : Talked s (s.freeBuffer b) := by
  unfold freeBuffer; split
  · exact Talked.refl s
  · exact talked_updPort s _ _

theorem sent_freeBuffer (s : State) (b : Nat × Nat × Nat) : (s.freeBuffer b).cause.sent = s.cause.sent := by
  unfold freeBuffer; split <;> rfl

/-- What a port sends changes what `Talked` names, and nothing that has been handed over. -/
theorem pump_talked (p : Nat) (hp : p < 16) (fuel : Nat) : ∀ s : State, Talked s (s.pump p fuel) ∧ (s.pump p fuel).cause.sent = s.cause.sent := by
  induction fuel with
  | zero => intro s; exact ⟨Talked.refl s, rfl⟩
  | succ n ih =>
    intro s
    simp only [pump]
    split
    · exact ⟨Talked.refl s, rfl⟩
    · split
      · exact ⟨Talked.refl s, rfl⟩
      · rename_i f src _
        have b := fun u : State => talked_bump u (Reg.CAUSEWAY_PORT_TX_FLITS p) 1 (carries_tx p hp)
        split
        · rename_i x _
          refine ⟨?_, ?_⟩
          · exact Talked.trans (Talked.trans (Talked.trans (Talked.trans (talked_putFlit s p _) (talked_updPort _ p _)) (b _)) (talked_freeBuffer _ x))
              (ih _).1
          · rw [(ih _).2, sent_freeBuffer]; rfl
        · refine ⟨?_, ?_⟩
          · exact Talked.trans (Talked.trans (Talked.trans (talked_putFlit s p _) (talked_updPort _ p _)) (b _)) (ih _).1
          · rw [(ih _).2]; rfl

theorem talked_queueFlits (s : State) (p : Nat) (l : List Flit) (hp : p < 16) :
    Talked s (s.queueFlits p l) ∧ (s.queueFlits p l).cause.sent = s.cause.sent := by
  have h := pump_talked p hp ((s.updPort p (fun x => { x with waiting := x.waiting ++ l.map (fun f => (f, none)) })).port p).waiting.length
    (s.updPort p (fun x => { x with waiting := x.waiting ++ l.map (fun f => (f, none)) }))
  exact ⟨(talked_updPort s p _).trans h.1, h.2⟩

theorem routePort_lt (s : State) (n p : Nat) (b : Bool) (h : s.routePort n b = some p) : p < 16 := by
  simp only [routePort] at h
  generalize s.ent 6 n (if b = true then 2 else 1) 1 = v at h
  split at h
  · simp only [Option.some.injEq] at h; rw [← h]; exact Nat.mod_lt _ (by decide)
  · simp at h

theorem readyRoute_lt (s : State) (n p : Nat) (b : Bool) (h : s.readyRoute n b = some p) : p < 16 := by
  unfold readyRoute at h
  cases hq : s.routePort n b with
  | none => rw [hq] at h; simp at h
  | some q =>
    rw [hq] at h
    simp only at h
    by_cases hr : s.portReady q = true
    · rw [if_pos hr] at h; simp only [Option.some.injEq] at h; rw [← h]; exact routePort_lt s n _ b hq
    · rw [if_neg hr] at h; simp at h

theorem routeTo_lt (s : State) (n p : Nat) (b : Bool) (h : s.routeTo n b = some p) : p < 16 := by
  simp only [routeTo] at h
  split at h
  · cases h
  · cases h1 : s.readyRoute n b with
    | some q => rw [h1] at h; cases h; exact readyRoute_lt s n _ b h1
    | none => rw [h1] at h; exact readyRoute_lt s n _ (!b) h

theorem talked_sendPacket (s : State) (id : FlowId) (b : Bool) (fl seq : Nat) (via : Option Nat) (t : Txn) (h : ∀ p, via = some p → p < 16) :
    Talked s (s.sendPacket id b fl seq via t) ∧ (s.sendPacket id b fl seq via t).cause.sent = s.cause.sent := by
  simp only [sendPacket]
  split
  · exact ⟨(talked_cause s _).trans (talked_bump _ _ _ (by decide)), rfl⟩
  · rename_i p hp
    have hlt : p < 16 := by
      cases hv : via with
      | some q => rw [hv] at hp; simp only [Option.some_or, Option.some.injEq] at hp; rw [← hp]; exact h q hv
      | none => rw [hv] at hp; exact routeTo_lt _ _ _ _ hp
    have q := talked_queueFlits { s with cause := { s.cause with rx := s.cause.rx.map (fun f : FlowRx => if f.id = id then { f with ackDue := false } else f) } }
      p (packetFlits id.part.isNone id.vc id.cls (packetBytes id.node s.node b id.part (messageBytes id.flow fl s.incarnation seq (s.rxNext id) t))) hlt
    exact ⟨(talked_cause s _).trans q.1, q.2⟩

/-- Handing a transaction to the transport changes what `Talked` names. -/
theorem talked_sendVia (s : State) (via : Option Nat) (t : Txn) (h : ∀ p, via = some p → p < 16) : Talked s (s.sendVia via t) := by
  simp only [sendVia]
  split
  · exact talked_bump _ _ _ (by decide)
  · split
    · exact Talked.refl s
    · split
      · exact talked_cause s _
      · exact (talked_cause s _).trans (talked_sendPacket _ _ _ _ _ _ _ h).1

theorem talked_send (s : State) (t : Txn) : Talked s (s.send t) := talked_sendVia s none t (fun p h => by cases h)

theorem talked_sendSystem (s : State) (n op : Nat) (args : List Nat) (d : List Byte) (st : Nat) : Talked s (s.sendSystem n op args d st) :=
  talked_send s _

/-- A system message that can be sent is handed over. -/
theorem sent_sendSystem (s : State) (n op : Nat) (args : List Nat) (h : s.canSend n) :
    (s.sendSystem n op args).cause.sent = s.cause.sent ++ [sysTxn n op args] := by
  have e : ∀ t : Txn, t.part = none → s.nodeLost t.node = false → (s.send t).cause.sent = s.cause.sent ++ [t] := by
    intro t ht hn
    simp only [send, sendVia, hn, Bool.false_eq_true, ↓reduceIte, flowOf, ht]
    rw [if_neg (by intro x; have := h.2; omega)]
    rw [(talked_sendPacket _ _ _ _ _ _ _ (fun p h => by cases h)).2]
  exact e _ rfl h.1

end State

end Sys2Proof.Machine
end

