-- ==== Sys2Proof/Laws/RegLookup.lean ====
section
/-!
SUPPORT. Which row of the register map an offset names, and what a write that reaches the register does, for the registers that
commands of their own write.
-/
namespace Sys2Proof.Machine

/-- The row of LEG_PERIOD_NEXT. -/
def rowLegPeriodNext : RegDef := ⟨"LEG_PERIOD_NEXT", 0x010004, 4, 1, false, false, .all, [⟨13, 0, .RW, 1000⟩]⟩
set_option maxRecDepth 20000 in
theorem find_leg_period_next : findReg Reg.LEG_PERIOD_NEXT = some rowLegPeriodNext := by rfl

/-- The row of LEG_CHANGE_AT. -/
def rowLegChangeAt : RegDef := ⟨"LEG_CHANGE_AT", 0x010008, 4, 1, false, false, .all, [⟨31, 0, .RW, 0⟩]⟩
set_option maxRecDepth 20000 in
theorem find_leg_change_at : findReg Reg.LEG_CHANGE_AT = some rowLegChangeAt := by rfl

/-- The row of LEG_SYNC. -/
def rowLegSync : RegDef := ⟨"LEG_SYNC", 0x01000C, 4, 1, false, false, .all, [⟨1, 0, .RW, 0⟩]⟩
set_option maxRecDepth 20000 in
theorem find_leg_sync : findReg Reg.LEG_SYNC = some rowLegSync := by rfl

/-- The row of LEG_ERR. -/
def rowLegErr : RegDef := ⟨"LEG_ERR", 0x010034, 4, 1, false, false, .all, [⟨2, 2, .WO, 0⟩, ⟨1, 1, .W1C, 0⟩, ⟨0, 0, .W1C, 0⟩]⟩
set_option maxRecDepth 20000 in
theorem find_leg_err : findReg Reg.LEG_ERR = some rowLegErr := by rfl

/-- The row of SERVING_PLAN_CTRL. -/
def rowServingPlanCtrl : RegDef := ⟨"SERVING_PLAN_CTRL", 0x130000, 4, 1, false, false, .all, [⟨16, 0, .RW, 16000⟩]⟩
set_option maxRecDepth 20000 in
theorem find_serving_plan_ctrl : findReg Reg.SERVING_PLAN_CTRL = some rowServingPlanCtrl := by rfl

/-- The row of TIER_STREAM_FAULT. -/
def rowTierStreamFault : RegDef := ⟨"TIER_STREAM_FAULT", 0x210000, 4, 1, false, false, .all, [⟨31, 31, .W1C, 0⟩, ⟨30, 26, .RO, 0⟩, ⟨25, 24, .RO, 0⟩, ⟨23, 23, .RO, 0⟩, ⟨19, 15, .RO, 0⟩, ⟨14, 10, .RO, 0⟩, ⟨7, 0, .RO, 0⟩]⟩
set_option maxRecDepth 20000 in
theorem find_tier_stream_fault : findReg Reg.TIER_STREAM_FAULT = some rowTierStreamFault := by rfl

/-- The row of TIER_LEND_CTRL. -/
def rowTierLendCtrl : RegDef := ⟨"TIER_LEND_CTRL", 0x200018, 4, 1, false, false, .all, [⟨31, 31, .RW, 0⟩, ⟨30, 24, .RW, 0⟩, ⟨23, 16, .RW, 16⟩, ⟨15, 0, .RW, 0⟩]⟩
set_option maxRecDepth 20000 in
theorem find_tier_lend_ctrl : findReg Reg.TIER_LEND_CTRL = some rowTierLendCtrl := by rfl

/-- The row of SEAM_CTRL. -/
def rowSeamCtrl : RegDef := ⟨"SEAM_CTRL", 0x300000, 4, 1, false, false, .all, [⟨16, 16, .WO, 0⟩, ⟨15, 0, .RW, 1000⟩]⟩
set_option maxRecDepth 20000 in
theorem find_seam_ctrl : findReg Reg.SEAM_CTRL = some rowSeamCtrl := by rfl

/-- The row of SERVING_PREFIX_CTRL. -/
def rowServingPrefixCtrl : RegDef := ⟨"SERVING_PREFIX_CTRL", 0x140000, 4, 1, false, false, .all, [⟨8, 8, .WO, 0⟩, ⟨4, 0, .RW, 20⟩]⟩
set_option maxRecDepth 20000 in
theorem find_serving_prefix_ctrl : findReg Reg.SERVING_PREFIX_CTRL = some rowServingPrefixCtrl := by rfl

/-- The row of SERVING_RES_CLEAR. -/
def rowServingResClear : RegDef := ⟨"SERVING_RES_CLEAR", 0x160020, 4, 1, false, false, .all, [⟨0, 0, .WO, 0⟩]⟩
set_option maxRecDepth 20000 in
theorem find_serving_res_clear : findReg Reg.SERVING_RES_CLEAR = some rowServingResClear := by rfl

/-- The row of FW_RESTART. -/
def rowFwRestart : RegDef := ⟨"FW_RESTART", 0x700020, 4, 1, false, false, .none, [⟨3, 0, .WO, 0⟩]⟩
set_option maxRecDepth 20000 in
theorem find_fw_restart : findReg Reg.FW_RESTART = some rowFwRestart := by rfl

/-- The row of GLOBAL_PLL_CTRL. -/
def rowGlobalPllCtrl : RegDef := ⟨"GLOBAL_PLL_CTRL", 0x000010, 4, 1, false, false, .all, [⟨1, 0, .PW, 0⟩]⟩
set_option maxRecDepth 20000 in
theorem find_global_pll_ctrl : findReg Reg.GLOBAL_PLL_CTRL = some rowGlobalPllCtrl := by rfl

/-- The row of SNAP_CTRL. -/
def rowSnapCtrl : RegDef := ⟨"SNAP_CTRL", 0x050000, 4, 1, false, false, .none, [⟨1, 1, .WO, 0⟩, ⟨0, 0, .WO, 0⟩]⟩
set_option maxRecDepth 20000 in
theorem find_snap_ctrl : findReg Reg.SNAP_CTRL = some rowSnapCtrl := by rfl

/-- The row of POWER_CAP. -/
def rowPowerCap : RegDef := ⟨"POWER_CAP", 0x020004, 4, 1, false, false, .all, [⟨10, 0, .RW, 1700⟩]⟩
set_option maxRecDepth 20000 in
theorem find_power_cap : findReg Reg.POWER_CAP = some rowPowerCap := by rfl

/-- The row of CAUSEWAY_NODE. -/
def rowCausewayNode : RegDef := ⟨"CAUSEWAY_NODE", 0x400800, 4, 1, false, false, .none, [⟨31, 16, .RO, 0⟩, ⟨11, 0, .PW, 0⟩]⟩
set_option maxRecDepth 20000 in
theorem find_causeway_node : findReg Reg.CAUSEWAY_NODE = some rowCausewayNode := by rfl

/-- The row of SERVING_DIST_WRING_CTRL. -/
def rowServingDistWringCtrl : RegDef := ⟨"SERVING_DIST_WRING_CTRL", 0x12001C, 64, 64, false, false, .district, [⟨15, 8, .RW, 178⟩, ⟨1, 0, .WO, 0⟩]⟩
theorem find_serving_dist_wring_ctrl_all : (List.range 64).all (fun i => decide (findReg (Reg.SERVING_DIST_WRING_CTRL i) = some rowServingDistWringCtrl)) = true := by
  decide
theorem index_serving_dist_wring_ctrl_all : (List.range 64).all (fun i => rowServingDistWringCtrl.index? (Reg.SERVING_DIST_WRING_CTRL i) == some i) = true := by decide
theorem find_serving_dist_wring_ctrl (i : Fin 64) : findReg (Reg.SERVING_DIST_WRING_CTRL i.val) = some rowServingDistWringCtrl := by
  have h := List.all_eq_true.mp find_serving_dist_wring_ctrl_all i.val (List.mem_range.mpr i.isLt)
  exact of_decide_eq_true h
theorem index_serving_dist_wring_ctrl (i : Fin 64) : rowServingDistWringCtrl.index? (Reg.SERVING_DIST_WRING_CTRL i.val) = some i.val := by
  have h := List.all_eq_true.mp index_serving_dist_wring_ctrl_all i.val (List.mem_range.mpr i.isLt)
  exact eq_of_beq h

/-- The row of CAUSEWAY_PORT_CTRL. -/
def rowCausewayPortCtrl : RegDef := ⟨"CAUSEWAY_PORT_CTRL", 0x400000, 4096, 16, false, false, .none, [⟨4, 4, .PW, 0⟩, ⟨2, 2, .PW, 0⟩, ⟨1, 0, .PW, 0⟩]⟩
theorem find_causeway_port_ctrl_all : (List.range 16).all (fun i => decide (findReg (Reg.CAUSEWAY_PORT_CTRL i) = some rowCausewayPortCtrl)) = true := by
  decide
theorem index_causeway_port_ctrl_all : (List.range 16).all (fun i => rowCausewayPortCtrl.index? (Reg.CAUSEWAY_PORT_CTRL i) == some i) = true := by decide
theorem find_causeway_port_ctrl (i : Fin 16) : findReg (Reg.CAUSEWAY_PORT_CTRL i.val) = some rowCausewayPortCtrl := by
  have h := List.all_eq_true.mp find_causeway_port_ctrl_all i.val (List.mem_range.mpr i.isLt)
  exact of_decide_eq_true h
theorem index_causeway_port_ctrl (i : Fin 16) : rowCausewayPortCtrl.index? (Reg.CAUSEWAY_PORT_CTRL i.val) = some i.val := by
  have h := List.all_eq_true.mp index_causeway_port_ctrl_all i.val (List.mem_range.mpr i.isLt)
  exact eq_of_beq h

/-- The row of CORE_FAULT. -/
def rowCoreFault : RegDef := ⟨"CORE_FAULT", 0x800008, 4, 1, true, false, .none, [⟨31, 31, .W1C, 0⟩, ⟨15, 14, .RO, 0⟩, ⟨7, 0, .RO, 0⟩]⟩

/-- The row of CORE_ARITH_CLEAR. -/
def rowCoreArithClear : RegDef := ⟨"CORE_ARITH_CLEAR", 0x800228, 4, 1, true, false, .none, [⟨1, 1, .WO, 0⟩, ⟨0, 0, .WO, 0⟩]⟩

/-- A row of one core's window names the same offset in every core's window. -/
theorem index_core (r : RegDef) (h : r.core = true) (c : BitVec 10) (k : Nat) (hk : k < 0x1000) :
    r.index? (0x800000 + k + 0x1000 * c.toNat) = r.index? (0x800000 + k) := by
  have hc : c.toNat < 1024 := c.isLt
  have e : (0x800000 + k + 0x1000 * c.toNat - 0x800000) % 0x1000 = (0x800000 + k - 0x800000) % 0x1000 := by omega
  simp only [RegDef.index?, h, ↓reduceIte, e]
  rw [if_pos (by omega : 0x800000 ≤ 0x800000 + k + 0x1000 * c.toNat), if_pos (by omega : 0x800000 ≤ 0x800000 + k)]
  have a : 0x800000 + k + 0x1000 * c.toNat < 0xC00000 := by omega
  have b : 0x800000 + k < 0xC00000 := by omega
  simp only [a, b]

/-- Outside the cores' windows no row reaches past 0x800000. -/
def rowLow (r : RegDef) : Bool := r.core || decide (r.base + r.stride * r.count ≤ 0x800000)

theorem index_low (r : RegDef) (hl : rowLow r = true) (hc : r.core = false) (off : Nat) (h : 0x800000 ≤ off) (hs : 0 < r.stride) : r.index? off = none := by
  simp only [rowLow, hc, Bool.false_or, decide_eq_true_eq] at hl
  simp only [RegDef.index?, hc, Bool.false_eq_true, ↓reduceIte, false_implies, and_true]
  split
  · rfl
  · rw [if_neg]
    rintro ⟨_, h2⟩
    have : off - r.base < r.stride * r.count := by
      have := Nat.lt_mul_of_div_lt h2 hs
      rwa [Nat.mul_comm] at this
    omega

set_option maxRecDepth 20000 in
/-- The lookup of an offset in a core's window is that of the same offset in core 0's. -/
theorem find_core (c : BitVec 10) (k : Nat) (hk : k < 0x1000) : findReg (0x800000 + k + 0x1000 * c.toNat) = findReg (0x800000 + k) := by
  have all : ∀ r ∈ regTable, rowLow r = true ∧ 0 < r.stride := by
    have h : regTable.all (fun r => rowLow r && decide (0 < r.stride)) = true := by decide
    intro r hr
    have := List.all_eq_true.mp h r hr
    simpa using this
  unfold findReg
  generalize regTable = l at all
  induction l with
  | nil => rfl
  | cons r t ih =>
    have e : r.index? (0x800000 + k + 0x1000 * c.toNat) = r.index? (0x800000 + k) := by
      cases hc : r.core with
      | true => exact index_core r hc c k hk
      | false =>
        have hr := all r (List.mem_cons_self ..)
        rw [index_low r hr.1 hc _ (by omega) hr.2, index_low r hr.1 hc _ (by omega) hr.2]
    simp only [List.find?_cons, e]
    rw [ih (fun r hr => all r (List.mem_cons_of_mem _ hr))]

theorem find_core_fault (c : BitVec 10) : findReg (Reg.CORE_FAULT c.toNat) = some rowCoreFault := (find_core c 8 (by decide)).trans (by rfl)
theorem find_core_arith_clear (c : BitVec 10) : findReg (Reg.CORE_ARITH_CLEAR c.toNat) = some rowCoreArithClear :=
  (find_core c 0x228 (by decide)).trans (by rfl)

namespace State

/-- What a write reaching a register of a row without an action of its own does, and one with an action. -/
theorem reach_leg_period_next (s : State) (v : Nat) : s.reachReg Reg.LEG_PERIOD_NEXT v = s.writePeriodNext v := by
  unfold reachReg; rw [find_leg_period_next]; rfl
theorem reach_leg_change_at (s : State) (v : Nat) : s.reachReg Reg.LEG_CHANGE_AT v = s.writeChangeAt v := by
  unfold reachReg; rw [find_leg_change_at]; rfl
theorem reach_leg_sync (s : State) (v : Nat) : s.reachReg Reg.LEG_SYNC v = s.setSyncMode (bits v 1 0) := by
  unfold reachReg; rw [find_leg_sync]; rfl
theorem reach_core_fault (s : State) (c : BitVec 10) (v : Nat) (h : bit v 31 = true) : s.reachReg (Reg.CORE_FAULT c.toNat) v = s.clearFault c.toNat := by
  have e : (Reg.CORE_FAULT c.toNat - 0x800000) / 0x1000 = c.toNat := by
    show (0x800008 + 0x1000 * c.toNat - 0x800000) / 0x1000 = c.toNat; omega
  unfold reachReg; rw [find_core_fault]; simp only [e]
  show (if bit v 31 = true then s.clearFault c.toNat else s) = _
  rw [if_pos h]

/-- The physical function's 4-byte write of a register outside the slow domains reaches it. -/
theorem barWrite_reach (s : State) (off v : Nat) (ho : s.barOpen 0 = true) (ha : off % 4 = 0) (h1 : off < 0x38000 ∨ 0x3A000 ≤ off)
    (h2 : off < 0x2000000) (hf : (findReg off).isSome = true) (hd : slowDomain off = none) (hv : v < 2 ^ 32) :
    s.barWrite 0 off 4 v = s.reachReg off v := by
  have hb : s.blockUp off = true := by
    unfold slowDomain at hd
    unfold blockUp
    split at hd
    · cases hd
    · split at hd
      · cases hd
      · split at hd
        · cases hd
        · simp; omega
  unfold barWrite
  simp only [ho, Bool.true_eq_false, ↓reduceIte]
  have a1 : ((4 != 4 && 4 != 8) || off % 4 != 0 || (decide (0x2000000 ≤ off) && 4 != 4)) = false := by simp [ha]
  simp only [a1, Bool.false_eq_true, ↓reduceIte, ne_eq, not_true]
  have a2 : decide (0x2000000 ≤ off) = false := by simp; omega
  simp only [a2, Bool.false_eq_true, ↓reduceIte, Nat.mod_eq_of_lt hv]
  unfold writeWord
  rw [if_neg (by omega), if_neg (by
    rw [hb]; simp only [Bool.true_eq_false, or_false]
    intro hn; rw [Option.isNone_iff_eq_none] at hn; rw [hn] at hf; exact Bool.noConfusion hf), hd]

end State

end Sys2Proof.Machine
end

