-- ==== Sys2Proof/Tests/Slice0.lean ====
section
/-!
SUPPORT. Tests: ill-formed commands are refused, the hypotheses of every statement can be met, and single commands on small states give
what the manual's tables and rules say.
-/
namespace Sys2Proof.Tests

open Sys2Proof Sys2Proof.Machine

set_option Elab.async false

/-! Each check of WellFormed refuses a term. -/

theorem test_ill_formed_registers :
    [Instr.legErrClearMax 0 3, .coreFaultClear 0 5 0, .coreArithClearCounts 0 5 2, .coreArithClearHist 0 5 1, .wring 0 3 2, .scanIn 0 3 1,
      .districtRelease 0 3 0, .tierStreamFaultClear 0 1, .seamCtrlClearMax 0 0xFFFF, .prefixFlush 0 24, .servingResClear 0 2,
      .snapTake 0 2, .snapRelease 0 1, .aliasWrite 0 0x1FFFFFC 1, .aliasWrite 0 0x2000002 1, .aliasWrite 0 0x4000000 1,
      .registerWrite 0 0x4000000 4 0].all (fun i => !wellFormed i) = true := by decide

theorem test_ill_formed_messages :
    [Instr.alloc 3 5 {}, .free 3 5 {}, .publish 3 5 {}, .request 3 5 {} none, .hello 3 5 {}, .cancel 3 5 {}, .dataPut 3 5 {}, .dataGet 3 5 {},
      .seam 3 5 {}, .seamAbort 3 5 {}, .disable 3 5 {}, .disable 3 0 { body := [0, 1] }, .emergencyDisable 3 0 { body := [0, 0] },
      .emergencyDisable 3 5 { body := [0, 1] }, .enable 3 5 {}, .setLeg 3 5 {}, .setPower 3 5 {}, .query 3 5 {}, .eventMask 3 5 {},
      .fwUpdate 3 5 {}, .cpRestart 3 5 {}, .mailboxHandover 5 3 1 [] 1, .mailboxHandover 4 3 0 [] 1, .outConsWrite 5 3 0, .msixHoldoffExpiry 1 1].all (fun i => !wellFormed i) = true := by
  decide

theorem test_ill_formed_area (a : List Byte) (h : 2032 < a.length) : wellFormed (.mailboxHandover 4 3 1 a 1) = false := by
  simp [wellFormed]; omega

theorem test_ill_formed_message (a : List Byte) (h : 2000 < a.length) : wellFormed (.msg 0 0 a) = false := by
  simp [wellFormed]; omega

theorem test_ill_formed_actions : wellFormed (.seamSubmit 0 none none 0 false (List.replicate 65 (0, 0))) = false := by decide
theorem test_ill_formed_tags : wellFormed (.claim 0 0 0 0 (List.replicate 65 0)) = false := by decide

theorem test_ill_formed_counts :
    [Instr.timingMessage 0 256 0 1000 0 0 0 0, .timingMessage 0 0 4096 1000 0 0 0 0, .timingMessage 0 0 0 0x100000000 0 0 0 0,
      .timingMessage 0 0 0 1000 0x10000000000000000 0 0 0, .largeTierScrub 17 none, .seamSubmit 0 none none 0 false [],
      .claim 0 0 0 0 [], .row 0 [] [],
      .row 0 [0, 0, 0, 0, 0] [], .flitReceive 0 [] {}, .portTrainingStep 0 0 0, .portDown 0 0, .portEnable 0 0,
      .read 0 0 0 (.handle 0 0) 15, .read 0 0 0 (.handle 0 0) 4112, .read 0 0 0 (.handle 0 0) 24, .write 0 0 0 (.handle 0 0) [],
      .msg 0 0 [], .msg 0 0 (List.replicate 17 0), .spdmChallenge 0 [], .spdmGetMeasurements 0 []].all
        (fun i => !wellFormed i) = true := by decide

theorem test_ill_formed_blocks :
    wellFormed (.bcast 0 0 0 0 0 0 0 0 0 false []) = false ∧ wellFormed (.moveData 0 0 0 0 0 0 []) = false := by decide

theorem test_well_formed :
    [Instr.nop 0 0, .legErrClearMax 0 4, .hello 3 4 {}, .hello 3 0 {}, .row 0 [0, 0, 0, 0] [], .read 0 0 0 (.handle 0 0) 4096,
      .largeTierScrub 16 none, .aliasWrite 0 0x2000000 1].all wellFormed = true := by decide

/-- The table gives no row any bits: no word spells a command. -/
theorem test_no_words : decodeTableWord 64 0x10 = none ∧ State.withFetchWord State.reset 64 0x10 = State.reset := by decide

/-! States the witnesses use. -/

/-- What a command leaves. -/
def after (s : State) (c : Instr) : State := match exec c s with
  | .next t => t
  | .fault _ => s
  | .refused _ => s

/-- The core die powered. -/
def up : State := { State.reset with power := { State.reset.power with vmainGood := true } }

/-- The endpoint trained. -/
def linked : State := { State.reset with host := { State.reset.host with linkUp := true } }

/-- Core 5 runs slot 0 with a word at index `pc`. -/
def running (op : Nat) (low : BitVec 56) (pc : Nat) (k : Machine.Core) : State :=
  ({ up with cores := [(5, { k with
    pc, slots := Tab.set k.slots 0 { (Tab.find? k.slots 0).getD {} with instrs := Tab.set [] pc (BitVec.ofNat 64 (wordOf op low)) } })] } : State).setCoreState 5 1

/-- The word issues at core 5, its predicate holds, and the core goes on. -/
def canRun (s : State) (op : Nat) (low : BitVec 56) : Bool :=
  s.power.vmainGood && s.due.isEmpty && s.coreState 5 == 1 && (s.core 5).boundary.isNone &&
    (s.fetch 5 (s.core 5).pc).toNat == wordOf op low && (s.core 5).p (iPred (wordOf op low)) != iNeg (wordOf op low) &&
    decide ((afterPc (s.core 5).loops (s.core 5).pc).1 ≤ 4095)

theorem executes_of (s : State) (op : Nat) (low : BitVec 56) (h : canRun s op low = true) : s.Executes op 5 low := by
  simp only [canRun, Bool.and_eq_true, List.isEmpty_iff, beq_iff_eq, bne_iff_ne, decide_eq_true_eq, Option.isNone_iff_eq_none] at h
  obtain ⟨⟨⟨⟨⟨⟨a, b⟩, c⟩, d⟩, e⟩, f⟩, g⟩ := h
  exact ⟨⟨⟨a, b⟩, c, d, e⟩, f, g⟩

/-! The hypotheses of the statements on tile instructions are met: at index 7, at the last index and inside a loop. -/

/-- The low bits of an instruction of format R or I (Table 3.2). -/
def lowI (d a b imm : Nat) : BitVec 56 := BitVec.ofNat 56 (d * 2 ^ 45 + a * 2 ^ 39 + b * 2 ^ 33 + imm)

/-- The low bits of one of format M: tile, rows less one, acc and darn. -/
def lowM (d a b tile rows acc darn : Nat) : BitVec 56 :=
  BitVec.ofNat 56 (d * 2 ^ 45 + a * 2 ^ 39 + b * 2 ^ 33 + tile * 2 ^ 30 + (rows - 1) * 2 ^ 23 + acc * 2 ^ 22 + darn * 2 ^ 21)

/-- Share of slot 0: all 47 whole units and the last, of core 5. -/
def shared (s : State) : State := s.setFld (Reg.CORE_SHARE0 5) 13 8 48

theorem test_hyp_issue :
    up.coreState 5 ≠ 1 ∧ State.opListed (((running 0x10 0 7 {}).fetch 5 7).toNat / 2 ^ 56) = true ∧
    canRun (running 0x10 0 7 {}) 0x10 0 = true ∧ ((running 0x10 0 7 {}).fetch 5 7).toNat ≠ wordOf 0x11 0 := by decide

theorem test_hyp_executes : ∀ op ∈ [0x00, 0x05, 0x10, 0x11, 0x12, 0x13, 0x14, 0x15, 0x16, 0x17, 0x18, 0x19, 0x1A, 0x1B, 0x1C, 0x1D, 0x1E, 0x1F, 0x20,
    0x21, 0x22, 0x23, 0x24, 0x25, 0x30, 0x31, 0x32, 0x40, 0x41, 0x42, 0x43, 0x44, 0x45, 0x46, 0x47, 0x48, 0x49, 0x4A, 0x4B, 0x50, 0x51, 0x52, 0x60,
    0x61, 0x62, 0x70, 0x71, 0x72, 0x73, 0x74, 0x75, 0x80, 0x81, 0x82, 0x90],
    canRun (running op 0 4094 {}) op 0 = true := by decide

/-- At the last index, outside a loop, the core does not go on: NOP, ADDI, and one predicated off. -/
theorem test_hyp_overrun : ∀ op ∈ [0x00, 0x1A],
    (let s := running op 0 4095 {}
     (s.fetch 5 4095).toNat = wordOf op 0 ∧ s.coreState 5 = 1 ∧ (s.core 5).p (iPred (wordOf op 0)) ≠ iNeg (wordOf op 0) ∧
       ¬ (afterPc (s.core 5).loops 4095).1 ≤ 4095) ∧
    (let w := wordOf op (BitVec.ofNat 56 (2 ^ 52))
     resR w = false ∧ ({} : Machine.Core).p (iPred w) = iNeg w) := by decide

theorem test_hyp_executes_in_a_loop : canRun (running 0x10 0 4095 { loops := [(3, 4095, 2)] }) 0x10 0 = true := by decide

theorem test_executes_witness : (running 0x10 (lowI 1 2 3 0) 0 {}).Executes 0x10 5 (lowI 1 2 3 0) := executes_of _ _ _ (by decide)

/-- Predicated off by p1, which is 0; and a reserved encoding, a reserved opcode. -/
theorem test_hyp_nop_and_reserved :
    (let w := wordOf 0x10 (BitVec.ofNat 56 (2 ^ 52))
     resR w = false ∧ ({} : Machine.Core).p (iPred w) = iNeg w) ∧
    resR (wordOf 0x10 1) = true ∧
    State.opListed (((running 0x91 0 7 {}).fetch 5 7).toNat / 2 ^ 56) = false ∧ (running 0x91 0 7 {}).coreState 5 = 1 := by decide

theorem test_hyp_sequencer :
    resR (wordOf 0x01 0) = false ∧ bits (wordOf 0x03 (BitVec.ofNat 56 (4095 * 2 ^ 21))) 20 0 = 0 ∧
    iTarget (wordOf 0x04 (BitVec.ofNat 56 (9 * 2 ^ 21 + 3))) = 9 ∧ iCount (wordOf 0x04 (BitVec.ofNat 56 (9 * 2 ^ 21 + 3))) = 3 ∧
    canRun (running 0x04 (BitVec.ofNat 56 (9 * 2 ^ 21 + 3)) 7 {}) 0x04 (BitVec.ofNat 56 (9 * 2 ^ 21 + 3)) = true ∧
    iCount (wordOf 0x04 (BitVec.ofNat 56 (9 * 2 ^ 21))) = 0 ∧ (afterPc [] 9).1 ≤ 4095 := by decide

theorem test_hyp_faults :
    (let s := running 0x06 (lowI 0 0 0 0xBEEF) 7 {}
     canRun s 0x06 (lowI 0 0 0 0xBEEF) = true ∧ resI (wordOf 0x06 (lowI 0 0 0 0xBEEF)) = false ∧ s.ctxOf 1 0 = none ∧ s.serving.items = []) ∧
    (let s := running 0x04 0 7 { loops := [(1, 20, 1), (1, 20, 1), (1, 20, 1), (1, 20, 1)] }
     canRun s 0x04 0 = true ∧ 4 ≤ (s.core 5).loops.length) ∧
    (let s : State := { running 0 0 7 {} with leg := { start := 5000 } }
     (s.core 5).tileStart + 5000 ≤ s.now ∧ s.coreState 5 = 1) := by decide

theorem test_hyp_scalar :
    resI (wordOf 0x1C (lowI 15 1 2 5)) = false ∧ pBad (iD (wordOf 0x1C (lowI 15 1 2 5))) = false ∧
    (resI (wordOf 0x1F (lowI 15 15 15 3)) || pBad (iD (wordOf 0x1F (lowI 15 15 15 3)))) = false ∧
    (resI (wordOf 0x4B (lowI 1 31 0 63)) || vBad (iA (wordOf 0x4B (lowI 1 31 0 63)))) = false ∧
    (resI (wordOf 0x90 (lowI 1 0 0 0)) || !statListed 0) = false := by decide

/-- The last bytes of the share can be read and written, the bytes past it not; unit 1 is unreadable. -/
theorem test_hyp_scratchpad :
    (let s := shared (running 0x1D (lowI 1 0 0 0x2FFBF8) 7 { bad := [1] })
     canRun s 0x1D (lowI 1 0 0 0x2FFBF8) = true ∧ scratchAddr s 5 (wordOf 0x1D (lowI 1 0 0 0x2FFBF8)) = 0x2FFBF8 ∧
     s.accessFault 5 0x2FFBF8 8 8 = none ∧ s.accessFault 5 0x2FFC00 8 8 = some 3 ∧ s.accessFault 5 4 8 8 = some 4 ∧
     s.accessFault 5 16 8 8 = some 5 ∧ s.storeFault 5 16 8 8 = some 5 ∧ s.storeFault 5 0 256 16 = none ∧ s.accessFault 5 0 256 16 = some 5 ∧
     s.inShare 5 0 0x2FFC00 8 = false) := by decide

theorem test_hyp_weights :
    (resI (wordOf 0x20 (lowI 0 0 0 0x0101)) || mcfgBad (wordOf 0x20 (lowI 0 0 0 0x0101))) = false ∧
    (let s := shared (running 0x21 (lowI 0 0 0 0) 7 { wf := 1, af := 1 })
     kOf 1 1 = 128 ∧ s.accessesFault 5 [(0, 64 * runBytes 1 128, 16), (0, 64 * 4, 4)] = none) ∧
    (let s := shared (running 0x24 (lowI 0 1 0 0) 7 { wf := 0x0B, af := 1, darn := true, scal := Tab.set [] 1 0x1000, scratch := Mem.write [] 0x1000 [0x83] })
     canRun s 0x24 (lowI 0 1 0 0) = true ∧ s.accessFault 5 0x1000 8 4 = none ∧ s.accessFault 5 0x1000 72 4 = none ∧
     ((List.range 8).filterMap (fun i => let e := ((s.scratch 5 0x1000 8).getD i 0).toNat; if bit e 7 then some (i / 4 * 128 + e % 128) else none)) = [3]) := by
  decide

theorem test_hyp_accumulator :
    resM (wordOf 0x25 (lowM 0 0 0 7 128 0 0)) = false ∧ iRows (wordOf 0x25 (lowM 0 0 0 7 128 0 0)) = 128 ∧ iTile (wordOf 0x25 (lowM 0 0 0 7 128 0 0)) = 7 ∧
    (resM (wordOf 0x31 (lowM 31 0 1 7 1 0 0)) || vBad (iD (wordOf 0x31 (lowM 31 0 1 7 1 0 0)))) = false ∧
    (({ scal := Tab.set [] 1 127, accBad := [7 * 128 + 127] } : Machine.Core).s 1).toNat = 127 ∧
    iAcc (wordOf 0x32 (lowM 0 31 1 7 1 1 0)) = true ∧ ({} : Machine.Core).classOf 7 ≠ 2 := by decide

theorem test_hyp_products :
    (let s := shared (running 0x23 (lowM 0 1 0 7 2 1 0) 7 { wf := 9, af := 9, active := { loaded := true, wf := 9, af := 9, rows := 128 } })
     canRun s 0x23 (lowM 0 1 0 7 2 1 0) = true ∧ bits (wordOf 0x23 (lowM 0 1 0 7 2 1 0)) 20 0 = 0 ∧ (s.core 5).classOf 7 = 0 ∧
     s.accessesFault 5 [(0, 2 * runBytes 9 128, 16), (0, 0, 4)] = none) ∧
    canRun (running 0x23 (lowM 0 1 0 7 2 0 0) 7 {}) 0x23 (lowM 0 1 0 7 2 0 0) = true := by decide

/-- Where the matrix instructions fault, and wait: each case of them has an instruction and a core that meet it. -/
theorem test_hyp_matrix_faults :
    (let s := shared (running 0x21 (lowI 0 1 0 0) 7 { wf := 1, af := 1, scal := [(1, 8)] })
     canRun s 0x21 (lowI 0 1 0 0) = true ∧ s.accessesFault 5 [(8, 64 * runBytes 1 128, 16), (0, 64 * 4, 4)] = some 4) ∧
    (let k : Machine.Core := { wf := 0x0B, af := 1, darn := true, scal := [(1, 4), (2, 0x2FFBFC), (3, 2)], scratch := [(4, 0x83), (5, 0x83), (0x2FFBFC, 0x80)] }
     let s := shared (running 0x24 0 7 k)
     kOf 0x0B 1 = 256 ∧ s.accessFault 5 2 8 4 = some 4 ∧ s.accessFault 5 4 8 4 = none ∧ s.accessFault 5 4 136 4 = none ∧ [3, 3].eraseDups.length = 1 ∧
     s.accessFault 5 0x2FFBF8 8 4 = none ∧ s.accessFault 5 0x2FFBF8 72 4 = some 3) ∧
    (127 < (({ scal := Tab.set [] 1 200 } : Machine.Core).s 1).toNat) ∧ ({ accClass := [(7, 2)] } : Machine.Core).classOf 7 = 2 ∧
    iDarn (wordOf 0x23 (lowM 0 1 0 7 2 1 1)) = true ∧ bits (wordOf 0x23 (lowM 0 1 0 7 2 1 1)) 20 0 = 0 ∧
    (let s := shared (running 0x23 (lowM 0 1 0 7 2 1 0) 7 { wf := 9, af := 9, scal := [(1, 8)], active := { loaded := true, wf := 9, af := 9, rows := 128 } })
     s.accessesFault 5 [(8, 2 * runBytes 9 128, 16), (0, 0, 4)] = some 4) ∧
    drainFault (shared (running 0x30 (lowM 0 1 2 7 1 0 0) 7 { scal := [(2, 8)] })) 5 (wordOf 0x30 (lowM 0 1 2 7 1 0 0)) = some 4 ∧
    (shared (running 0x50 (lowI 1 1 0 0) 7 { scal := [(1, 8)] })).accessFault 5 8 32 32 = some 4 := by decide +kernel

/-! Vector instructions, streams, semaphores, queues and counters. -/

theorem test_hyp_vector :
    (resR (wordOf 0x44 (lowI 31 31 31 0)) || vBad (iD (wordOf 0x44 (lowI 31 31 31 0))) || vBad (iA (wordOf 0x44 (lowI 31 31 31 0))) ||
      vBad (iB (wordOf 0x44 (lowI 31 31 31 0)))) = false ∧
    (resI (wordOf 0x47 (lowI 31 31 0 2)) || vBad (iD (wordOf 0x47 (lowI 31 31 0 2))) || vBad (iA (wordOf 0x47 (lowI 31 31 0 2))) ||
      decide (bits (iImm (wordOf 0x47 (lowI 31 31 0 2))) 1 0 = 3)) = false ∧
    (resI (wordOf 0x49 (lowI 31 31 0 0x101)) || vcvtBad (wordOf 0x49 (lowI 31 31 0 0x101))) = false ∧ bit (iImm (wordOf 0x49 (lowI 31 31 0 0x101))) 8 = true ∧
    (resI (wordOf 0x49 (lowI 31 31 0 1)) || vcvtBad (wordOf 0x49 (lowI 31 31 0 1))) = false ∧ bit (iImm (wordOf 0x49 (lowI 31 31 0 1))) 8 = false ∧
    bit (iImm (wordOf 0x49 (lowI 31 31 0 1))) 9 = false ∧
    (resI (wordOf 0x49 (lowI 31 31 0 0x201)) || vcvtBad (wordOf 0x49 (lowI 31 31 0 0x201))) = false ∧
    bit (iImm (wordOf 0x49 (lowI 31 31 0 0x201))) 8 = false ∧ bit (iImm (wordOf 0x49 (lowI 31 31 0 0x201))) 9 = true := by decide +kernel

theorem test_hyp_streams :
    (let s := shared (running 0x50 (lowI 1 0 0 0) 7 {})
     s.accessFault 5 0 32 32 = none ∧ (s.engine 5 false).length < 4 ∧ canRun s 0x50 (lowI 1 0 0 0) = true ∧ resR (wordOf 0x50 (lowI 1 0 0 0)) = false) ∧
    (let k : Machine.Core := { scal := Tab.set [] 1 (BitVec.ofNat 64 (4095 * 16)), descs := [{ seqNo := 4095, write := false }] }
     canRun (running 0x52 (lowI 0 1 0 0) 7 k) 0x52 (lowI 0 1 0 0) = true ∧
     bits (k.s 1).toNat 63 16 = 0 ∧ bit (k.s 1).toNat 2 = false ∧
     k.descs.any (fun x => x.write == bit (k.s 1).toNat 3 && x.seqNo == bits (k.s 1).toNat 15 4) = true) ∧
    (let k : Machine.Core := { descs := [{ seqNo := 1 }] }
     k.descs.any (fun x => x.write == bit (k.s 1).toNat 3 && x.seqNo == bits (k.s 1).toNat 15 4) = false ∧
     k.dead.contains (bits (k.s 1).toNat 15 4 * 2 + b2n (bit (k.s 1).toNat 3)) = false) := by decide +kernel

/-- Pair 63 is slot 0's: its amount 65,535 fits an empty count and not one of 1; pair 62 is nobody's. -/
def pairs (op : Nat) (low : BitVec 56) (count : Nat) : State := ((running op low 7 {}).setSemOwner 5 63 (some 0)).setSemCount 5 63 false count

theorem test_hyp_semaphores :
    (∀ op ∈ [0x60, 0x61, 0x62],
      let low := lowI 15 0 0 (65535 * 65536 + 63)
      let w := wordOf op low
      resI w = false ∧ pBad (iD w) = false ∧ iPair w = 63 ∧ iAmount w = 65535 ∧ iRoom w = false ∧
      ∀ n ∈ [0, 1, 65534, 65535], canRun (pairs op low n) op low = true ∧ (pairs op low n).semCount 5 63 false = n ∧
        (pairs op low n).semOwner 5 63 = some ((pairs op low n).activeSlot 5)) ∧
    (pairs 0x60 (lowI 0 0 0 62) 0).semOwner 5 62 = none ∧ canRun (pairs 0x60 (lowI 0 0 0 62) 0) 0x60 (lowI 0 0 0 62) = true := by decide +kernel

/-- Output and input channel 15 of each network are slot 0's; its circuit 0 leads to core 6. -/
def wired (op : Nat) (low : BitVec 56) (queue : List QEntry) : State :=
  let s := running op low 7 { slots := Tab.set [] 0 {
      outputs := [(15, 0x80000000), (31, 0x80000000), (47, 0x80000000)], inputs := [(15, 0x80000000), (31, 0x80000000), (47, 0x80000000)],
      routes := [(0, 0x81000000), (64, 0x81000000), (128, 0x81000000)] }, queues := [(15, queue), (31, queue), (47, queue)] }
  { s with cores := s.cores ++ [(6, { slots := Tab.set [] 0 { routes := [(0, 0x80400F00), (64, 0x80400F00), (128, 0x80400F00)] } })] }

theorem test_hyp_pushes :
    ∀ x ∈ [(0x70, 1, 1), (0x72, 2, 1), (0x74, 0, 4)],
      let low := lowI 0 0 0 0xF00
      let s := wired x.1 low []
      canRun s x.1 low = true ∧ resI (wordOf x.1 low) = false ∧ vBad (iA (wordOf x.1 low)) = false ∧ bits (iImm (wordOf x.1 low)) 11 8 = 15 ∧
      s.ownsOut 5 x.2.1 15 = true ∧ (s.sendOut 5 x.2.1 15 (List.replicate x.2.2 7)).isSome = true ∧ s.ownsOut 5 x.2.1 14 = false ∧
      s.inTransit x.2.1 5 0 = 0 ∧
      (let full : State := { s with net := { s.net with flight := List.replicate 4 { net := x.2.1, core := 5 } } }
       canRun full x.1 low = true ∧ 4 ≤ full.inTransit x.2.1 5 0 ∧ (full.sendOut 5 x.2.1 15 (List.replicate x.2.2 7)).isNone = true) := by decide +kernel

theorem test_hyp_pops :
    ∀ x ∈ [(0x71, 1, 1), (0x73, 2, 1), (0x75, 0, 4)],
      let low := lowI 15 0 0 0xF00
      let s := wired x.1 low [{}, {}, {}, {}]
      canRun s x.1 low = true ∧ resI (wordOf x.1 low) = false ∧ vBad (iD (wordOf x.1 low)) = false ∧ s.mayPop 5 x.2.1 15 = true ∧
      (s.chanQueue 5 x.2.1 15).length = 4 ∧ x.2.2 ≤ 4 ∧ (s.core 5).bad = [] ∧ (∀ e ∈ s.chanQueue 5 x.2.1 15, e.place = none) ∧ s.mayPop 5 x.2.1 14 = false ∧ (wired x.1 low []).chanQueue 5 x.2.1 15 = [] := by decide +kernel

/-- Core 5's district is partition 31's, and so is counter 4,095, armed with generation 15, limit 16,384 and `next` fetched. -/
def counting (op : Nat) (low : BitVec 56) (next : Nat) (done : List Nat) : State :=
  let s := running op low 7 { scal := [(1, 4095), (2, BitVec.ofNat 64 (15 * 2 ^ 24 + 16383)), (3, BitVec.ofNat 64 (14 * 2 ^ 24))] }
  let s := ((s.setEntry 7 31 (1 + 2 * 2 ^ 64)).setEntry 8 4095 (0x80 + 31)).wr (Reg.SERVING_CTR_CFG 4095) (2 ^ 31 + 15 * 2 ^ 20 + 16384)
  { s.wr (Reg.SERVING_CTR_STATE 4095) next with net := { s.net with done } }

theorem test_hyp_counters :
    (let low := lowI 0 1 0 16384
     canRun (counting 0x80 low 0 []) 0x80 low = true ∧ (counting 0x80 low 0 []).ownsCounter 5 4095 = true ∧
     (resI (wordOf 0x80 low) || decide (bits (iImm (wordOf 0x80 low)) 14 0 = 0) || decide (16384 < bits (iImm (wordOf 0x80 low)) 14 0)) = false) ∧
    (let low := lowI 15 1 0 64
     let s := counting 0x81 low 16383 []
     canRun s 0x81 low = true ∧ s.ownsCounter 5 4095 = true ∧ s.fld (Reg.SERVING_CTR_CFG 4095) 31 31 = 1 ∧
     s.fld (Reg.SERVING_CTR_STATE 4095) 14 0 < s.fld (Reg.SERVING_CTR_CFG 4095) 14 0 ∧ s.ownsCounter 5 4094 = false ∧
     (resI (wordOf 0x81 low) || decide (bits (iImm (wordOf 0x81 low)) 6 0 = 0) || decide (64 < bits (iImm (wordOf 0x81 low)) 6 0)) = false) ∧
    (let low := lowI 15 1 2 0
     let s := counting 0x82 low (16383 * 2 ^ 16) []
     let v := ((s.core 5).s 2).toNat
     canRun s 0x82 low = true ∧ s.ownsCounter 5 4095 = true ∧ (resR (wordOf 0x82 low) || pBad (iD (wordOf 0x82 low))) = false ∧ bits v 15 0 = 16383 ∧
     bits v 27 24 = s.fld (Reg.SERVING_CTR_CFG 4095) 23 20 ∧ s.net.done.contains (4095 * 16384 + 16383) = false ∧
     s.fld (Reg.SERVING_CTR_STATE 4095) 30 16 + 1 = s.fld (Reg.SERVING_CTR_CFG 4095) 14 0 ∧
     (counting 0x82 low 0 [4095 * 16384 + 16383]).net.done.contains (4095 * 16384 + 16383) = true) ∧
    (let low := lowI 15 1 3 0
     let s := counting 0x82 low 0 []
     let v := ((s.core 5).s 3).toNat
     canRun s 0x82 low = true ∧ bits v 15 0 < 16384 ∧ bits v 27 24 ≠ s.fld (Reg.SERVING_CTR_CFG 4095) 23 20) := by decide +kernel

/-- The counter with nothing left to fetch, with and without re-issue, and not armed; and a completion of index 16,384. -/
theorem test_hyp_counters_end :
    (let s := counting 0x81 (lowI 15 1 0 64) 16384 [4095 * 16384]
     let u := s.setFld (Reg.SERVING_CTR_CFG 4095) 19 19 1
     s.fld (Reg.SERVING_CTR_CFG 4095) 14 0 ≤ s.fld (Reg.SERVING_CTR_STATE 4095) 14 0 ∧ s.fld (Reg.SERVING_CTR_CFG 4095) 19 19 = 0 ∧
     canRun u 0x81 (lowI 15 1 0 64) = true ∧ u.ownsCounter 5 4095 = true ∧ u.fld (Reg.SERVING_CTR_CFG 4095) 31 31 = 1 ∧
     u.fld (Reg.SERVING_CTR_CFG 4095) 19 19 = 1 ∧ u.net.done.contains (4095 * 16384) = true ∧ u.net.done.contains (4095 * 16384 + 1) = false ∧
     (s.setFld (Reg.SERVING_CTR_CFG 4095) 31 31 0).fld (Reg.SERVING_CTR_CFG 4095) 31 31 = 0) ∧
    bits (BitVec.ofNat 64 (15 * 2 ^ 24 + 16384)).toNat 15 0 = 16384 := by decide +kernel

/-- A DRAIN of the last row of tile 7 in FP32, with no step, fits the scratchpad. -/
theorem test_hyp_drain :
    (let low := lowM 0 1 2 7 1 0 0
     let s := shared (running 0x30 low 7 { scratch := [(0, 8), (5, 1)], scal := [(1, 4096)] })
     canRun s 0x30 low = true ∧ resM (wordOf 0x30 low) = false ∧ drainFault s 5 (wordOf 0x30 low) = none ∧
     (drainChain s 5 (wordOf 0x30 low)).fmt = 8) := by decide +kernel

/-- Core 5 at a boundary, with the next tile at the slot's last index; and at END. -/
def bounded (last : Bool) : State :=
  let s := running 0x00 0 7 { boundary := some (4095, last), item := some 3 }
  { s with serving := { s.serving with items := [{ uid := 3 }] } }

theorem test_hyp_boundary :
    (bounded false).coreState 5 = 1 ∧ ((bounded false).core 5).boundary = some (4095, false) ∧
    ((bounded false).core 5).item.bind (bounded false).item? = some { uid := 3 } ∧ ((bounded false).core 5).stop = false ∧
    ((bounded false).core 5).preempt = none ∧ ((bounded false).core 5).audit = none ∧ (bounded false).power.vmainGood = true := by decide +kernel

theorem test_ready_witness : up.ready ∧ linked.hostOpen ∧ (running 0x10 0 7 {}).ready := ⟨⟨rfl, rfl⟩, ⟨by decide, rfl⟩, ⟨rfl, rfl⟩⟩

/-! Registers and the milestone. -/

theorem test_hyp_register_writes :
    regWrite (.snapTake 32 1) = some (32, Reg.SNAP_CTRL, 1) ∧ linked.barOpen 32 = true ∧ State.reset.barOpen 32 = false ∧ linked.barOpen 0 = true ∧
    State.reset.barOpen 0 = false ∧ regWrite (.coreFaultClear 0 1023 0) = some (0, Reg.CORE_FAULT 1023, 0) := by
  decide +kernel

theorem test_hyp_leg_and_core_registers :
    linked.fld Reg.LEG_SYNC 1 0 < 2 ∧ (2 : Nat) ≤ (linked.wr Reg.LEG_SYNC 2).fld Reg.LEG_SYNC 1 0 ∧ bit (4 : W32).toNat 2 = true ∧
    bit (0x80000000 : W32).toNat 31 = true ∧ bit (1 : W32).toNat 0 = true ∧ bit (1 : W32).toNat 1 = false ∧ bit (2 : W32).toNat 1 = true ∧
    bits (125 : W32).toNat 13 0 = 125 ∧ bits (16000 : W32).toNat 13 0 = 16000 ∧ bits (124 : W32).toNat 13 0 < 125 ∧ 16000 < bits (16001 : W32).toNat 13 0 := by decide +kernel

/-- The timebase runs, at milestone 7 of a change armed for it. -/
def timed : State := { up with leg := { count := 7, counted := true, running := true, armed := some (7, 16000) } }

/-- A milestone with nothing late and nothing owed; and one whose number a message carried. -/
theorem test_hyp_steps_in_order : timed.endHandOff.stepOne.settle.leg.owed = none ∧ ({} : MileFacts).unfinished = none ∧ ({} : MileFacts).resumed = true ∧
    (let s : State := { timed with leg := { timed.leg with carried := some (9, some 125) } }
     s.nextCount ≠ s.ownNext ∧ s.nextLeg.fld Reg.LEG_PERIOD 13 0 = 125) := by decide +kernel

theorem test_hyp_milestone : timed.leg.running = true ∧ up.leg.running = false ∧ timed.leg.armed = some (7, 16000) ∧ timed.legCount = 7 ∧
    timed.takeChange.fld Reg.LEG_PERIOD 13 0 = 16000 ∧ ({ timed with leg := { timed.leg with count := 6 } } : State).legCount ≠ 7 := by decide +kernel

/-- Tree 0's in-port is port 15, and the module follows by mode 3; or by edges, in mode 2, three missed. -/
def follower (mode : Nat) : State :=
  let s := (up.setEntry 6 4096 (1 + 15 * 2 ^ 8)).wr Reg.LEG_SYNC mode
  { s with leg := { s.leg with missed := 3 } }

theorem test_hyp_followers :
    (follower 3).treeIn 0 = some 15 ∧ (follower 3).follows = true ∧ (follower 3).fld Reg.LEG_SYNC 1 0 = 3 ∧ (follower 3).treeIn 0 ≠ some 14 ∧
    (follower 2).fld Reg.LEG_SYNC 1 0 = 2 ∧ (follower 2).follows = true ∧ 3 ≤ (follower 2).leg.missed ∧ (follower 2).fld Reg.LEG_SYNC_STATUS 1 1 = 0 ∧
    up.fld Reg.LEG_SYNC 1 0 ≠ 2 := by decide +kernel

/-! Networks, presses, districts and stream engines. -/

/-- An entry of network 1 at core 5, of slot 3, circuit 2 and an epoch, which the route entry there delivers to a target. -/
def onItsWay (target epoch : Nat) (more : List Flight := []) : State :=
  { up with
    net := { flight := [{ net := 1, core := 5, entry := { slot := 3, circuit := 2, epoch, data := 65535 } }] ++ more }
    cores := [(5, { slots := Tab.set [] 3 { routes := [(66, BitVec.ofNat 32 (2 ^ 31 + 2 ^ 22 + target))] } })] }

/-- Input channel 15, and the room count of pair 63: a route entry's targets. -/
def toQueue : Nat := 15 * 2 ^ 8
def toRoom : Nat := 2 ^ 15 + 2 ^ 14 + 63 * 2 ^ 8

theorem test_hyp_arrivals :
    (let next (s : State) := s.nextArrival 1 5 (fun e => !bit e 15 && bits e 13 8 == 15)
     (next (onItsWay toQueue 0)).isSome = true ∧ next up = none ∧
     ((onItsWay toQueue 0 [{ net := 1, core := 5, port := 1, entry := { slot := 3, circuit := 2, data := 1 } }]).arrivals 1 5
       (fun e => !bit e 15 && bits e 13 8 == 15)).length = 2) ∧
    (onItsWay toQueue 0).epoch (State.districtOf 5) 3 = 0 ∧ (onItsWay toQueue 15).epoch (State.districtOf 5) 3 ≠ 15 ∧
    (onItsWay toQueue 0).chanRoom 5 3 1 15 1 = true ∧ ((onItsWay toQueue 0).chanQueue 5 1 15).length < queueDepth 1 ∧
    ((onItsWay toQueue 0).setQueue 5 1 15 (List.replicate 64 {})).chanRoom 5 3 1 15 1 = false ∧
    ((onItsWay toRoom 0).nextArrival 1 5 (fun e => bit e 15 && bits e 13 8 == 63 && bit e 14 == true)).isSome = true ∧
    ((onItsWay toRoom 0).setSemOwner 5 63 (some 3)).semOwner 5 63 = some 3 ∧ (onItsWay toRoom 0).semOwner 5 63 = none ∧
    (onItsWay toRoom 0).semCount 5 63 true + 65535 ≤ 65535 ∧
    (let s := ((onItsWay toRoom 0).setSemOwner 5 63 (some 3)).setSemCount 5 63 true 1
     s.semOwner 5 63 = some 3 ∧ 65535 < s.semCount 5 63 true + 65535) ∧
    (let s := (onItsWay toQueue 0).updCore 5 (fun k => { k with
       slots := Tab.set [] 3 { routes := [(66, BitVec.ofNat 32 (2 ^ 31 + 2 ^ 22 + toQueue))], inputs := [(31, BitVec.ofNat 32 (2 ^ 31 + 4095 * 2 ^ 18))] }
       queues := [(31, List.replicate 64 {})] })
     queueDepth 1 ≤ (s.chanQueue 5 1 15).length ∧ s.chanRoom 5 3 1 15 1 = true) := by decide +kernel

theorem test_hyp_advances :
    (let s : State := { up with net := { advances := [(1, 3, true)] } }
     s.net.advances.find? (fun a => a.1 == 1 && a.2.1 == 3) = some (1, 3, true) ∧ s.advanceBlocked 1 3 = false ∧
     ({ s with cores := [(5, { descs := [{ slot := 3, epoch := 1 }] })] } : State).advanceBlocked 1 3 = true) ∧
    (let s := up.setCoreState 5 1
     s.runningIn 1 = [5] ∧ s.tasksIn 1 = [] ∧ s.expert.blocks.any (fun b => (s.ctxDistricts b.ctx).contains 1) = false ∧ up.runningIn 1 = []) := by
  decide +kernel

/-- Unit 3 of core 5 merges channels 13 and 12 of network 1 into output 15 by the tokens of control channel 14. -/
def steered (token : List QEntry) : State :=
  let s := running 0x00 0 7 { slots := Tab.set [] 0 {
      outputs := [(31, 0x80000000)], inputs := [(28, 0x80000000), (29, 0x80000000), (46, 0x80000000)], routes := [(64, 0x81000000)], steer := Tab.set [] 3 (BitVec.ofNat 64 (4 * 2 ^ 61 + 2 ^ 60 + 14 * 2 ^ 52 + 13 * 2 ^ 48 + 12 * 2 ^ 44 + 31 * 2 ^ 39)) }, queues := [(28, [{ data := 2 }]), (29, [{ data := 1 }, { data := 3 }]), (46, token)] }
  { s with cores := s.cores ++ [(6, { slots := Tab.set [] 0 { routes := [(64, 0x80400F00)] } })] }

theorem test_hyp_steering :
    (steered [{ data := 1 }]).steerReady 5 3 = true ∧ (steered [{ data := 0 }]).steerReady 5 3 = true ∧ (steered []).steerReady 5 3 = false ∧
    (let g := (steered [{ data := 1 }]).steerCfg 5 3
     State.steerPlan g 1 = [(13, []), (12, [31])] ∧ ((State.steerPlan g 1).map (·.1)).Nodup ∧ State.steerNet g = 1 ∧ State.steerGroup g = 1 ∧
     (steered [{ data := 1 }]).ownsOut 5 1 15 = true ∧ bit 31 4 = true) := by decide +kernel

/-- Table 5.5: gate, copy or drop, select, merge, each with control bit 0 at 1. -/
theorem test_steering_table :
    State.steerPlan (1 * 2 ^ 61 + 3 * 2 ^ 48 + 20 * 2 ^ 39) 1 = [(3, [20])] ∧ State.steerPlan (1 * 2 ^ 61 + 3 * 2 ^ 48 + 20 * 2 ^ 39) 0 = [(3, [])] ∧
    State.steerPlan (3 * 2 ^ 61 + 3 * 2 ^ 48 + 4 * 2 ^ 44 + 20 * 2 ^ 39) 1 = [(4, [20])] := by decide

/-- The action of a press of image 1 in slot 3 of district 0, for partition 31. -/
def pressAction : Action := (BitVec.ofNat 64 (6 * 2 ^ 60 + 31 * 2 ^ 51 + 3 * 2 ^ 49 + 1 * 2 ^ 23), 0)

/-- Record 255 is a press's, in a phase and a state. -/
def pressing (phase state : Nat) : State :=
  { up with
    seams := { recs := [(255, { gen := 255, state, actions := [pressAction], scope := some (31, 3) })],
               presses := [{ seam := 255, part := 31, slot := 3, origin := 0, image := 1, phase }] }
    tier := { allocs := [(1, { part := 31, granules := 1 })] } }

theorem test_hyp_presses :
    (∀ x ∈ [(0, 3), (1, 4)], (pressing x.1 x.2).press? 255 = some { seam := 255, part := 31, slot := 3, origin := 0, image := 1, phase := x.1 } ∧
      (pressing x.1 x.2).seam? 255 = some { gen := 255, state := x.2, actions := [pressAction], scope := some (31, 3) } ∧
      (∀ y ∈ (pressing x.1 x.2).seams.presses, y = { seam := 255, part := 31, slot := 3, origin := 0, image := 1, phase := x.1 }) ∧
      (pressing x.1 x.2).serving.items = []) ∧
    (pressing 0 3).mayCommit { gen := 255, state := 3, actions := [pressAction], scope := some (31, 3) } = true ∧ [pressAction].map Seam.kind = [6] ∧
    rectCores 0 ((pressing 0 3).imgW 1) ((pressing 0 3).imgH 1) = [0, 1, 2, 3, 32, 33, 34, 35, 64, 65, 66, 67, 96, 97, 98, 99] ∧
    ({ pressing 0 3 with cores := [(0, { descs := [{ slot := 3 }] })] } : State).mayCommit
      { gen := 255, state := 3, actions := [pressAction], scope := some (31, 3) } = false ∧
    (List.range 64).all (fun c => (pressing 1 4).ctxState c == 0) = true := by decide +kernel

/-- District 63 in a state, with an operation under way where one is given. -/
def districted (state : Nat) (w : Option Wring) : State :=
  let s := (({ linked with power := up.power } : State).setFld (Reg.SERVING_DIST_STATUS 63) 2 0 state)
  match w with
  | none => s
  | some w => ({ s with net := { wrings := [(63, w)] } } : State).setFld (Reg.SERVING_DIST_WRING_STATUS 63) 31 31 1

theorem test_hyp_wrings :
    (let s := districted 0 none
     s.barOpen 0 = true ∧ s.fld (Reg.SERVING_DIST_WRING_STATUS 63) 31 31 = 0 ∧ s.pressWaits 63 = false ∧ s.tasksIn 63 = [] ∧ s.distState 63 ≠ 6 ∧
     bits (1 : W32).toNat 1 0 = 1 ∧ bits (2 : W32).toNat 1 0 = 2 ∧ bits (3 : W32).toNat 1 0 = 3) ∧
    (districted 6 none).distState 63 = 6 ∧
    (let s := districted 6 none
     s.net.flight = [] ∧ s.cores = [] ∧ ¬ (∀ f ∈ ({ s with net := { flight := [{ core := 1023 }] } } : State).net.flight, State.districtOf f.core ≠ 63)) ∧
    (let s := districted 0 (some { op := 3, granules := 255 })
     let seams : SeamSt := { presses := [{ seam := 255, part := 31, slot := 3, origin := 63, image := 1 }], recs := [(255, { state := 3, actions := [(BitVec.ofNat 64 (6 * 2 ^ 60 + 31 * 2 ^ 51 + 3 * 2 ^ 49 + 63 * 2 ^ 43 + 1 * 2 ^ 23), 0)] })] }
     Tab.find? s.net.wrings 63 = some { op := 3, granules := 255 } ∧ s.pressWaits 63 = false ∧ s.tasksIn 63 = [] ∧
     ({ s with seams } : State).pressWaits 63 = true) ∧
    (let s := districted 4 (some { op := 1, granules := 255 })
     Tab.find? s.net.wrings 63 = some { op := 1, granules := 255 } ∧ s.runningIn 63 = [] ∧ s.fld (Reg.SERVING_DIST_WRING_STATUS 63) 31 31 = 1 ∧
     (s.setCoreState 1023 1).runningIn 63 = [1023]) := by decide +kernel

/-- A scan-in of district 63 from granule 2, with no granules of scratchpad: a record of no queues, and one that is none. -/
theorem test_hyp_scan_in :
    (let s := districted 5 (some { op := 2, granule := 2, granules := 1 })
     fieldAt (s.largeRead 2 255 65536) 0 4 ≠ 0x47525747) ∧
    (let s := districted 5 (some { op := 2, granule := 2, granules := 1 })
     let t : State := { s with tier := { raw := [(131072, 0x47), (131073, 0x57), (131074, 0x52), (131075, 0x47), (131076, 63)] } }
     let b := t.largeRead 2 255 65536
     fieldAt b 0 4 = 0x47525747 ∧ fieldAt b 4 1 = 63 ∧ zerosAt b 0x14 44 = true ∧ fieldAt b 0x10 4 = 0 ∧
     (t.restoreEntries 63 0 []).isSome = true ∧ (t.restoreEntries 63 1 (leBytes 8 (3 * 2 ^ 60 + 15 * 2 ^ 50 + 2 ^ 39 + 2 ^ 38))).isSome = true) := by
  decide +kernel

/-- A PEER read of 16 bytes from core 4's scratchpad to core 5's, both of context 0 in slot 0. -/
def peer (state : Nat) : Desc :=
  { state, place := 3, part := 31, words := [BitVec.ofNat 64 (2 * 2 ^ 60 + 2 ^ 58 + 63 * 2 ^ 50 + 65535 * 2 ^ 33), 0, BitVec.ofNat 64 (4 * 2 ^ 59), 0] }

/-- Core 5 holds descriptors; context 0 lies over district 1, with shares of the whole scratchpad in slot 0. -/
def streaming (descs : List Desc) : State :=
  let s : State := { up with cores := [(5, { descs })] }
  let s := (s.wr (Reg.SERVING_CTX 0) (2 * 2 ^ 28 + 31 * 2 ^ 23 + 2 ^ 15)).setSemOwner 5 63 (some 0)
  (s.setFld (Reg.CORE_SHARE0 5) 13 8 48).setFld (Reg.CORE_SHARE0 4) 13 8 48

theorem test_hyp_descriptors :
    (let s := streaming [peer 0]
     s.descAt 5 false 3 = some (peer 0) ∧ (peer 0).kind = 2 ∧ (peer 0).ordered = false ∧ s.descFault 5 (peer 0) = none ∧
     s.descFault 5 { peer 0 with slot := 1 } = some 2 ∧ s.item? 0 = none) ∧
    (let x : Desc := { peer 0 with words := [BitVec.ofNat 64 (2 * 2 ^ 60 + 2 ^ 57)] }
     let s := streaming [{ place := 0 }, x]
     s.descAt 5 false 3 = some x ∧ x.ordered = true ∧ (s.engine 5 false).takeWhile (fun y => y.place != 3) ≠ []) ∧
    (let s := streaming [peer 1]
     (peer 1).pieces = [(0, 0, 16)] ∧ s.dataFault 5 (peer 1) = none ∧ s.writing (peer 1) = [] ∧ (peer 1).postFar = false ∧ (peer 1).postOn = true ∧ (peer 1).w 0 55 50 = 63 ∧
     (peer 1).w 0 48 33 = 65535 ∧ s.semOwner 5 63 = some 0 ∧ s.epoch (State.districtOf 5) 0 = 0 ∧ s.semCount 5 63 false + 65535 ≤ 65535) := by
  decide +kernel

/-- A PEER write in progress reaches what the read reads (R193), and not what a read of another core reads. -/
theorem test_write_in_progress :
    (let s := streaming [peer 1, { peer 1 with write := true }]
     (s.writing (peer 1)).length = 1 ∧ s.writing { peer 1 with words := [BitVec.ofNat 64 (2 * 2 ^ 60)] } = []) := by decide +kernel

/-- A REMOTE descriptor whose one far request, 7 to node 4,095, has not been answered; started 200 µs ago, or later. -/
def remote (startedAt : Nat) : State :=
  { up with cores := [(5, { descs := [{ state := 1, part := 31, startedAt, words := [BitVec.ofNat 64 (3 * 2 ^ 60)], reqs := [{ txn := 7, node := 4095 }] }] })],
            leg := { start := 20000 } }

theorem test_hyp_far_posts_and_timeouts :
    (let s : State := { up with net := { farPosts := [(5, 63, true, 2, 15, 1)] } }
     s.net.farPosts.find? (fun p => p.1 == 5 && p.2.1 == 63 && p.2.2.1 == true) = some (5, 63, true, 2, 15, 1) ∧ s.semOwner 5 63 = none ∧
     ((s.setSemOwner 5 63 (some 2)).setFld (Reg.SERVING_DIST_STATUS 1) 27 24 15).semOwner 5 63 = some 2 ∧
     ((s.setSemOwner 5 63 (some 2)).setFld (Reg.SERVING_DIST_STATUS 1) 27 24 15).epoch (State.districtOf 5) 2 = 15) ∧
    (let s : State := ({ up with net := { farPosts := [(5, 63, true, 2, 0, 1)] } } : State).setSemOwner 5 63 (some 2)
     s.semOwner 5 63 = some 2 ∧ 65535 < (s.setSemCount 5 63 true 65535).semCount 5 63 true + 1) ∧
    ((remote 0).farReq? 4095 7).isSome = true ∧ 0 + 20000 ≤ (remote 0).now ∧ (remote 1).now < 1 + 20000 ∧ (remote 0).item? 0 = none := by decide +kernel

/-! Messages. -/

/-- Full serving: partition 31 is enabled and has set 31's session, allocation 1 and model 1; every control processor runs. -/
def live : State :=
  let s : State := { up with
    host := { linkUp := true, mboxes := [(31, { session := some { major := 2 } })] }
    tier := { allocs := [(1, { part := 31, granules := 16 })] } }
  let s := ((s.setEntry 7 31 (3 + 2 * 2 ^ 64)).setEntry 7 95 (3 + 2 * 2 ^ 64)).setEntry 4 1 (3 + 2 ^ 63)
  let s := (List.range 4).foldl (fun s c => s.setFld (Reg.FW_STATUS c) 3 0 1) s
  ((s.setFld Reg.POWER_STATUS 2 0 4).setFld Reg.POWER_STATUS 22 20 4).wr (Reg.TIER_QUOTA 31) 0x1FFFFFF

/-- A message of a length to set 31, sequence 9: its body's first bytes, the rest zeros. -/
def mail (length : Nat) (body : List Byte) (major : Nat := 2) : HostHead :=
  { major, length, partByte := 31, seqNo := 9, body := body ++ List.replicate (length - 16 - body.length) 0 }

/-- It passes every test of Table 15.7. -/
def passes (s : State) (type : Nat) (h : HostHead) (fn : Nat := 0) : Bool :=
  let b := hostMessage type h
  !State.lengthBad b && fieldAt b 4 2 == b.length && s.headerStatus 31 fn b == 0

theorem accepts_of (s : State) (type : Nat) (h : HostHead) (fn : Fin 33) (hp : passes s type h fn.val = true) : s.accepts 31 fn type h := by
  simp only [passes, Bool.and_eq_true, Bool.not_eq_true', beq_iff_eq] at hp
  exact ⟨hp.1.1, hp.1.2, hp.2⟩

theorem test_accepts_witness : live.accepts 31 0 0x0011 (mail 32 (leBytes 8 7)) := accepts_of _ _ _ _ (by decide +kernel)

/-- Sizes, offsets and periods at the ends of their ranges. -/
theorem test_hyp_messages :
    passes live 0x0001 (mail 32 [2, 0] 1) = true ∧ passes State.reset 0x0001 (mail 32 [2, 0] 1) = false ∧
    passes live 0x0020 (mail 32 ([4, 0, 0, 0] ++ leBytes 4 16777216)) = true ∧ passes live 0x0020 (mail 32 [4, 0, 0, 0]) = false ∧
    passes live 0x0021 (mail 32 [1]) = true ∧ passes live 0x0022 (mail 64 [1, 0, 0, 0, 5, 0, 0, 0, 1]) = true ∧
    passes live 0x0023 (mail 48 [1]) = true ∧ passes live 0x0023 (mail 48 ([1, 0, 0, 0, 0, 0, 0, 0] ++ leBytes 8 1048560)) = true ∧
    passes live 0x0024 (mail 32 ([1, 0, 0, 0] ++ leBytes 2 2000)) = true ∧ passes live 0x0024 (mail 32 ([1, 0, 0, 0] ++ leBytes 2 2016)) = false ∧
    passes live 0x0030 (mail 48 ([0, 1] ++ List.replicate 22 0 ++ [0xB0])) = true ∧ passes live 0x0031 (mail 32 [255, 255]) = true ∧
    passes live 0x0042 (mail 32 (leBytes 2 16000)) = true ∧ passes live 0x0042 (mail 32 (leBytes 2 124)) = false ∧
    passes live 0x0043 (mail 32 (leBytes 2 1700)) = true ∧ passes live 0x0043 (mail 32 (leBytes 2 1701)) = false ∧
    passes live 0x0051 (mail 32 [255, 3, 3]) = true ∧ passes live 0x0060 (mail 32 [1, 0, 0, 0, 5]) = true ∧ passes live 0x0061 (mail 32 [3]) = true ∧
    passes live 0x0061 (mail 32 [4]) = false ∧ passes live 0x0061 (mail 32 [3]) 32 = false := by decide +kernel

theorem test_hyp_data :
    live.alloc? 1 = some { part := 31, granules := 16 } ∧ live.alloc? 2 = none ∧ live.cpUp 1 = true ∧ live.handleResult 31 1 = 0 ∧
    (let a : Alloc := { part := 31, granules := 16 }
     a.size = 1048576 ∧ a.meetsLost 0 1048576 = false ∧ a.mergesBad 0 1048576 = false ∧ a.meetsBad 0 1048576 = false ∧
     ({ a with bad := [65535] }).meetsBad 1048560 16 = true) ∧
    live.partEnabled 31 = true ∧ live.offBy (.partition 31) = false ∧ live.freeRecord = some 0 ∧ live.seam? 255 = none ∧
    Tab.find? live.seams.gens 255 ≠ some 255 ∧ Tab.find? live.tier.lastVersion 5 = none ∧
    live.grantStatus 31 1 753 = 0x11 ∧ live.grantStatus 31 0x80 1 = 0x10 := by decide +kernel

/-- An ALLOC in the large tier fits while no allocation stands: there is a handle whatever value is drawn. -/
theorem test_hyp_alloc :
    passes { live with tier := {} } 0x0020 (mail 32 [4, 0, 0, 0, 1]) = true ∧ ({ live with tier := {} } : State).grantStatus 31 4 1 = 0 := by
  refine ⟨by decide +kernel, ?_⟩
  have h : ({ live with tier := {} } : State).pickHandle ≠ none := by
    simp [State.pickHandle, State.handleFrom, State.handleFree, State.alloc?, Tab.find?]
  have h1 : Machine.flagsBad 4 = false := by decide
  have h2 : ¬ (Machine.baseTier 4 = 0) := by decide
  have h3 : ¬ (bit 4 3 = true) := by decide
  have h4 : ¬ (({ live with tier := {} } : State).fld (Reg.TIER_QUOTA 31) 24 0 < ({ live with tier := {} } : State).tierUsed 31 + 1) := by decide +kernel
  have h5 : ¬ (134217728 < ({ live with tier := {} } : State).dirUsed + 1) := by decide +kernel
  simp [State.grantStatus, h, h1, h2, h3, h4, h5]

theorem test_hyp_functions :
    passes live 0x0040 (mail 32 [0, 0, 0, 0, 31]) = true ∧ passes live 0x0040 (mail 32 [0, 1, 0, 0, 31]) = true ∧
    State.fnOf 31 0 (hostMessage 0x0040 (mail 32 [0, 0, 0, 0, 31])) = .partition 31 ∧ live.fnResult 31 0 (.partition 31) = 0 ∧
    live.fnResult 31 0 (.partition 30) = 1 ∧ passes live 0x0040 (mail 32 [1, 1, 0, 0, 1]) = true ∧ live.fnResult 31 0 (.model 1) = 0 ∧
    State.fnOf 31 0 (hostMessage 0x0040 (mail 32 [1, 1, 0, 0, 1])) = .model 1 ∧ passes live 0x0040 (mail 32 [2, 1, 0, 0, 255, 15]) = true ∧
    State.fnOf 31 0 (hostMessage 0x0040 (mail 32 [2, 1, 0, 0, 255, 15])) = .tenant 4095 ∧ live.fnResult 31 0 (.tenant 4095) = 0 ∧
    passes live 0x0040 (mail 32 [5, 0, 0, 0, 15]) = true ∧ State.fnOf 31 0 (hostMessage 0x0040 (mail 32 [5, 0, 0, 0, 15])) = .port 15 ∧
    passes live 0x0041 (mail 32 [0, 0, 0, 0, 31]) = true ∧ live.seams.recs = [] ∧ live.seams.presses = [] ∧ live.expert.blocks = [] ∧
    live.serving.reqs = [] := by decide +kernel

theorem test_hyp_queries :
    passes live 0x0050 (mail 32 [0]) = true ∧ passes live 0x0050 (mail 32 ([1, 0, 0, 0, 0, 0, 0, 0] ++ leBytes 8 31)) = true ∧
    fieldAt (hostMessage 0x0050 (mail 32 ([1, 0, 0, 0, 0, 0, 0, 0] ++ leBytes 8 31))) 0x18 8 = 31 ∧
    passes live 0x0050 (mail 32 ([1, 0, 0, 0, 0, 0, 0, 0] ++ leBytes 8 30)) = true ∧ passes live 0x0050 (mail 32 [2]) = true ∧ live.req? 0 = none ∧
    passes live 0x0050 (mail 32 [5]) = false := by decide +kernel

theorem test_hyp_updates :
    live.updateBusy = false ∧ (live.setFld (Reg.FW_STATUS 3) 3 0 2).updateBusy = true ∧ live.cpState 3 = 1 ∧
    (live.setFld (Reg.FW_STATUS 3) 3 0 4).cpState 3 = 4 ∧ live.host.restarts = [] ∧ live.host.restarting = none ∧ live.host.update = none ∧
    passes (live.updAlloc 1 (fun a => { a with published := some (5, 1) })) 0x0060 (mail 32 [1, 0, 0, 0, 5, 0, 0, 0, 1]) = true := by decide +kernel

/-- A SEAM_ABORT names record 255 of generation 255 of the set's own partition, which has not committed, or has. -/
theorem test_hyp_seam_abort :
    ∀ st ∈ [2, 3, 4, 5],
      let x : Seam := { gen := 255, state := st, submitter := 6, scope := some (31, 0), host := some (31, 9) }
      let s : State := { live with seams := { recs := [(255, x)] } }
      passes s 0x0031 (mail 32 [255, 255]) = true ∧ fieldAt (hostMessage 0x0031 (mail 32 [255, 255])) 0x10 2 = 65535 ∧ s.seam? 255 = some x ∧
      x.gen = 65535 / 256 := by decide +kernel

/-- A single-pass REQUEST for model 1 with its ranges in allocation 1; one of prompt length 0 is refused. -/
def asked (prompt : Nat) : HostHead :=
  mail 80 (leBytes 8 7 ++ [0, 0, 0, 0] ++ leBytes 2 0 ++ leBytes 2 1 ++ leBytes 2 0 ++ leBytes 2 prompt ++ leBytes 4 0 ++ leBytes 4 0 ++
    leBytes 4 64 ++ leBytes 8 (2 ^ 44) ++ leBytes 8 (2 ^ 44 + 64 * 2 ^ 12) ++ leBytes 4 64)

/-- With the requests allowed to queue, and tenant 0 enabled. -/
def asking : State := (live.wr (Reg.SERVING_PART_QCFG 31) 16384).setEntry 2 0 (0x80 * 2 ^ 40 + 2 ^ 32 + 0xFFFFFFFF)

theorem test_hyp_requests :
    passes asking 0x0010 (asked 16) = true ∧ asking.admissionTest 31 (ReqBody.ofBytes (hostMessage 0x0010 (asked 16))) = (0, 0) ∧
    passes asking 0x0010 (asked 0) = true ∧ (asking.admissionTest 31 (ReqBody.ofBytes (hostMessage 0x0010 (asked 0)))).1 = stReqBad ∧
    stReqBad ≠ 0 ∧ stReqBad ≠ stOverload ∧ stReqBad ≠ stNoPlan := by decide +kernel

/-! The tier store and seams. -/

/-- Allocation 1,048,575 in a state of its own. -/
def holding (a : Alloc) : State := { up with tier := { allocs := [(1048575, a)] } }

theorem test_hyp_free_and_publish :
    (let a : Alloc := { part := 31, granules := 1, freeing := some (some (31, 9)) }
     (holding a).alloc? 1048575 = some a ∧ (holding a).seamNames 1048575 = false ∧ (holding a).freeRecord ≠ none ∧
     (holding a).cores.any (fun x => x.2.descs.any (fun d => d.state != 0 && (d.kind == 1 || d.kind == 4) && d.handle == 1048575)) = false ∧
     ({ holding a with seams := { recs := [(0, { actions := [(BitVec.ofNat 64 (2 ^ 60 + 1048575 * 2 ^ 36), 0)] })] } } : State).seamNames 1048575 = true) ∧
    (let u : Publication := { object := 5, version := 2, host := some (31, 9) }
     let a : Alloc := { part := 31, granules := 0, publishing := some u }
     (holding a).alloc? 1048575 = some a ∧ (a.meetsBad 0 a.size || a.meetsLost 0 a.size) = false ∧ Tab.find? (holding a).tier.lastVersion 5 = none ∧
     ({ a with granules := 1, bad := [0] } : Alloc).meetsBad 0 65536 = true ∧
     (holding a).cores.any (fun x => x.2.descs.any (fun d => d.state != 0 && d.write && d.kind == 1 && d.handle == 1048575)) = false) := by decide +kernel

/-- Record 255, prepared by this module or another, moves granule 0 of an allocation to place 256 of the large tier. -/
def moving (tier : Nat) : State :=
  { holding { part := 31, flags := 4, granules := 1 } with
    seams := { recs := [(255, { gen := 255, state := 3, actions := [(BitVec.ofNat 64 (2 ^ 60 + 1048575 * 2 ^ 36 + tier * 2 ^ 10), 256)] })] } }

theorem test_hyp_moves :
    (let s := moving 1
     let x : Seam := { gen := 255, state := 3, actions := [(BitVec.ofNat 64 (2 ^ 60 + 1048575 * 2 ^ 36 + 2 ^ 10), 256)] }
     let w := Act.of (BitVec.ofNat 64 (2 ^ 60 + 1048575 * 2 ^ 36 + 2 ^ 10), 256)
     s.seam? 255 = some x ∧ w.kind = 1 ∧ w.handle = 1048575 ∧ w.tier = 1 ∧ w.location = 256 ∧ (s.alloc? w.handle).isSome = true ∧
     s.keptSeam x = false ∧ s.seams.presses = [] ∧ s.tier.moveAcks = []) ∧
    up.fld Reg.TIER_SCRUB_CTRL 8 8 = 1 ∧ (up.setFld Reg.TIER_SCRUB_CTRL 8 8 0).fld Reg.TIER_SCRUB_CTRL 8 8 = 0 ∧ (2 : Nat) ≤ live.phase := by decide +kernel

theorem test_plain_witness : Seam.plain { gen := 255, scope := some (31, 3), host := some (31, 9) } :=
  ⟨by decide, rfl, rfl, by simp, by simp⟩

/-- Every record is in use. -/
def crowded (s : State) : State := { s with seams := { recs := (List.range 256).map (fun k => (k, { state := 2 })) } }

/-- A charge of 7 tokens to tenant 4,095 (Table 9.3). -/
def charge : Action := (BitVec.ofNat 64 (11 * 2 ^ 60 + 4095 * 2 ^ 44), 7)
/-- A tenant charge by submitter 2, in a state. -/
def chargeSeam (state : Nat) : Seam := { gen := 255, state, submitter := 2, scope := some (31, 3), actions := [charge], openedTime := 0 }

theorem test_hyp_seams :
    (crowded live).freeRecord = none ∧ live.freeRecord = some 0 ∧ live.scopeOff (chargeSeam 2) = false ∧
    ({ live with serving := { live.serving with disabled := [.partition 31] } } : State).scopeOff (chargeSeam 2) = true ∧ actionBad charge = false ∧ live.seamNodes [charge] = [] ∧ (Act.of charge).kind = 11 ∧
    (Act.of charge).index = 4095 ∧ (Act.of charge).value = 7 ∧
    (let s : State := { live with seams := { recs := [(255, chargeSeam 2)] } }
     s.seam? 255 = some (chargeSeam 2) ∧ s.heldBack 255 (chargeSeam 2) = false ∧ s.awaitsWash (chargeSeam 2) = false ∧ State.seamPresses (chargeSeam 2) = [] ∧ s.keyHeld (chargeSeam 2) = false ∧
     (s.prepareAll 255 (chargeSeam 2)).isRight = true ∧
     s.mayCommit { chargeSeam 3 with participants := [{ node := 1 }] } = false) := by decide +kernel

/-- An end of slot 8,191's request is in place where the slot is free; a table write to a table entry that no host may write fails its
check; a move of a granule another prepared seam holds is held back. -/
theorem test_hyp_seams_turned_away :
    (let a : Action := (BitVec.ofNat 64 (7 * 2 ^ 60 + 8191 * 2 ^ 43), 5)
     live.keyHeld { actions := [a] } = true ∧ live.heldBack 255 { actions := [a] } = false) ∧
    (let a : Action := (BitVec.ofNat 64 (8 * 2 ^ 60 + 8191 * 2 ^ 43), 5)
     live.keyHeld { actions := [a] } = false ∧ (live.prepareAll 255 { actions := [a], submitter := 2, scope := some (31, 3) }).isLeft = true) ∧
    (let a : Action := (BitVec.ofNat 64 (2 ^ 60 + 1048575 * 2 ^ 36 + 2 ^ 10), 256)
     (moving 1).awaitsWash { actions := [a] } = true ∧ ({ moving 1 with tier := { (moving 1).tier with washed := 3 } } : State).awaitsWash { actions := [a] } = false) ∧
    (let s : State := { pressing 0 3 with tier := { allocs := [(1, { part := 31, granules := 1, published := some (5, 1), dir := [(0, { state := 1, tier := 2 })] })] } }
     s.imageBelow 31 1 = [0]) ∧
    (moving 1).heldBack 254 { actions := [(BitVec.ofNat 64 (2 ^ 60 + 1048575 * 2 ^ 36 + 2 * 2 ^ 10), 0)] } = true := by decide +kernel

theorem test_hyp_seam_times :
    (let late (n : Nat) : State := { live.wr Reg.SEAM_CTRL 200 with leg := { start := n } }
     0 + 100 * (late 20000).fld Reg.SEAM_CTRL 15 0 ≤ (late 20000).now ∧ (late 19999).now < 0 + 100 * (late 19999).fld Reg.SEAM_CTRL 15 0) ∧
    [charge].all (fun a => Seam.kind a != 6) = true ∧ bit (65536 : W32).toNat 16 = true := by decide +kernel

/-- Record 255 coordinates nodes 4,095 and 7. -/
def coordinating (state status phase7 : Nat) : State :=
  { live with seams := { recs := [(255, { gen := 255, state, status, submitter := 2, participants := [{ node := 4095 }, { node := 7, phase := phase7 }] })] } }

theorem test_hyp_coordinators :
    (∀ x ∈ [(2, 0, 0), (3, 0, 3), (5, 1, 3)],
      (coordinating x.1 x.2.1 x.2.2).coordRecord 4095 65535 = some 255 ∧
      (coordinating x.1 x.2.1 x.2.2).seam? 255 =
        some { gen := 255, state := x.1, status := x.2.1, submitter := 2, participants := [{ node := 4095 }, { node := 7, phase := x.2.2 }] }) ∧
    (let s : State := { live with seams := { recs := [(255, { gen := 255, state := 2, participants := [{ node := 4095, phase := 0 }] })] }, leg := { start := 20000 } }
     s.coordRecord 4095 65535 = some 255 ∧ 0 + 20000 ≤ s.now) ∧
    live.nodeLost 4095 = false ∧ (live.cause.tx.filter (fun f => !f.unacked.isEmpty)).length < State.flowLimit := by decide +kernel

theorem test_can_send_witness : live.canSend 4095 := ⟨by decide +kernel, by decide +kernel⟩

/-- A post of 65,535 to pair 63 of core 4, of slot 3 in partition 31's district. -/
def postAction : Action := (BitVec.ofNat 64 (4 * 2 ^ 60 + 4 * 2 ^ 39 + 3 * 2 ^ 32 + 63 * 2 ^ 26 + 65535 * 2 ^ 9), 0)

/-- A participant of node 4,095's seam 65,535 in a state. -/
def taking (state : Nat) : Seam :=
  { gen := 255, state, submitter := 8, coordNode := 4095, coordSeam := 65535, actions := [postAction], epochs := [0], scope := some (31, 0) }

theorem test_hyp_participants :
    actionBad postAction = false ∧ (Act.of postAction).kind = 4 ∧ (Act.of postAction).core = 4 ∧ bit (0x9F : BitVec 8).toNat 7 = true ∧
    live.districtOwner (State.districtOf 4) = some (bits (0x9F : BitVec 8).toNat 4 0) ∧ live.partOfName 4095 65535 = none ∧ live.seams.recs = [] ∧
    (crowded live).partOfName 4095 65535 = none ∧ live.recordOfId 65535 = none ∧
    (let s : State := ({ live with seams := { recs := [(255, taking 3)] }, leg := { start := 50000 } } : State).setSemOwner 4 63 (some 3)
     s.partOfName 4095 65535 = some 255 ∧ s.seam? 255 = some (taking 3) ∧ s.semOwner 4 63 = some 3 ∧ s.epoch (State.districtOf 4) 3 = 0 ∧
     s.semCount 4 63 false + (Act.of postAction).value ≤ 65535 ∧ (taking 3).askedAt + 50000 ≤ s.now ∧ s.recordOfId 65535 = some 255) ∧
    (∀ st ∈ [3, 4, 5], ({ live with seams := { recs := [(255, { gen := 255, state := st, status := 1, submitter := 2 })] } } : State).recordOfId 65535 = some 255) := by
  decide +kernel

/-! The prefix index, the expert exchange, residency and broadcasts. -/

theorem test_hyp_prefix :
    (∀ mode ∈ [1, 2],
      let q : PrefixPending := { handle := 1048575, part := 31, blocks := [(0xABCD, 3)] }
      let s : State := { live with serving := { live.serving with prefixPending := [q] }, tier := { allocs := [(1048575, { part := 31, published := some (5, 1) })] } }
      let s := s.setFld (Reg.SERVING_PREFIX_PART 31) 1 0 mode
      s.serving.prefixPending.find? (fun q => q.handle == 1048575) = some q ∧ s.prefixMode 31 = mode ∧ s.lookup (mode - 1) 31 0xABCD = none ∧
      (s.roomInGroup (mode - 1) 0xABCD none).any (fun i => !(s.node_ (mode - 1) i).valid) = true) ∧ live.cpUp 0 = true ∧
    live.fld Reg.SERVING_PREFIX_CTRL 4 0 = 20 ∧ bit (0x100 + 20 : W32).toNat 8 = true ∧ bits (0x100 + 20 : W32).toNat 4 0 = 20 ∧
    bits (16 : W32).toNat 4 0 = 16 ∧ bits (24 : W32).toNat 4 0 = 24 ∧ bits (1600 : W32).toNat 16 0 = 1600 ∧ bits (80000 : W32).toNat 16 0 = 80000 ∧
    bits (1599 : W32).toNat 16 0 < 1600 ∧ 80000 < bits (80001 : W32).toNat 16 0 := by decide +kernel

/-- Model 1's expert 0 of layer 0 is hosted by a node: capacity 1, rows of 64 elements, FP8 in and FP32 out. -/
def placed (s : State) (node : Nat) : State :=
  s.setEntry 5 128 (leNat ([1, 1, 1, 5, 1, 0, 1, 8, 0, 0, 0, 0, 0, 0, 0, 0] ++ leBytes 2 (0xC000 + node)))

/-- Context 0 is partition 31's and of model 1, for experts or not; a dispatch block waits in it, whose header and record stand in its port. -/
def dispatching (blocks : List DispBlock) (expert : Nat := 0) : State :=
  let s : State := { live with
    expert := { blocks }, serving := { live.serving with items := [{ uid := 3, seqs := [0] }], ctxs := [(0, { seamPort := 6 })] }
    tier := { allocs := [(7, { part := 31, granules := 16, data := Mem.write [] 0 (leBytes 4 0x4B505344 ++ [0, 0, 1, 0, 1, 0, 0, 0] ++ leBytes 4 128 ++
      leBytes 4 192 ++ leBytes 4 192 ++ List.replicate 40 0 ++ [4]) })] } }
  let s := s.setEntry 7 31 (3 + 2 * 2 ^ 64 + 0xFF * 2 ^ 56)
  placed (s.wr (Reg.SERVING_CTX 0) (2 * 2 ^ 28 + 31 * 2 ^ 23 + 2 ^ 15 + expert * 2 ^ 14 + 1)) (if expert = 1 then 0 else 4095)

/-- A held block with one choice in a state. -/
def held1 (state : Nat) : DispBlock := { item := 3, held := true, choices := [{ tag := 4, host := 4095, txn := 7, state }] }

theorem test_hyp_blocks :
    (let w : DispBlock := { item := 3 }
     let s := dispatching [w]
     let u : State := { s with expert := { s.expert with blocks := s.expert.blocks.erase w } }
     s.expert.blocks.find? (fun b => b.ctx == 0 && !b.held) = some w ∧ u.blockBad (u.readBlock w) = false ∧
     (u.readBlock w).choices = [{ tag := 4 }] ∧ u.choiceHost (u.readBlock w) { tag := 4 } = .inr (4095, none) ∧ s.node = 0 ∧
     (s.expert.blocks.filter (fun b => b.ctx == 0 && b.held)).length < 8) ∧
    ((dispatching ({ item := 3 } :: (List.range 8).map (fun i => { off := 64 * i, held := true }))).expert.blocks.filter
      (fun b => b.ctx == 0 && b.held)).length = 8 ∧
    (let b := held1 1
     (dispatching [b]).expert.blocks.find? (fun b => b.held && b.choices.any (fun x => x.host == 4095 && x.txn == 7 && x.state != 0)) = some b ∧
     (1 : W64).getLsbD 0 = true) ∧
    (dispatching [held1 2]).grantedChoice 4 = some (held1 2, { tag := 4, host := 4095, txn := 7, state := 2 }) ∧ bit (held1 2).post 7 = false ∧
    (dispatching [held1 1]).grantedChoice 4 = none ∧ (dispatching []).expert.abandoned.contains 4 = false ∧
    (let x : Choice := { tag := 4, state := 2 }
     let b : DispBlock := { held := true, choices := [x, { tag := 0x4004 }] }
     (dispatching [b]).grantedChoice 4 = some (b, x) ∧ (∃ y ∈ b.choices, y.tag ≠ 4 ∧ y.state < 3) ∧
     (b.choices.filter (fun y => y.tag == 4)).length = 1 ∧ b.choices[0]? = some x ∧
     (dispatching [b]).expert.blocks.find? (fun b => b.ctx == 0 && b.off == 0 && b.held) = some b ∧
     ({ dispatching [b] with leg := { start := 6300 } } : State).now = 6300 ∧ 100 * (dispatching [b]).fld Reg.SERVING_EXPERT_CTRL 21 16 ≤ 6300) := by
  decide +kernel

theorem test_hyp_hosts :
    (let c : Claim := { node := 4095, txn := 7, part := 31, model := 1, tags := [(0xFFF0000000000004, 0)] }
     let s : State := dispatching [] 1
     let s : State := { s with expert := { s.expert with claims := [c], windows := [(expertKey 1 none 0xFFF0000000000004, 0)] }, leg := { start := 256 } }
     s.fld Reg.SERVING_EXPERT_CTRL 11 0 ≠ 0 ∧ Tab.find? s.expert.windows (expertKey 1 none 0xFFF0000000000004) = some 0 ∧
     0 * 16 + s.fld Reg.SERVING_EXPERT_CTRL 11 0 ≤ s.now * 16 ∧ (s.expertCtx 1).isSome = true ∧
     s.expertHost 1 (tagLayer 0xFFF0000000000004) (tagExpert 0xFFF0000000000004) = some s.node ∧
     s.expertUsed (expertKey 1 none 0xFFF0000000000004) < s.expertCapacity 1 0 ∧
     ({ s with expert := { s.expert with used := [(expertKey 1 none 0xFFF0000000000004, 1)] } } : State).expertUsed
       (expertKey 1 none 0xFFF0000000000004) = s.expertCapacity 1 0) ∧
    (let h : Hosted := { node := 4095, part := 31, model := 1, tag := 0xFFF0000000000004 }
     let s : State := { dispatching [] 1 with expert := { hosted := [h] } }
     s.expert.hosted.find? (fun h => h.node == 4095 && h.tag == 0xFFF0000000000004 && h.row.isNone) = some h ∧ (s.expertCtx h.model).isSome = true ∧
     s.serving.items.all (fun i => !i.standing) = true) ∧
    (let b : BayExpert := { part := 31, patch := 65535, object := 5, version := 1, expert := 7 }
     ({ live with expert := { bays := [b] } } : State).bayEntry 31 5 1 7 = some b ∧ b.resident = false) := by decide +kernel

/-- Context 63 of model 1 over district 1, in a state; with what it is leaving for, or how far it has formed. -/
def residing (state : Nat) (x : Ctx) : State :=
  let s : State := { live with serving := { live.serving with ctxs := [(63, x)] } }
  (s.setEntry 4 1 (3 + 2 ^ 63)).wr (Reg.SERVING_CTX 63) (state * 2 ^ 28 + 31 * 2 ^ 23 + 3 * 2 ^ 21 + 2 ^ 15 + 1)

theorem test_hyp_contexts :
    (let s := residing 1 { formStep := 2, images := [1] }
     s.ctxState 63 = 1 ∧ (s.ctx 63).formStep = 2 ∧ s.ctxDisabled 63 = false ∧ s.freeRecord ≠ none ∧ ∀ h ∈ (s.ctx 63).images, h < 2 ^ 20) ∧
    (let s := residing 4 { leaving := 1 }
     let held : State := { s with cores := [(4, { descs := [{ slot := 3 }] })] }
     s.ctxState 63 = 4 ∧ s.ctxQuiet 63 = true ∧ (s.ctx 63).formsFor = none ∧ held.ctxQuiet 63 = false ∧
     (held.ctxDistricts 63).filter (fun d => !held.quiet d (held.ctxSlot 63)) = [1] ∧ held.pressWaits 1 = false ∧ held.tasksIn 1 = [] ∧
     held.runningIn 1 = []) ∧
    (let s := residing 3 { leaving := 2 }
     s.ctxState 63 = 3 ∧ s.ctxQuiet 63 = true ∧ s.serving.items.any (fun i => i.context == 63 && i.started && !i.done) = false ∧
     max 1 (s.saveGranules 63) = 1) := by decide +kernel

/-- The save of a demoted context fits while no allocation stands. -/
theorem test_hyp_demotion : ({ live with tier := {} } : State).grantStatus 31 4 1 = 0 := test_hyp_alloc.2

/-- Tree 255's in-port is 15; this module reads for it, or receives, or both; object 5 version 1 has 16 granules. -/
def broadcasting (reads receives : Nat) (l : List Broadcast) : State :=
  let s : State := { live with cause := { broadcasts := l }
                               tier := { washed := 0x1800000, allocs := [(1048575, { part := 31, granules := 16, published := some (5, 1) })] } }
  (s.setEntry 6 4351 (reads + 2 * receives + 15 * 2 ^ 8)).setEntry 7 31 (3 + 2 * 2 ^ 64 + 0xFF * 2 ^ 56)

theorem test_hyp_broadcasts :
    (let s := broadcasting 1 1 []
     s.treeIn 255 = some 15 ∧ bit (s.ent 6 (4096 + 255) 0 1) 1 = true ∧ s.objectHandle 5 1 = some 1048575 ∧ s.largeFree ≠ 0 ∧
     s.tierUsed 31 < s.fld (Reg.TIER_QUOTA 31) 24 0 ∧ s.tier.replicas = [] ∧ s.treeIn 255 ≠ some 14 ∧ s.fld (Reg.FW_STATUS 2) 3 0 = 1 ∧
     bit (s.ent 6 (4096 + 255) 0 1) 0 = true ∧ bits (s.ent 6 (4096 + 255) 4 2) 11 0 = s.node ∧ s.broadcast? 255 5 1 = none) ∧
    (let b : Broadcast := { tree := 255, object := 5, version := 1, count := 1, part := 31, received := [15], blocks := (List.range 15).map (15 * 16 + ·) }
     let s := broadcasting 1 1 [b]
     s.broadcast? 255 5 1 = some b ∧ (∀ i, i < 16 → i ≠ 15 → b.blocks.contains (15 * 16 + i) = true) ∧ (∀ i, i < 1 → b.received.contains (i + 15) = true)) ∧
    (let b : Broadcast := { tree := 255, object := 5, version := 1, part := 31, reader := true }
     let s := broadcasting 1 1 [b]
     s.broadcast? 255 5 1 = some b ∧ s.granuleReadable 1048575 15 = true ∧ s.nodeLost 4095 = false ∧ s.partVcs 31 ≠ []) ∧
    (let r : Replica := { object := 5, version := 1, granule := 15, part := 31, tier := 1, making := true }
     let s : State := { live with tier := { replicas := [r] } }
     s.tier.replicas.find? (fun r => r.object == 5 && r.version == 1 && r.granule == 15 && r.making) = some r) := by decide +kernel

/-! Causeway. -/

/-- Port 15 in a state, of role 1 and enabled, lit; with the rest of it. -/
def ported (state : Nat) (x : PortSt) : State :=
  let s : State := { live with cause := { ports := [(15, x)] } }
  (s.wr (Reg.CAUSEWAY_PORT_STATUS 15) (state * 2 ^ 28 + 8)).wr (Reg.CAUSEWAY_PORT_CTRL 15) 5

/-- One byte of the CRC. -/
def crcByte (c : W32) (b : Byte) : W32 :=
  crcStep (crcStep (crcStep (crcStep (crcStep (crcStep (crcStep (crcStep (c ^^^ b.setWidth 32))))))))

/-- A data flit on VC 7, response class, seq 4,095, that starts a packet with the bytes 1 and 2 (Table 14.2). -/
def flitFront : List Byte :=
  leBytes 12 (2 ^ 92 + 7 * 2 ^ 89 + 2 ^ 88 + 4095 * 2 ^ 76 + 2 ^ 63 + 2 * 2 ^ 54) ++ [1, 2] ++ List.replicate 238 0

theorem flit_crc : crc32c flitFront = 0x0D6D72E0 := by
  have h1 : (flitFront.take 42).foldl crcByte 0xFFFFFFFF = 0x3256C862 := by decide +kernel
  have z : flitFront.drop 42 = List.replicate 42 0 ++ (List.replicate 42 0 ++ (List.replicate 42 0 ++ (List.replicate 42 0 ++ List.replicate 42 0))) := by
    decide +kernel
  have h2 : (List.replicate 42 (0 : Byte)).foldl crcByte 0x3256C862 = 0xFFE6C20D := by decide +kernel
  have h3 : (List.replicate 42 (0 : Byte)).foldl crcByte 0xFFE6C20D = 0x9CA75FE8 := by decide +kernel
  have h4 : (List.replicate 42 (0 : Byte)).foldl crcByte 0x9CA75FE8 = 0x3E6B0182 := by decide +kernel
  have h5 : (List.replicate 42 (0 : Byte)).foldl crcByte 0x3E6B0182 = 0x179193E4 := by decide +kernel
  have h6 : (List.replicate 42 (0 : Byte)).foldl crcByte 0x179193E4 = 0xF2928D1F := by decide +kernel
  have h : flitFront.foldl crcByte 0xFFFFFFFF = 0xF2928D1F := by
    rw [← List.take_append_drop 42 flitFront, List.foldl_append, h1, z]
    simp only [List.foldl_append, h2, h3, h4, h5, h6]
  show ~~~(flitFront.foldl crcByte 0xFFFFFFFF) = 0x0D6D72E0
  rw [h]; decide

/-- Such a flit is read; 256 bytes of zeros are none. -/
theorem test_flit_read :
    State.readFlit (flitFront ++ leBytes 4 0x0D6D72E0) = some { kind := 1, vc := 7, cls := 1, seq := 4095, sop := true, payload := [1, 2] } := by
  have h : crc32c ((flitFront ++ leBytes 4 0x0D6D72E0).take 252) = 0x0D6D72E0 := by
    rw [show (flitFront ++ leBytes 4 0x0D6D72E0).take 252 = flitFront from by decide +kernel, flit_crc]
  simp only [State.readFlit, h]
  decide +kernel

theorem test_flit_refused : State.readFlit [] = none := by decide +kernel
theorem test_crc32c : crc32c [0x31, 0x32, 0x33, 0x34, 0x35, 0x36, 0x37, 0x38, 0x39] = 0xE3069283 := by decide +kernel

theorem test_hyp_links :
    (let s := ported 3 { step := 5, rxNext := 4095, retry := [({ seq := 4094 }, 6), ({ seq := 4095 }, 0)], retryAsked := true, delays := List.replicate 8 9 }
     (2 : Nat) ≤ (s.port 15).step ∧ s.portReady 15 = true ∧ s.portState 15 = 3 ∧ (s.port 15).retryAsked = true ∧
     (s.port 15).retry.findIdx (fun f => f.1.seq == 4095) = 1 ∧ (s.port 15).retry.findIdx (fun f => f.1.seq == 0) = 2 ∧
     (∀ f ∈ (s.port 15).retry, f.2 < 7)) ∧
    (ported 1 { step := 2 }).portState 15 ≠ 3 ∧ (ported 1 { step := 2 }).portState 15 ≠ 4 := by decide +kernel

theorem test_hyp_ports :
    (let s := ported 0 {}
     s.portState 15 = 0 ∧ s.fld (Reg.CAUSEWAY_PORT_CTRL 15) 2 2 = 1 ∧ s.fld (Reg.CAUSEWAY_PORT_CTRL 15) 1 0 ≠ 0 ∧
     s.fld (Reg.CAUSEWAY_PORT_STATUS 15) 3 3 = 1 ∧ s.fld Reg.CAUSEWAY_STATUS 31 31 = 0 ∧ ∀ q, q < 16 → s.portState q = 0) ∧
    (let s := (ported 1 { step := 2, farState := 1 }).setFld (Reg.CAUSEWAY_PORT_STATUS 15) 27 16 4095
     s.portState 15 = 1 ∧ (s.port 15).step = 2 ∧ s.refuses 15 = false) ∧
    (let s := (ported 1 { step := 3, delays := List.replicate 8 9 }).setFld Reg.POWER_STATUS 2 0 3
     (s.port 15).step = 3 ∧ (8 : Nat) ≤ (s.port 15).delays.length ∧ s.phase ≠ 4) ∧
    (let s := ((ported 2 { step := 4, farState := 2 }).setFld (Reg.CAUSEWAY_PORT_STATUS 15) 27 16 4095).setFld (Reg.CAUSEWAY_PORT_STATUS 15) 2 0 4
     s.portState 15 = 2 ∧ (s.port 15).step = 4 ∧ s.phase = 4 ∧ s.fld (Reg.CAUSEWAY_PORT_STATUS 15) 2 0 = 4 ∧ s.refuses 15 = false ∧
     s.nodeLost (s.fld (Reg.CAUSEWAY_PORT_STATUS 15) 27 16) = false ∧ s.fld (Reg.CAUSEWAY_PORT_CTRL 15) 1 0 ≠ 3) ∧
    bits (BitVec.ofNat 42 (4 * 2 ^ 38)).toNat 41 38 = 4 ∧ bits (BitVec.ofNat 42 (3 * 2 ^ 38)).toNat 41 38 = 3 := by decide +kernel

/-- A message from node 4,095 of an incarnation and a number; and what its flow has received. -/
def arriving (incarnation seq : Nat) : Message := { flow := { node := 4095 }, incarnation, seq, txn := { op := 0x07 } }
/-- The flow has received all before `next`, and holds a list. -/
def received (next : Nat) (held : List (Nat × Txn)) : State :=
  { live with cause := { rx := [{ id := { node := 4095 }, next, held, ackDue := true }], known := [(4095, 65535)], lost := [(7, 1)] } }

theorem test_hyp_transport :
    (arriving 65535 0).good = true ∧ (received 0 []).nodeLost 4095 = false ∧ (received 0 []).nodeLost 7 = true ∧
    Tab.find? (received 0 []).cause.known 4095 = some 65535 ∧ (received 0 []).cause.parked = [] ∧
    (received 4294967295 []).cause.rx.find? (fun f => decide (f.id = (arriving 65535 63).flow)) =
      some { id := { node := 4095 }, next := 4294967295, held := [], ackDue := true } ∧
    (63 + 2 ^ 32 - 4294967295) % 2 ^ 32 = 64 ∧ 64 < (64 + 2 ^ 32 - 4294967295) % 2 ^ 32 ∧
    (let s : State := { live with cause := { tx := [{ id := { node := 4095 }, unacked := [(4294967295, {})] }] } }
     s.cause.tx.find? (fun f => decide (f.id = { node := 4095 })) = some { id := { node := 4095 }, unacked := [(4294967295, {})] }) := by decide +kernel

theorem test_hyp_membership :
    (let s := live.setEntry 6 4095 1
     4095 ≠ s.node ∧ s.nodeLost 4095 = false ∧ 4095 ∉ s.cause.probes ∧ s.routeValid 4095 = true ∧ s.seams.recs = [] ∧ s.tier.rebuilds = [] ∧
     s.expert.blocks = [] ∧ s.cores = [] ∧ s.cause.acted = [] ∧ s.cause.joined = [] ∧ s.cause.known = [] ∧ s.node = 0 ∧ s.incarnation = 0) ∧
    (let s : State := { up with cause := { probes := [4095], known := [(4095, 65535)], everTrained := true } }
     4095 ∈ s.cause.probes ∧ (4095, Tab.get 0 s.cause.known 4095) ∉ s.cause.acted ∧ s.tier.allocs = []) ∧
    (let s : State := { up with cause := { everTrained := true } }
     (∀ p, p < 16 → s.portState p < 2 ∨ 4 < s.portState p) ∧ s.fld Reg.CAUSEWAY_STATUS 30 30 = 0) := by decide +kernel

theorem test_hyp_far_accesses :
    live.handleRefusal 31 1 1048575 1 false = 0 ∧ live.handleRefusal 31 1 1048576 1 true = 3 ∧ live.handleRefusal 30 1 0 1 false = 4 ∧
    (let s : State := { live with tier := { lent := [(2, 4095)] } }
     Tab.find? s.tier.lent (383 / 128) = some 4095 ∧ 65535 + 1 ≤ 65536) ∧
    (let a : Action := (BitVec.ofNat 64 (2 ^ 60 + 1048575 * 2 ^ 36 + 2 ^ 10), 256)
     let y : Seam := { submitter := 8, coordNode := 4095, state := 3, actions := [a] }
     (Act.of a).kind = 1 ∧ (Act.of a).handle = 1048575 ∧ (Act.of a).granule = 0 ∧ y.state ≤ 3) ∧
    live.partValid 31 = true ∧ live.partValid 30 = false ∧
    (let d (write : Bool) : Desc := { state := 1, write, part := 31, reqs := [{ txn := 7, node := 4095, pieces := [(0, 64, 16)] }] }
     ∀ w ∈ [false, true], ({ up with cores := [(5, { descs := [d w] })] } : State).farReq? 4095 7 =
       some (5, d w, { txn := 7, node := 4095, pieces := [(0, 64, 16)] })) := by decide +kernel

/-! The host interface. -/

theorem test_hyp_register_access :
    linked.fld Reg.GLOBAL_DOMAIN_STATUS 0 0 ≠ 1 ∧ (linked.setFld Reg.GLOBAL_DOMAIN_STATUS 0 0 1).fld Reg.GLOBAL_DOMAIN_STATUS 0 0 = 1 ∧
    Tab.find? linked.posted 3 = none ∧ State.reset.barOpen 32 = false ∧ 6 % 8 ≠ 0 ∧ (findReg (Reg.GLOBAL_SCRATCH 3)).isSome = true ∧
    linked.blockUp (Reg.GLOBAL_SCRATCH 3) = true ∧ State.slowDomain (Reg.GLOBAL_SCRATCH 3) = none ∧
    "GLOBAL_SCRATCH" ∉ actingRegs ∧ findReg 0x1FFFFFC = none ∧
    (findReg 0).any (fun r => r.fields.all (fun f => f.acc == .RO)) = true ∧ (linked.vector 0 33).pending = false := by decide +kernel

/-- Set 31 through its virtual function: slot 15 is the host's or the module's; a ring and a backlog. -/
def boxed (owner : Nat) (m : Mbox) : State := ({ live with host := { live.host with mboxes := [(31, m)] } } : State).setOwnership 31 15 owner

theorem test_hyp_slots :
    (boxed 0 {}).barOpen 32 = true ∧ State.setOf 32 31 = true ∧ State.setOf 31 31 = false ∧ bits ((boxed 0 {}).ownership 31 15) 1 0 = 0 ∧
    bits ((boxed 2 {}).ownership 31 15) 1 0 = 2 ∧
    (let m : Mbox := { outProd := 32, outCons := 0, backlog := [List.replicate 32 0] }
     (boxed 0 m).ringFits 31 (List.replicate 32 0) = true ∧ ((32 : W32) - m.outCons).toNat ≤ (m.outProd - m.outCons).toNat ∧
     (m.outProd - m.outCons).toNat < ((33 : W32) - m.outCons).toNat ∧
     (boxed 0 { m with outProd := 32768 }).ringFits 31 (List.replicate 32 0) = false) ∧
    (let s : State := { live with host := { live.host with
       vectors := [(32 * 64 + 33, { held := true, masked := false, lastSent := some 0 })], fns := [(32, { busMaster := true, msixEnable := true })] }, leg := { start := 102300 } }
     (s.vector 32 33).held = true ∧ s.vectorOpen 32 33 = true ∧ 0 + s.holdoff ≤ s.now ∧ (live.vector 32 33).held = false ∧ live.vectorOpen 32 33 = false) := by
  decide +kernel

theorem test_hyp_configuration :
    State.reset.host.linkUp = false ∧ (live.fnState 0).resetting = false ∧ live.host.linkUp = true ∧ (0 : Nat) ≤ live.host.numVfs ∧
    (∀ w, w < 34 → (live.vector 0 w).pending = false) ∧ (({ live with host := { live.host with fns := [(32, { resetting := true })] } } : State).fnState 32).resetting = true := by
  decide +kernel

/-! Processors, management and the life cycle. -/

/-- Set in the management domain: VAUX is good. -/
def alive : State := { live with power := { live.power with vauxGood := true } }

theorem test_hyp_processors :
    live.cpState 3 = 1 ∧ (live.setFld (Reg.FW_STATUS 3) 3 0 2).cpState 3 = 2 ∧ (live.setFld (Reg.FW_STATUS 3) 3 0 4).cpState 3 = 4 ∧
    live.barOpen 0 = true ∧ (List.range 4).filter (fun d => bit (8 : W32).toNat d) = [3] ∧ ((List.range 4).filter (fun d => bit (9 : W32).toNat d)).length ≠ 1 ∧
    live.host.restarts = [] ∧ live.residents = [] ∧ live.host.deferred = [] ∧ live.host.update = none ∧
    (let u : Update := { step := 6, host := some (31, 9) }
     let s : State := ({ live with host := { live.host with update := some u } } : State).setFld (Reg.FW_STATUS 0) 3 0 3
     s.host.update = some u ∧ State.handOffCp 6 = 0 ∧ s.cpState 0 = 3 ∧ s.imageCheck u.image = 1) := by decide +kernel

/-- An image of no parts passes if its signature does (R475, Table 18.2). -/
theorem test_hyp_image (h : ∀ k m g, Config.slhDsaVerify k m g = true) :
    (let m : Mem := Mem.write [] 0 (leBytes 4 0x544F4F42 ++ [1, 0] ++ List.replicate 58 0 ++ sha256 [] ++ sha256 [])
     let s : State := { alive with store := { boot := [(1, m)] }, enclave := { keyHashes := [(0, BitVec.ofNat 256 (leNat (sha256 [])))] } }
     s.imageCheck (Tab.get [] s.store.boot 1) = 0) := by
  simp only [State.imageCheck, h]
  decide +kernel

theorem test_hyp_boot : alive.bootChoice = none ∧ alive.enclave.state ≠ 4 := by decide +kernel

theorem test_hyp_management :
    alive.power.vauxGood = true ∧ alive.mgmtReady = true ∧ (alive.setFld Reg.POWER_STATUS 2 0 3).mgmtReady = false ∧ alive.updateBusy = false ∧
    alive.enclave.aliasFailed = none ∧ (alive.measurement 8).isSome = true ∧ alive.measurement 9 = none ∧
    Tab.find? ({ alive with host := { alive.host with ring := [(1023, ({}, false))] } } : State).host.ring (2047 % 1024) = some ({}, false) ∧
    ({ alive with power := { alive.power with beatAt := some 0 }, leg := { start := 300000000 } } : State).now = 0 + 300000000 ∧
    alive.fld Reg.POWER_STATUS 27 27 = 0 := by decide +kernel

/-- A signed token of the owner with the good nonce begins the change from OWNED to FIELD_DEBUG's turn, where Table 18.4 lets it. -/
theorem test_hyp_token (h : ∀ k m g, Config.slhDsaVerify k m g = true) :
    (let s : State := { alive with enclave := { state := 1, nonce := some ([], 0) } }
     s.tokenCause { command := 2, dsn := s.serial } = 0 ∧ s.tokenCause { command := 2, dsn := s.serial, nonce := [1] } ≠ 0) := by
  simp only [State.tokenCause, h]
  decide +kernel

theorem test_hyp_reset_of_a_token :
    (alive.setFld Reg.STORE_STATUS 27 27 1).fld Reg.STORE_STATUS 27 27 = 1 ∧ alive.power.saving = none ∧ alive.power.held = false ∧ alive.enclave.state ≠ 3 ∧
    ({ alive with enclave := { state := 3 } } : State).enclave.state = 3 := by decide +kernel

/-! The store, the start and power. -/

/-- The store serves, with target 7. -/
def storing (x : Target) : State :=
  ({ live with store := { targets := [(7, x)], mapChanges := 6144, unwritten := [(1, 0)] } } : State).wr Reg.STORE_STATUS (2 * 2 ^ 28 + 2 ^ 27)

theorem test_hyp_store :
    (storing {}).storeOpen = true ∧ live.storeOpen = false ∧ Tab.find? (storing { blocks := 100 }).store.targets 7 = some { blocks := 100 } ∧
    1 * 100 < 100 * 2 ∧ 100 * 2 ≤ 2 * 100 ∧ 20 < (2 - 0) * 20 ∧ (1 - 0) * 20 ≤ 20 ∧ (6144 : Nat) ≤ (storing {}).store.mapChanges ∧
    (storing {}).fld Reg.STORE_SCRUB_CTRL 8 8 = 1 ∧ ((storing {}).setFld Reg.STORE_SCRUB_CTRL 8 8 0).fld Reg.STORE_SCRUB_CTRL 8 8 = 0 ∧
    (1, 0) ∈ (storing {}).store.unwritten ∧ (1, 1) ∉ (storing {}).store.unwritten ∧ (storing {}).seams.recs = [] ∧ (storing {}).store.replies = [] ∧
    ((storing {}).setFld (Reg.LPDDR_SUB 127) 31 28 2).fld (Reg.LPDDR_SUB 127) 31 28 = 2 ∧ 127 < (storing {}).subChannels ∧
    (storing {}).fld Reg.LPDDR_CTRL 8 8 = 1 := by decide +kernel

/-- VAUX is good and P1 has ended: what START_GRANT or VMAIN still lacks is given or not. -/
def starting (p1 : Bool) : State := { State.reset with power := { vauxGood := true, p1Done := p1 } }

theorem test_hyp_start :
    State.reset.power.vauxGood = false ∧ State.reset.power.saving = none ∧ (starting false).stopped = false ∧ (starting false).tripped = false ∧
    (starting false).power.p1Done = false ∧ (starting true).power.p1Done = true ∧ (starting true).power.pwrfail = false ∧ (starting true).power.held = false ∧
    (starting true).power.resetPin = false ∧ (starting true).power.loadsOn = false ∧ ((starting true).setFld Reg.POWER_RAILS 11 0 800).fld Reg.POWER_RAILS 11 0 = 800 ∧
    (starting true).fld Reg.POWER_RAILS 11 0 < 800 ∧ (starting true).power.perst = true := by decide +kernel

theorem test_hyp_phases :
    (let s := up.setFld Reg.POWER_STATUS 2 0 1
     s.phase = 1 ∧ s.stopped = false ∧ (∀ p, p < 32 → s.entry 7 p = s.partCommitted p) ∧ s.objectHandle (s.cfg 0x48 4) (s.cfg 0x4C 4) = none) ∧
    (let s := up.setFld Reg.POWER_STATUS 2 0 2
     s.phase = 2 ∧ s.store.taken = none ∧ s.enclave.erased = false ∧ 127 < s.subChannels ∧ ({ s with part := .H } : State).subChannels = 64) ∧
    (let s := up.setFld Reg.POWER_STATUS 2 0 3
     s.phase = 3 ∧ s.settled = true ∧ (∀ p, p < 16 → s.portState p ≠ 2) ∧
     (s.wr Reg.LEG_SYNC 3).settled = false) := by decide +kernel

theorem test_hyp_failures :
    (let s := (storing {})
     s.fld Reg.STORE_STATUS 27 27 = 1 ∧ s.power.saving = none ∧ s.power.held = false ∧ live.fld Reg.STORE_STATUS 27 27 = 0) ∧
    (let s : State := { alive with power := { alive.power with saving := some 5, resetDue := true }, store := { sealed := some { saveSeq := 1 } } }
     s.power.saving = some 5 ∧ s.store.sealed = some { saveSeq := 1 } ∧ s.power.vauxGood = true ∧ s.newestSave = none ∧
     (∀ b, s.enclave.pending ≠ some (4, b)) ∧
     ({ s with store := { s.store with saves := [(1, {})] } } : State).newestSave = some (1, {})) ∧
    (let s : State := ({ alive with power := { alive.power with held := true } } : State).setFld Reg.POWER_RAILS 11 0 800
     s.power.held = true ∧ s.tripped = false ∧ (800 : Nat) ≤ s.fld Reg.POWER_RAILS 11 0) := by
  refine ⟨by decide +kernel, ⟨rfl, rfl, rfl, rfl, nofun, rfl⟩, by decide +kernel⟩

theorem test_hyp_samples :
    alive.power.vauxGood = true ∧ alive.tripped = false ∧ (alive.setFld Reg.POWER_STATUS 30 30 1).tripped = true ∧
    ({ alive with power := { alive.power with powerClear := some 0 }, leg := { start := 100000 } } : State).now = 0 + 100000 ∧
    (alive.setFld Reg.POWER_STATUS 25 23 1).fld Reg.POWER_STATUS 25 23 = 1 ∧ alive.store.supplyOff = false ∧ bits (800 : W32).toNat 10 0 = 800 ∧
    bits (1700 : W32).toNat 10 0 = 1700 := by decide +kernel

theorem test_life_cycle_witness : State.reset.lifeCycleLegal := ⟨by decide, by decide, by decide, nofun⟩

theorem test_hyp_queue :
    State.reset.pending = [] ∧ State.reset.leg.running = false ∧ timed.leg.running = true ∧ timed.pending = [] ∧
    ({ live with pending := [.nop 5 0, .lcNonce] } : State).pending = .nop 5 0 :: [.lcNonce] ∧
    ofDie (.nop 5 0) = true ∧ State.reset.power.vmainGood = false ∧ State.reset.due = [] ∧ reachesLifeCycle .lcNonce = false ∧
    ({ State.reset with enclave := { state := 4 } } : State).enclave.state = 4 := ⟨rfl, rfl, rfl, rfl, rfl, rfl, rfl, rfl, rfl, rfl⟩

/-! Further clauses. -/

/-- Unit 3 of core 5 is a gate of channel 13, to output 15 or to input channel 12. -/
def gated (out : Nat) (token : BitVec 512) (owned : Bool) : State :=
  running 0x00 0 7 { slots := Tab.set [] 0 {
      outputs := if owned then [(31, 0x80000000)] else [], inputs := [(28, 0x80000000), (29, 0x80000000), (46, 0x80000000)], routes := [(64, 0x81000000)]
      steer := Tab.set [] 3 (BitVec.ofNat 64 (2 ^ 61 + 2 ^ 60 + 14 * 2 ^ 52 + 13 * 2 ^ 48 + out * 2 ^ 39)) }
                     queues := [(29, [{ data := 1 }]), (46, [{ data := token }])] }

theorem test_hyp_gates :
    (let s := gated 12 1 true
     s.steerReady 5 3 = true ∧ State.steerPlan (s.steerCfg 5 3) (s.steerToken 5 3) = [(13, [12])] ∧ bit 12 4 = false ∧ (s.chanQueue 5 1 12).length + 1 ≤ queueDepth 1) ∧
    (let s := gated 31 1 false
     s.steerReady 5 3 = true ∧ State.steerPlan (s.steerCfg 5 3) (s.steerToken 5 3) = [(13, [31])] ∧ bit 31 4 = true ∧ s.ownsOut 5 1 15 = false) ∧
    (let s := gated 31 0 true
     s.steerReady 5 3 = true ∧ State.steerPlan (s.steerCfg 5 3) (s.steerToken 5 3) = [(13, [])] ∧
     ∀ q ∈ (s.core 5).queues, ∀ e ∈ q.2, e.place = none) ∧
    ((gated 31 1 true).sendOut 5 1 15 [1]).isSome = true := by decide +kernel

/-- A task aborted: the core's item is off the list. A core that ran within 40.96 µs, one that did not, and one whose descriptor is under way. -/
theorem test_hyp_tasks :
    (let s := (counting 0x80 (lowI 0 1 0 16384) 0 []).updCore 5 (fun k => { k with item := some 9 })
     canRun s 0x80 (lowI 0 1 0 16384) = true ∧ s.ownsCounter 5 4095 = true ∧ (s.core 5).item ≠ none ∧ s.item? 9 = none) ∧
    (let s (n : Nat) : State := { up.setCoreState 5 1 with leg := { start := n } }
     (s 4096).lastMoved 1 + 4096 ≤ (s 4096).now ∧ (s 4095).now < (s 4095).lastMoved 1 + 4096 ∧ (s 4096).moving 1 = false ∧
     ({ s 4096 with cores := [(5, { descs := [{ state := 1 }] })] } : State).moving 1 = true) := by decide +kernel

/-- A number carried for the instant; the length two edges gave; an instant past, and one to come. -/
theorem test_hyp_leg_ends :
    (let s : State := { timed with leg := { timed.leg with carried := some (99, some 2000) } }
     s.leg.carried = some (99, some 2000) ∧ s.leg.running = true) ∧
    (let s : State := { timed.wr Reg.LEG_SYNC 2 with leg := { timed.leg with edgeLen := some 77 } }
     s.fld Reg.LEG_SYNC 1 0 = 2 ∧ s.fld Reg.LEG_SYNC_STATUS 1 1 = 0 ∧ s.leg.edgeLen = some 77 ∧ s.follows = true ∧ s.leg.armed = some (s.legCount, 16000)) ∧
    (follower 3).instantPast = false ∧ ({ follower 3 with leg := { counted := true } } : State).instantPast = true ∧
    ({ follower 2 with leg := { lastEdge := some 0 } } : State).leg.lastEdge = some 0 := by decide +kernel

/-- A press waits since instant 0, for 100 µs or less. -/
theorem test_hyp_press_wait :
    (0 + 10000 ≤ ({ pressing 0 3 with leg := { start := 10000 } } : State).now) ∧ ({ pressing 0 3 with leg := { start := 9999 } } : State).now < 0 + 10000 := by
  decide +kernel

/-- A TIER write whose granule can have no home yet; a write whose local unit is unreadable. -/
theorem test_hyp_descriptors_that_wait :
    (let x : Desc := { write := true, part := 31, words := [BitVec.ofNat 64 (2 ^ 60), 16, BitVec.ofNat 64 (1048575 * 2 ^ 44)] }
     let s : State := { up with cores := [(5, { descs := [x] })], tier := { allocs := [(1048575, { part := 31, flags := 4, granules := 1 })] } }
     x.kind = 1 ∧ (s.waitsForWash x = true ∨ x.granules = [])) ∧
    ({ up with cores := [(5, { bad := [0] })] } : State).scratchBad 5 0 16 = true := by decide +kernel

/-- A request holds the version of a patch object; a seam waits for a home; an error not mended. -/
theorem test_hyp_tier_waits :
    (let a : Alloc := { part := 31, granules := 1, freeing := some (some (31, 9)), published := some (5, 2) }
     ([{ patchValid := true, patchObject := 5, patchVersion := 2 }] : List Req).any (fun r => r.patchValid && (r.patchHandle == 1048575 ||
       a.published == some (r.patchObject, r.patchVersion))) = true) ∧
    (crowded (holding {})).freeRecord = none ∧
    (let s : State := { moving 1 with tier := { (moving 1).tier with moveAcks := [{ seam := 255 }] } }
     ∃ m ∈ s.tier.moveAcks, m.seam = 255) ∧
    up.atSector 0 3 = none ∧ (0 : Nat) < up.largeUsable * 128 ∧
    (let s : State := { up with tier := { lent := [(2, 7), (3, 7)], recalls := [(7, 1)], borrowed := [(7, 1), (8, 3)] } }
     s.recallCause = true ∧ s.lentFree = s.tier.borrowed ∧ s.tier.borrowed.Nodup ∧ s.tier.called = [] ∧ s.tier.unhomed = []) ∧
    (let s : State := { live with tier := { poison := [1024 * 2], lent := [(2, 4095)] } }
     s.rawBad 256 0 16 = false ∧ s.rawBad 128 0 16 = true ∧ s.rawMerges 128 0 16 = true ∧ s.rawMerges 128 0 32 = false) := by decide +kernel

/-- A DATA_PUT into an allocation that may lie in the large tier, washed or not; a participant's part in state 3. -/
theorem test_hyp_messages_that_wait :
    (let a : Alloc := { part := 31, flags := 4, granules := 16 }
     let s : State := { live with tier := { allocs := [(1, a)] } }
     let t : State := { s with tier := { s.tier with washed := 0x180 } }
     s.homeWaits a [15] = true ∧ t.homeWaits a [15] = false ∧ t.writeBad a 1048560 16 = false ∧ t.readable none 31 a 0 2000 = true ∧
     passes t 0x0023 (mail 48 ([1, 0, 0, 0, 0, 0, 0, 0] ++ leBytes 8 1048560)) = true ∧
     (((t.updAlloc 1 (fun a => { a with hostWritten := true })).landBytes 1 1048560 (List.replicate 16 0)).lentRequests 1 1048560 16 true).2 = []) ∧
    (let x : Seam := { gen := 255, state := 3, submitter := 8, scope := some (31, 0) }
     passes { live with seams := { recs := [(255, x)] } } 0x0031 (mail 32 [255, 255]) = true) := by decide +kernel

/-- An emergency disable of tenant 4,095 ends its one request, which is in no slot. -/
theorem test_hyp_emergency :
    (let r : Req := { id := 7, part := 31, tenant := 4095 }
     let s : State := { live with serving := { live.serving with reqs := [r, { id := 8, part := 31 }] } }
     passes s 0x0040 (mail 32 [2, 1, 0, 0, 255, 15]) = true ∧ s.fnResult 31 0 (.tenant 4095) = 0 ∧ s.serving.reqs.filter (State.Fn_hits (.tenant 4095)) = [r] ∧
     s.req? 7 = some r ∧ s.freeRecord.isSome = true ∧ s.serving.reqs.any (State.Fn_hits (.partition 30)) = false) := by decide +kernel

/-- A post to node 4,095, which that node alone takes part in. -/
theorem test_hyp_posts_elsewhere :
    (let a : Action := (BitVec.ofNat 64 (4 * 2 ^ 60 + 4095 * 2 ^ 44 + 3 * 2 ^ 32 + 63 * 2 ^ 26 + 5 * 2 ^ 9), 0)
     live.actionNode a = some 4095 ∧ live.seamNodes [a] = [4095] ∧ Seam.kind a = 4) := by decide +kernel

/-- A formation whose share range is free of the tier's granules, with an image of its model; a load or a replica whose bytes are coming. -/
theorem test_hyp_formations :
    (let s := residing 1 { formStep := 2, images := [1] }
     let s : State := { s with tier := { s.tier with allocs := [(1, { part := 31, granules := 1, data := [(6, 1)] })] } }
     s.ctxState 63 = 1 ∧ s.shareRangeClear 63 = true ∧ s.freeRecord = some 0 ∧ bits (s.peekNat 1 6 2) 9 0 = s.ctxModel 63 ∧ s.ctxDisabled 63 = false) ∧
    (let s := residing 1 { formStep := 2 }
     ({ s with serving := { s.serving with disabled := [.partition 31] } } : State).ctxDisabled 63 = true) ∧
    (let s : State := { live with tier := { allocs := [(1, { part := 31, granules := 1, published := some (5, 1) })], fetches := [{ handle := 1, granule := 2 }] } }
     s.tier.fetches.any (fun f => f.granule == 2 && (s.alloc? f.handle).bind (·.published) == some (5, 1)) = true) := by decide +kernel

theorem test_hyp_pairs_of_codewords :
    (let s := ported 1 { step := 2, rxFlit := 0 }
     (2 : Nat) ≤ (s.port 15).step ∧ (s.port 15).rxFlit = 0 ∧ (({ uncorrectable := 1 } : FlitFacts).uncorrectable != 0) = true) ∧
    (let s := ported 3 { step := 5, rxFlit := 4, pairBad := true }
     (s.port 15).pairBad = true ∧ (s.port 15).retryAsked = false ∧ s.portState 15 = 3) := by decide +kernel

/-- The store serves and no record waits: work is done at once. With a record waiting it stands in the queue. -/
def working (x : Target) (unwritten : List (Nat × Nat)) : State :=
  ({ live with store := { targets := [(7, x)], mapChanges := 6144, unwritten } } : State).wr Reg.STORE_STATUS (2 * 2 ^ 28 + 2 ^ 27)

theorem test_hyp_store_queue :
    (∀ w ∈ [StoreWork.collect 7 1 5 3 2 1 9 4, .collect 7 0 5 3 2 1 9 4, .level 7 5 1 9 4, .writeback 9, .compact 1, .scrub 1 2 3 4 none],
      let x : Target := { blocks := 100, eraseMin := 0, eraseMax := 2, rating := 20 }
      let asked (s : State) : StoreReq := { work := w, ahead := if s.workStep w = 1 then s.store.unwritten else [] }
      let queued (s : State) : State := { s with store := { s.store with queue := [asked s] } }
      (working x []).workDue w = true ∧ (working x []).workWaits (asked (working x [])) = false ∧ (working x []).store.queue = [] ∧
      (queued (working x [(1, 0)])).nextWork = some (asked (working x [(1, 0)])) ∧ (working x [(1, 0)]).workWaits (asked (working x [(1, 0)])) = true) ∧
    (let s : State := { working {} [(1, 0)] with store := { (working {} [(1, 0)]).store with queue := [{ work := .level 7 5 1 9 4 }] } }
     s.pending = [] ∧ s.store.queue ≠ [] ∧ ∀ y ∈ s.store.queue, (tick s).workWaits y = true) ∧
    (working {} []).tier.unhomed = [] ∧ Tab.find? (working {} []).store.targets 6 = none := by decide +kernel

/-- A seam was cut off by the loss of power; one that the save does not hold is cut off. -/
theorem test_hyp_seams_cut_off :
    ({ up with power := { up.power with cutSeams := [(65535, some (31, 3))] } } : State).power.cutSeams.length = 1 ∧
    (let s : State := { storing {} with seams := { recs := [(255, chargeSeam 3)] } }
     s.seam? 255 = some (chargeSeam 3) ∧ s.saveImage.seams.any (fun y => y.1 == 255) = false) := by decide +kernel

/-! Single commands, by the manual's tables. -/

theorem test_add_wraps :
    ((after (running 0x10 (lowI 3 1 2 0) 7 { scal := [(1, 0xFFFFFFFFFFFFFFFF), (2, 1)] }) (.add 5 (lowI 3 1 2 0))).core 5).s 3 = 0 ∧
    ((after (running 0x10 (lowI 0 1 2 0) 7 { scal := [(1, 5), (2, 1)] }) (.add 5 (lowI 0 1 2 0))).core 5).s 0 = 0 := by decide +kernel

theorem test_max_is_unsigned :
    ((after (running 0x19 (lowI 3 1 2 0) 7 { scal := [(1, 0xFFFFFFFFFFFFFFFF), (2, 1)] }) (.max 5 (lowI 3 1 2 0))).core 5).s 3 = 0xFFFFFFFFFFFFFFFF := by
  decide +kernel

theorem test_movhi_keeps_the_low_half :
    ((after (running 0x1B (lowI 3 0 0 0xABCD) 7 { scal := [(3, 0x1111111122222222)] }) (.movhi 5 (lowI 3 0 0 0xABCD))).core 5).s 3 = 0x0000ABCD22222222 := by
  decide +kernel

theorem test_cmp_signed :
    ((after (running 0x1C (lowI 3 1 2 4) 7 { scal := [(1, 0xFFFFFFFFFFFFFFFF), (2, 1)] }) (.cmp 5 (lowI 3 1 2 4))).core 5).p 3 = true ∧
    ((after (running 0x1C (lowI 3 1 2 2) 7 { scal := [(1, 0xFFFFFFFFFFFFFFFF), (2, 1)] }) (.cmp 5 (lowI 3 1 2 2))).core 5).p 3 = false := by decide +kernel

/-- The last instruction of a body goes back to its first while passes are left (R70). -/
theorem test_loop_goes_back :
    ((after (running 0x00 0 9 { loops := [(3, 9, 2)] }) (.nop 5 0)).core 5).pc = 3 ∧
    ((after (running 0x00 0 9 { loops := [(3, 9, 1)] }) (.nop 5 0)).core 5).pc = 10 := by decide +kernel

/-- Tables 4.1 and 4.2: the largest FP8 E4M3 and FP16 values, a BF16, an INT8. -/
theorem test_formats :
    FV.toW32 0 (decodeElem 0x05 0x7E) = 0x43E00000 ∧ FV.toW32 0 (decodeElem 0x07 0xC000) = 0xC0000000 ∧ FV.toW32 0 (decodeElem 0x08 0x3F800000) = 0x3F800000 := by
  decide +kernel

/-- FP32 sums round to the nearest, ties to even. -/
theorem test_fp32_rounding :
    addW 0 0x3F800000 0x33800000 = 0x3F800000 ∧ addW 0 0x3F800001 0x33800000 = 0x3F800002 := by decide +kernel

theorem test_reset_registers :
    State.reset.rd Reg.LEG_PERIOD = 1000 ∧ State.reset.rd (Reg.CORE_ID 1023) = 63 * 1024 + 31 * 32 + 31 ∧ State.reset.legCount = 0 ∧
    State.reset.pending = [] := by decide +kernel

end Sys2Proof.Tests
end

section
/-!
Register writes by the host (chapter 19): what a write to BAR0 comes to by its offset and size (R490 to R492), by the register's
domain (R494) and by the access codes of its fields (Table 0.4), what a write of one aliased bit comes to (R501, R502), and what a
snapshot holds (R497). O48 is assembled from these rules.
-/
namespace Sys2Proof.Machine

namespace Tab

/-- Keys written one after another, each with a value that depends on the key alone, read that value; every other key reads as before. -/
theorem get_foldl_put {α : Type} [DecidableEq α] (d : α) (g : Nat → α) (l : List Nat) (t : Tab α) (i : Nat) :
    get d (l.foldl (fun t k => put d t k (g k)) t) i = if i ∈ l then g i else get d t i := by
  induction l generalizing t with
  | nil => simp
  | cons k l ih =>
    rw [List.foldl_cons, ih]
    by_cases hl : i ∈ l
    · simp [hl]
    · by_cases hk : i = k
      · subst hk; simp [hl, get_put_same]
      · simp [hl, hk, get_put_ne]

end Tab

namespace State

/-! Running a command of the host. -/

/-- Two states agree in what running a command outside the core die puts back or settles. -/
structure SameBooks (s t : State) : Prop where
  due : t.due = s.due
  part : t.part = s.part
  pending : t.pending = s.pending
  enclave : t.enclave = s.enclave

/-- A command outside the core die ends in the state its effect gives, where that owes nothing new. -/
theorem runPlain_of_sameBooks {s t : State} {f : State → State} (hs : s.due = []) (ht : f s = t) (hb : SameBooks s t) :
    s.runPlain f = .next t := by
  subst ht
  exact runPlain_eq s f hs (hb.due.trans hs) hb.part hb.pending hb.enclave

theorem sameBooks_setFld (s : State) (off hi lo v : Nat) : SameBooks s (s.setFld off hi lo v) := ⟨rfl, rfl, rfl, rfl⟩

theorem sameBooks_snapTake (s : State) : SameBooks s s.snapTake := ⟨rfl, rfl, rfl, rfl⟩

theorem exec_registerWrite (s : State) (fn : Fin 33) (off n : Nat) (v : W64) :
    exec (.registerWrite fn off n v) s = s.runPlain (fun s => s.barWrite fn.val off n v.toNat) := rfl

theorem exec_aliasWrite (s : State) (fn : Fin 33) (off : Nat) (v : W32) :
    exec (.aliasWrite fn off v) s = s.runPlain (fun s => s.barWrite fn.val off 4 v.toNat) := rfl

theorem exec_postedWriteApply (s : State) (d : Fin 4) : exec (.postedWriteApply d) s = s.runPlain (fun s => s.applyPosted d.val) := rfl

theorem exec_globalPllCtrlWrite (s : State) (fn : Fin 33) (v : W32) :
    exec (.globalPllCtrlWrite fn v) s = s.runPlain (fun s => s.barWrite fn.val Reg.GLOBAL_PLL_CTRL 4 v.toNat) := rfl

theorem exec_snapTake (s : State) (fn : Fin 33) (v : W32) :
    exec (.snapTake fn v) s = s.runPlain (fun s => s.barWrite fn.val Reg.SNAP_CTRL 4 v.toNat) := rfl

theorem exec_snapRelease (s : State) (fn : Fin 33) (v : W32) :
    exec (.snapRelease fn v) s = s.runPlain (fun s => s.barWrite fn.val Reg.SNAP_CTRL 4 v.toNat) := rfl

/-! A write to BAR0, by function, size and offset. -/

theorem barWrite_closed (s : State) (fn off n v : Nat) (h : s.barOpen fn = false) : s.barWrite fn off n v = s := by
  simp [barWrite, h]

/-- A write by the physical function of another size than R490 gives, or not aligned to its size, is flagged and dropped. -/
theorem barWrite_malformed (s : State) (off n v : Nat) (ho : s.barOpen 0 = true) (hb : (n ≠ 4 ∧ n ≠ 8) ∨ off % n ≠ 0) :
    s.barWrite 0 off n v = s.setFld Reg.GLOBAL_ACCESS_ERR 0 0 1 := by
  have bad : ((n != 4 && n != 8) || off % n != 0 || (decide (0x2000000 ≤ off) && n != 4)) = true := by
    rcases hb with ⟨h4, h8⟩ | hm
    · simp [h4, h8]
    · simp [hm]
  simp only [barWrite, ho, bad, Bool.true_eq_false, ↓reduceIte, ne_eq, not_true_eq_false]

/-- A well-formed write by a virtual function is flagged and dropped (R492). -/
theorem barWrite_virtual (s : State) (fn off v : Nat) (ho : s.barOpen fn = true) (hf : fn ≠ 0) (ha : off % 4 = 0) :
    s.barWrite fn off 4 v = s.setFld Reg.GLOBAL_ACCESS_ERR 1 1 1 := by
  simp [barWrite, ho, hf, ha]

/-- An aligned 4-byte write by the physical function below the bits' own words writes the word. -/
theorem barWrite_word (s : State) (off : Nat) (v : W32) (ho : s.barOpen 0 = true) (ha : off % 4 = 0) (hl : off < 0x2000000) :
    s.barWrite 0 off 4 v.toNat = s.writeWord off v.toNat := by
  have below : ¬ 0x2000000 ≤ off := by omega
  simp [barWrite, ho, ha, below, Nat.mod_eq_of_lt v.isLt]

/-- The word that stands for a register's bit writes that bit (R501). -/
theorem barWrite_aliasWord (s : State) (off : Nat) (b : Fin 32) (v : Nat) (ho : s.barOpen 0 = true) (ha : off % 4 = 0) :
    s.barWrite 0 (0x2000000 + 4 * (8 * off + b.val)) 4 v = s.writeAliasBit off b.val (bit v 0) := by
  have word : (0x2000000 + 4 * (8 * off + b.val) - 0x2000000) / 4 = 8 * off + b.val := by omega
  have reg : (8 * off + b.val) / 8 / 4 * 4 = off := by omega
  have bitNo : (8 * off + b.val) / 8 % 4 * 8 + (8 * off + b.val) % 8 = b.val := by omega
  have inAlias : 0x2000000 ≤ 0x2000000 + 4 * (8 * off + b.val) := by omega
  have aligned : (0x2000000 + 4 * (8 * off + b.val)) % 4 = 0 := by omega
  simp only [barWrite, ho, inAlias, aligned, aliasWrite, word, reg, bitNo]
  simp

/-! A word written, by its offset. -/

theorem writeWord_unmapped (s : State) (off v : Nat) (hm : off < 0x38000 ∨ 0x3A000 ≤ off) (hf : findReg off = none) :
    s.writeWord off v = s := by
  have out : ¬ (0x38000 ≤ off ∧ off < 0x3A000) := by omega
  simp [writeWord, out, hf]

/-- A word outside the slow domains reaches its register at once. -/
theorem writeWord_reach (s : State) (off v : Nat) (r : RegDef) (hm : off < 0x38000 ∨ 0x3A000 ≤ off) (hf : findReg off = some r)
    (hb : s.blockUp off = true) (hd : slowDomain off = none) : s.writeWord off v = s.reachReg off v := by
  have out : ¬ (0x38000 ≤ off ∧ off < 0x3A000) := by omega
  simp [writeWord, out, hf, hb, hd]

/-- A word of a slow domain is posted (R494). -/
theorem writeWord_post (s : State) (off v n : Nat) (r : RegDef) (hm : off < 0x38000 ∨ 0x3A000 ≤ off) (hf : findReg off = some r)
    (hb : s.blockUp off = true) (hd : slowDomain off = some n) : s.writeWord off v = s.postWrite n off v := by
  have out : ¬ (0x38000 ≤ off ∧ off < 0x3A000) := by omega
  simp [writeWord, out, hf, hb, hd]

/-- Only the LPDDR and CAUSEWAY blocks come up after the host may reach the module. -/
theorem blockUp_low (s : State) (off : Nat) (h : off < 0x400000) : s.blockUp off = true := by
  have low : ¬ 0x400000 ≤ off := by omega
  simp [blockUp, low]

/-! A register reached. -/

/-- A register whose writes have no action of their own takes the value by the access codes of its fields. -/
theorem reachReg_plain (s : State) (off v : Nat) (r : RegDef) (hf : findReg off = some r) (hr : r.name ∉ actingRegs) :
    s.reachReg off v = s.wr off (mergeWrite r (s.rd off) v) := by
  simp only [reachReg, hf]
  split
  case h_19 => rfl
  all_goals
    next acting => simp [acting, actingRegs] at hr

theorem reachReg_snapCtrl_take (s : State) (v : Nat) (hv : bits v 1 0 = 1) : s.reachReg Reg.SNAP_CTRL v = s.snapTake := by
  simp [reachReg, find_snap_ctrl, rowSnapCtrl, hv]

theorem reachReg_snapCtrl_release (s : State) (v : Nat) (hv : bits v 1 0 = 2) : s.reachReg Reg.SNAP_CTRL v = s.snapRelease := by
  simp [reachReg, find_snap_ctrl, rowSnapCtrl, hv]

/-! Posted writes (R494). -/

theorem postWrite_free (s : State) (n off v : Nat) (h : s.fld Reg.GLOBAL_DOMAIN_STATUS n n ≠ 1) :
    s.postWrite n off v =
      ({ s with posted := Tab.set s.posted n (off, BitVec.ofNat 32 v) } : State).setFld Reg.GLOBAL_DOMAIN_STATUS n n 1 := by
  simp [postWrite, h]

theorem postWrite_busy (s : State) (n off v : Nat) (h : s.fld Reg.GLOBAL_DOMAIN_STATUS n n = 1) :
    s.postWrite n off v = s.setFld Reg.GLOBAL_DOMAIN_STATUS (16 + n) (16 + n) 1 := by
  simp [postWrite, h]

theorem applyPosted_none (s : State) (n : Nat) (h : Tab.find? s.posted n = none) : s.applyPosted n = s := by
  simp [applyPosted, h]

theorem applyPosted_some (s : State) (n off : Nat) (v : W32) (h : Tab.find? s.posted n = some (off, v)) :
    s.applyPosted n =
      (({ s with posted := Tab.erase s.posted n } : State).setFld Reg.GLOBAL_DOMAIN_STATUS n n 0).reachReg off v.toNat := by
  simp [applyPosted, h]

/-- The physical function's write of GLOBAL_PLL_CTRL is posted to domain 0. -/
theorem barWrite_globalPllCtrl (s : State) (v : W32) (ho : s.barOpen 0 = true) :
    s.barWrite 0 Reg.GLOBAL_PLL_CTRL 4 v.toNat = s.postWrite 0 Reg.GLOBAL_PLL_CTRL v.toNat := by
  rw [barWrite_word s _ v ho (by decide) (by decide)]
  exact writeWord_post s _ _ 0 rowGlobalPllCtrl (by decide) find_global_pll_ctrl (blockUp_low s _ (by decide)) (by decide)

/-- GLOBAL_PLL_CTRL takes the mode written, and keeps its own where that is the reserved encoding 3. -/
theorem mergeWrite_globalPllCtrl (old v : Nat) :
    mergeWrite rowGlobalPllCtrl old v = if bits v 1 0 = 3 then old else withBits old 1 0 (bits v 1 0) := by
  simp [mergeWrite, rowGlobalPllCtrl, fieldBad]

/-- The state after the posted write of GLOBAL_PLL_CTRL has been applied. -/
def pllApplied (s : State) (v : W32) : State :=
  (({ s with posted := Tab.erase s.posted 0 } : State).setFld Reg.GLOBAL_DOMAIN_STATUS 0 0 0).wr Reg.GLOBAL_PLL_CTRL
    (mergeWrite rowGlobalPllCtrl (s.rd Reg.GLOBAL_PLL_CTRL) v.toNat)

theorem applyPosted_globalPllCtrl (s : State) (v : W32) (h : Tab.find? s.posted 0 = some (Reg.GLOBAL_PLL_CTRL, v)) :
    s.applyPosted 0 = s.pllApplied v := by
  have mode : (({ s with posted := Tab.erase s.posted 0 } : State).setFld Reg.GLOBAL_DOMAIN_STATUS 0 0 0).rd Reg.GLOBAL_PLL_CTRL =
      s.rd Reg.GLOBAL_PLL_CTRL := rd_setFld_ne _ _ _ _ _ _ (by decide)
  rw [applyPosted_some s 0 _ v h, reachReg_plain _ _ _ _ find_global_pll_ctrl (by decide), mode, pllApplied]

theorem pllApplied_busy (s : State) (v : W32) : (s.pllApplied v).fld Reg.GLOBAL_DOMAIN_STATUS 0 0 = 0 := by
  rw [pllApplied, fld_wr_ne _ _ _ _ _ _ (by decide), fld_setFld_same _ _ _ _ _ (by decide) (by decide), Nat.zero_mod]

theorem pllApplied_mode (s : State) (v : W32) : (s.pllApplied v).fld Reg.GLOBAL_PLL_CTRL 1 0 =
    if bits v.toNat 1 0 = 3 then s.fld Reg.GLOBAL_PLL_CTRL 1 0 else bits v.toNat 1 0 := by
  rw [pllApplied, fld_wr_same, mergeWrite_globalPllCtrl]
  split
  · rw [Nat.mod_eq_of_lt (s.rd_lt _), fld]
  · rw [Nat.mod_eq_of_lt (withBits_lt _ _ _ _ (s.rd_lt _) (by decide) (by decide)), bits_withBits_same,
      Nat.mod_eq_of_lt (bits_lt _ _ _)]

theorem pllApplied_onlyRegs (s : State) (v : W32) :
    OnlyRegs (fun off => off == Reg.GLOBAL_DOMAIN_STATUS || off == Reg.GLOBAL_PLL_CTRL)
      { s with posted := (s.pllApplied v).posted } (s.pllApplied v) := by
  refine ⟨rfl, fun off h => ?_⟩
  obtain ⟨hd, hp⟩ : off ≠ Reg.GLOBAL_DOMAIN_STATUS ∧ off ≠ Reg.GLOBAL_PLL_CTRL := by simpa using h
  exact (reg_setReg_ne _ _ _ _ hp).trans (reg_setReg_ne _ _ _ _ hd)

/-! Aliased bits (R501, R502). -/

/-- Writing a bit that no field but a read-only one holds writes nothing. -/
theorem writeAliasBit_readOnly (s : State) (off b : Nat) (one : Bool) (r : RegDef) (hf : findReg off = some r)
    (hro : ∀ f, r.fields.find? (fun f => decide (f.lo ≤ b) && decide (b ≤ f.hi)) = some f → f.acc = .RO) :
    s.writeAliasBit off b one = s := by
  simp only [writeAliasBit, hf]
  split
  case h_1 => rfl
  case h_2 f hfind => simp [hro f hfind]

/-- The row of GLOBAL_SCRATCH. -/
def rowGlobalScratch : RegDef := ⟨"GLOBAL_SCRATCHi", 0x000020, 4, 4, false, false, .all, [⟨31, 0, .RWS, 0⟩]⟩

theorem find_global_scratch (i : Fin 4) : findReg (Reg.GLOBAL_SCRATCH i.val) = some rowGlobalScratch := by
  revert i; decide

/-- A write of GLOBAL_SCRATCH takes the whole word. -/
theorem mergeWrite_globalScratch (old v : Nat) (ho : old < 2 ^ 32) (hv : v < 2 ^ 32) : mergeWrite rowGlobalScratch old v = v := by
  have all : mergeWrite rowGlobalScratch old v = withBits old 31 0 (bits v 31 0) := by
    simp [mergeWrite, rowGlobalScratch, fieldBad]
  rw [all, withBits_eq]
  simp only [bits, Nat.shiftRight_zero]
  omega

/-- Writing one bit of GLOBAL_SCRATCH keeps the others. -/
theorem writeAliasBit_globalScratch (s : State) (i : Fin 4) (b : Fin 32) (one : Bool) :
    s.writeAliasBit (Reg.GLOBAL_SCRATCH i.val) b.val one =
      s.wr (Reg.GLOBAL_SCRATCH i.val) (withBits (s.rd (Reg.GLOBAL_SCRATCH i.val)) b.val b.val (b2n one)) := by
  have hb : b.val ≤ 31 := by omega
  have low : Reg.GLOBAL_SCRATCH i.val < 0x38000 := by simp only [Reg.GLOBAL_SCRATCH]; omega
  have fast : slowDomain (Reg.GLOBAL_SCRATCH i.val) = none := by revert i; decide
  have word : s.writeAliasBit (Reg.GLOBAL_SCRATCH i.val) b.val one =
      s.writeWord (Reg.GLOBAL_SCRATCH i.val) (withBits (s.rd (Reg.GLOBAL_SCRATCH i.val)) b.val b.val (b2n one)) := by
    simp only [writeAliasBit, find_global_scratch i]
    simp [rowGlobalScratch, hb]
  rw [word, writeWord_reach s _ _ _ (Or.inl low) (find_global_scratch i) (blockUp_low s _ (by omega)) fast,
    reachReg_plain s _ _ _ (find_global_scratch i) (by decide),
    mergeWrite_globalScratch _ _ (s.rd_lt _) (withBits_lt _ _ _ _ (s.rd_lt _) (Nat.le_refl _) b.isLt)]

/-! The MSI-X table. -/

theorem vector_updVector_same (s : State) (fn w : Nat) (f : MsixVector → MsixVector) :
    (s.updVector fn w f).vector fn w = f (s.vector fn w) := by
  simp [vector, updVector, Tab.find?_set_same]

theorem vector_updVector_ne (s : State) (fn w x : Nat) (f : MsixVector → MsixVector) (h : x ≠ w) :
    (s.updVector fn w f).vector fn x = s.vector fn x := by
  have key : fn * 64 + x ≠ fn * 64 + w := by omega
  simp [vector, updVector, Tab.find?_set_ne _ _ _ _ key]

/-- An update of a vector that keeps its pending bit leaves every vector's pending bit. -/
theorem pending_updVector (s : State) (fn w x : Nat) (f : MsixVector → MsixVector) (hf : ∀ y, (f y).pending = y.pending) :
    ((s.updVector fn w f).vector fn x).pending = (s.vector fn x).pending := by
  by_cases h : x = w
  · subst h; rw [vector_updVector_same, hf]
  · rw [vector_updVector_ne s fn w x f h]

/-- Where no vector of a function is pending, none is sent. -/
theorem sendPending_none (s : State) (fn : Nat) (h : ∀ w, w < 34 → (s.vector fn w).pending = false) : s.sendPending fn = s := by
  have stays : ∀ l : List Nat, (∀ w ∈ l, w < 34) →
      l.foldl (fun s v => if (s.vector fn v).pending ∧ s.vectorOpen fn v = true then s.sendVector fn v else s) s = s := by
    intro l
    induction l with
    | nil => intro _; rfl
    | cons w l ih =>
      intro hl
      have hw : (s.vector fn w).pending = false := h w (hl w (List.mem_cons_self ..))
      rw [List.foldl_cons, if_neg (by simp [hw])]
      exact ih (fun x hx => hl x (List.mem_cons_of_mem _ hx))
  exact stays (List.range 34) (fun w hw => List.mem_range.mp hw)

/-- The mask word of a vector sets its mask, and sends nothing where no vector is pending. -/
theorem writeWord_msixMask (s : State) (n : Fin 34) (v : Nat) (hp : ∀ w, w < 34 → (s.vector 0 w).pending = false) :
    s.writeWord (0x3800C + 16 * n.val) v = s.updVector 0 n.val (fun x => { x with masked := bit v 0 }) := by
  have inTable : 0x38000 ≤ 0x3800C + 16 * n.val ∧ 0x3800C + 16 * n.val < 0x3A000 := by omega
  have listed : ¬ (0x39000 ≤ 0x3800C + 16 * n.val ∨ 34 ≤ n.val) := by omega
  have vec : (0x3800C + 16 * n.val - 0x38000) / 16 = n.val := by omega
  have word : (0x3800C + 16 * n.val - 0x38000) % 16 / 4 = 3 := by omega
  have written : s.writeMsix (0x3800C + 16 * n.val) v = (s.updVector 0 n.val (fun x => { x with masked := bit v 0 })).sendPending 0 := by
    simp only [writeMsix, vec, word, if_neg listed, show ¬ (3 = 0) by decide, show ¬ (3 = 1) by decide, show ¬ (3 = 2) by decide,
      if_false]
  rw [writeWord, if_pos inTable, written]
  exact sendPending_none _ 0 (fun w hw => (pending_updVector s 0 n.val w (fun x => { x with masked := bit v 0 }) (fun _ => rfl)).trans (hp w hw))

/-! Snapshots (R497, R498). -/

/-- The offsets of every snapshot register. -/
def snapOffsets : List Nat := (regTable.filter (·.snap)).flatMap rowOffsets

/-- What the holding registers take: every snapshot register as it reads now. -/
def heldCopies (s : State) : Tab W32 :=
  snapOffsets.foldl (fun t off => Tab.put 0 t off (BitVec.ofNat 32 (s.liveReg off))) []

theorem snapTake_snap (s : State) : s.snapTake.snap = some s.heldCopies := by
  have nested : s.heldCopies = (regTable.filter (·.snap)).foldl (fun t r =>
      (rowOffsets r).foldl (fun t off => Tab.put 0 t off (BitVec.ofNat 32 (s.liveReg off))) t) [] := List.foldl_flatMap ..
  exact congrArg some nested.symm

theorem get_heldCopies (s : State) (r : RegDef) (hr : r ∈ regTable) (hs : r.snap = true) (off : Nat) (ho : off ∈ rowOffsets r) :
    Tab.get 0 s.heldCopies off = BitVec.ofNat 32 (s.liveReg off) := by
  have listed : off ∈ snapOffsets := List.mem_flatMap.mpr ⟨r, List.mem_filter.mpr ⟨hr, hs⟩, ho⟩
  rw [heldCopies, Tab.get_foldl_put, if_pos listed]

/-- SNAP_STATUS says that values are held. -/
theorem snapTake_held (s : State) : s.snapTake.fld Reg.SNAP_STATUS 31 31 = 1 := by
  simp only [snapTake]
  rw [fld_wr_ne _ _ _ _ _ _ (by decide), fld_wr_ne _ _ _ _ _ _ (by decide), fld_wr_ne _ _ _ _ _ _ (by decide),
    fld_setFld_other _ _ _ _ _ _ _ (by decide) (by decide) (by decide)]
  exact fld_setFld_same _ _ 31 31 1 (by decide) (by decide)

/-- SNAP_STATUS counts the snapshots, modulo 2^16. -/
theorem snapTake_count (s : State) : s.snapTake.fld Reg.SNAP_STATUS 15 0 = (s.fld Reg.SNAP_STATUS 15 0 + 1) % 65536 := by
  simp only [snapTake]
  rw [fld_wr_ne _ _ _ _ _ _ (by decide), fld_wr_ne _ _ _ _ _ _ (by decide), fld_wr_ne _ _ _ _ _ _ (by decide)]
  exact fld_setFld_same _ _ 15 0 _ (by decide) (by decide)

theorem snapTake_legLo (s : State) : s.snapTake.rd Reg.SNAP_LEG_LO = s.legCount % 2 ^ 32 := by
  simp only [snapTake]
  rw [rd_wr_ne _ _ _ _ (by decide), rd_wr_ne _ _ _ _ (by decide)]
  exact rd_wr_same _ _ _

theorem snapTake_legHi (s : State) : s.snapTake.rd Reg.SNAP_LEG_HI = s.legCount / 2 ^ 32 := by
  have high : s.legCount / 2 ^ 32 < 2 ^ 32 := Nat.div_lt_of_lt_mul s.leg.count.isLt
  simp only [snapTake]
  rw [rd_wr_ne _ _ _ _ (by decide)]
  exact (rd_wr_same _ _ _).trans (Nat.mod_eq_of_lt high)

theorem snapTake_offset (s : State) : s.snapTake.rd Reg.SNAP_OFFSET = s.leg.sub % 2 ^ 32 := by
  simp only [snapTake]
  exact rd_wr_same _ _ _

/-- A snapshot changes its own registers and the holding registers alone. -/
theorem snapTake_frame (s : State) : { s.snapTake with regs := s.regs, snap := s.snap } = s := rfl

/-- The physical function's write of SNAP_CTRL reaches it. -/
theorem barWrite_snapCtrl (s : State) (v : W32) (ho : s.barOpen 0 = true) :
    s.barWrite 0 Reg.SNAP_CTRL 4 v.toNat = s.reachReg Reg.SNAP_CTRL v.toNat :=
  barWrite_reach s _ _ ho (by decide) (by decide) (by decide) (by rw [find_snap_ctrl]; rfl) (by decide) v.isLt

/-! The clauses of O48, by kind of write. -/

/-- A posted write waits where its domain is free, and is dropped and flagged where it is busy. -/
theorem exec_globalPllCtrlWrite_posts (s : State) (v : W32) (h : s.hostOpen) :
    (s.fld Reg.GLOBAL_DOMAIN_STATUS 0 0 ≠ 1 → exec (.globalPllCtrlWrite 0 v) s =
      .next (({ s with posted := Tab.set s.posted 0 (Reg.GLOBAL_PLL_CTRL, v) } : State).setFld Reg.GLOBAL_DOMAIN_STATUS 0 0 1)) ∧
    (s.fld Reg.GLOBAL_DOMAIN_STATUS 0 0 = 1 →
      exec (.globalPllCtrlWrite 0 v) s = .next (s.setFld Reg.GLOBAL_DOMAIN_STATUS 16 16 1)) := by
  obtain ⟨ho, hs⟩ := h
  rw [exec_globalPllCtrlWrite]
  refine ⟨fun free => ?_, fun busy => ?_⟩
  · refine runPlain_of_sameBooks hs ?_ ⟨rfl, rfl, rfl, rfl⟩
    exact (barWrite_globalPllCtrl s v ho).trans ((postWrite_free s 0 _ _ free).trans (by rw [BitVec.ofNat_toNat, BitVec.setWidth_eq]))
  · exact runPlain_of_sameBooks hs ((barWrite_globalPllCtrl s v ho).trans (postWrite_busy s 0 _ _ busy)) (sameBooks_setFld ..)

/-- A write by a function that the host does not reach, a malformed write, and a virtual function's write change no register but the flags. -/
theorem exec_registerWrite_refused (s : State) (h : s.hostOpen) (fn : Fin 33) (off n : Nat) (w : W64) :
    (s.barOpen fn.val = false → exec (.registerWrite fn off n w) s = .next s) ∧
    (fn = 0 → (n ≠ 4 ∧ n ≠ 8) ∨ off % n ≠ 0 → exec (.registerWrite fn off n w) s = .next (s.setFld Reg.GLOBAL_ACCESS_ERR 0 0 1)) ∧
    (s.barOpen fn.val = true → fn ≠ 0 → n = 4 → off % 4 = 0 →
      exec (.registerWrite fn off n w) s = .next (s.setFld Reg.GLOBAL_ACCESS_ERR 1 1 1)) := by
  obtain ⟨ho, hs⟩ := h
  rw [exec_registerWrite]
  refine ⟨fun closed => ?_, ?_, ?_⟩
  · exact runPlain_of_sameBooks hs (barWrite_closed s _ _ _ _ closed) ⟨rfl, rfl, rfl, rfl⟩
  · rintro rfl malformed
    exact runPlain_of_sameBooks hs (barWrite_malformed s off n w.toNat ho malformed) (sameBooks_setFld ..)
  · rintro reached virtual rfl aligned
    have hf : fn.val ≠ 0 := fun e => virtual (Fin.ext e)
    exact runPlain_of_sameBooks hs (barWrite_virtual s fn.val off w.toNat reached hf aligned) (sameBooks_setFld ..)

/-- A 4-byte write of the physical function that leaves the books as they were ends as its word is written. -/
theorem exec_registerWrite_word {s t : State} {off : Nat} {v : W32} (h : s.hostOpen) (ha : off % 4 = 0) (hl : off < 0x2000000)
    (ht : s.writeWord off v.toNat = t) (hb : SameBooks s t) : exec (.registerWrite 0 off 4 (v.setWidth 64)) s = .next t := by
  have value : (v.setWidth 64).toNat = v.toNat := BitVec.toNat_setWidth_of_le (by decide)
  rw [exec_registerWrite, value]
  exact runPlain_of_sameBooks h.2 ((barWrite_word s off v h.1 ha hl).trans ht) hb

/-- A write of one aliased bit that leaves the books as they were ends as its bit is written. -/
theorem exec_aliasWrite_bit {s t : State} {off : Nat} {b : Fin 32} {v : W32} (h : s.hostOpen) (ha : off % 4 = 0)
    (ht : s.writeAliasBit off b.val (bit v.toNat 0) = t) (hb : SameBooks s t) :
    exec (.aliasWrite 0 (0x2000000 + 4 * (8 * off + b.val)) v) s = .next t :=
  runPlain_of_sameBooks h.2 ((barWrite_aliasWord s off b v.toNat h.1 ha).trans ht) hb

/-- Writing take to SNAP_CTRL takes the snapshot. -/
theorem exec_snapTake_takes (s : State) (v : W32) (h : s.hostOpen) (hv : bits v.toNat 1 0 = 1) :
    exec (.snapTake 0 v) s = .next s.snapTake :=
  runPlain_of_sameBooks h.2 ((barWrite_snapCtrl s v h.1).trans (reachReg_snapCtrl_take s _ hv)) (sameBooks_snapTake s)

/-- Writing release to SNAP_CTRL ends the snapshot. -/
theorem exec_snapRelease_releases (s : State) (v : W32) (h : s.hostOpen) (hv : bits v.toNat 1 0 = 2) :
    exec (.snapRelease 0 v) s = .next s.snapRelease :=
  runPlain_of_sameBooks h.2 ((barWrite_snapCtrl s v h.1).trans (reachReg_snapCtrl_release s _ hv)) ⟨rfl, rfl, rfl, rfl⟩

/-- Settles O48: each clause is the rule for its kind of write, by function, size, offset, domain and access code. -/
theorem registerWritesAndSnapshots : Obligations.RegisterWritesAndSnapshots := by
  unfold Obligations.RegisterWritesAndSnapshots
  intro s v h
  obtain ⟨posts, drops⟩ := exec_globalPllCtrlWrite_posts s v h
  refine ⟨posts, drops, ?applyNone, ?applyPll, exec_registerWrite_refused s h, ?words, ?scratch, ?msix, ?take,
    exec_snapRelease_releases s v h⟩
  case applyNone =>
    intro d idle
    exact runPlain_of_sameBooks h.2 (applyPosted_none s d.val idle) ⟨rfl, rfl, rfl, rfl⟩
  case applyPll =>
    intro waits
    exact ⟨s.pllApplied v, runPlain_of_sameBooks h.2 (applyPosted_globalPllCtrl s v waits) ⟨rfl, rfl, rfl, rfl⟩, rfl,
      pllApplied_busy s v, pllApplied_mode s v, pllApplied_onlyRegs s v⟩
  case words =>
    intro off r ha hm hl
    refine ⟨fun hf hb hd hr => ?_, fun hf => ?_, fun b hf hro => ?_⟩
    · exact exec_registerWrite_word h ha hl ((writeWord_reach s off _ r hm hf hb hd).trans (reachReg_plain s off _ r hf hr))
        ⟨rfl, rfl, rfl, rfl⟩
    · exact exec_registerWrite_word h ha hl (writeWord_unmapped s off _ hm hf) ⟨rfl, rfl, rfl, rfl⟩
    · exact exec_aliasWrite_bit h ha (writeAliasBit_readOnly s off b.val _ r hf hro) ⟨rfl, rfl, rfl, rfl⟩
  case scratch =>
    intro i b
    have aligned : Reg.GLOBAL_SCRATCH i.val % 4 = 0 := by simp only [Reg.GLOBAL_SCRATCH]; omega
    exact exec_aliasWrite_bit h aligned (writeAliasBit_globalScratch s i b _) ⟨rfl, rfl, rfl, rfl⟩
  case msix =>
    intro n quiet
    exact exec_registerWrite_word h (by omega) (by omega) (writeWord_msixMask s n _ quiet) ⟨rfl, rfl, rfl, rfl⟩
  case take =>
    intro hv
    exact ⟨s.snapTake, s.heldCopies, exec_snapTake_takes s v h hv, snapTake_snap s, get_heldCopies s, snapTake_held s, snapTake_count s,
      snapTake_legLo s, snapTake_legHi s, snapTake_offset s, snapTake_frame s⟩

end State

end Sys2Proof.Machine
end

section
/-!
Far memory (R202, R368 to R370): what a READ or WRITE of another node comes to by what its address names, what a moved block and an
MSG do, and how an answer ends the far request that waits for it. O47 is assembled from these rules.
-/
namespace Sys2Proof.Machine

namespace State

/-! What running a command of the core die puts back or settles. -/

/-- Two states agree in what running a command of the core die puts back or settles. -/
structure SameDieBooks (s t : State) : Prop extends SameBooks s t where
  mgmt : t.mgmt = s.mgmt
  test : t.test = s.test

theorem SameDieBooks.refl (s : State) : SameDieBooks s s := ⟨⟨rfl, rfl, rfl, rfl⟩, rfl, rfl⟩

theorem SameDieBooks.trans {s t u : State} (h : SameDieBooks s t) (k : SameDieBooks t u) : SameDieBooks s u :=
  ⟨⟨k.due.trans h.due, k.part.trans h.part, k.pending.trans h.pending, k.enclave.trans h.enclave⟩, k.mgmt.trans h.mgmt,
    k.test.trans h.test⟩

/-- Telling the host or another node anything leaves the books. -/
theorem sameDieBooks_of_talked {s t : State} (h : Talked s t) : SameDieBooks s t :=
  ⟨⟨h.due, h.part, h.pending, h.enclave⟩, h.mgmt, h.test⟩

/-- A fold whose every step leaves the books of the state it carries leaves them. -/
theorem sameDieBooks_foldl {σ α : Type} (carried : σ → State) (f : σ → α → σ) (h : ∀ x a, SameDieBooks (carried x) (carried (f x a)))
    (l : List α) (x : σ) : SameDieBooks (carried x) (carried (l.foldl f x)) :=
  List.foldlRecOn l f (motive := fun y => SameDieBooks (carried x) (carried y)) (SameDieBooks.refl _) (fun y hy a _ => hy.trans (h y a))

/-- A command of the core die ends in the state its effect gives, where that leaves the books. -/
theorem runDie_of_sameDieBooks {s t : State} {f : State → State} (hs : s.ready) (ht : f s = t) (hb : SameDieBooks s t) :
    s.runDie f = .next t := by
  subst ht
  exact runDie_eq s f hs (hb.due.trans hs.2) hb.part hb.pending hb.enclave hb.mgmt hb.test

/-! Bytes written to an allocation, and use counts, leave the books. -/

theorem sameDieBooks_updAlloc (s : State) (h : Nat) (f : Alloc → Alloc) : SameDieBooks s (s.updAlloc h f) := by
  unfold updAlloc
  split
  · exact .refl s
  · exact ⟨⟨rfl, rfl, rfl, rfl⟩, rfl, rfl⟩

theorem sameDieBooks_storeUnit (s : State) (h g : Nat) (moved : Bool) : SameDieBooks s (s.storeUnit h g moved) := by
  unfold storeUnit
  split
  · exact .refl s
  · exact ⟨⟨rfl, rfl, rfl, rfl⟩, rfl, rfl⟩

theorem sameDieBooks_setHome (s : State) (h g : Nat) (p : Place) : SameDieBooks s (s.setHome h g p) := by
  simp only [setHome]
  split
  · exact (sameDieBooks_updAlloc s h _).trans (sameDieBooks_storeUnit _ h g true)
  · exact sameDieBooks_updAlloc s h _

theorem sameDieBooks_waitHome (s : State) (h g : Nat) : SameDieBooks s (s.waitHome h g) := ⟨⟨rfl, rfl, rfl, rfl⟩, rfl, rfl⟩

theorem sameDieBooks_leavePlace (s : State) (h g : Nat) (e : DirEntry) : SameDieBooks s (s.leavePlace h g e) :=
  ⟨⟨rfl, rfl, rfl, rfl⟩, rfl, rfl⟩

theorem sameDieBooks_drawn (s : State) (n : Nat) : SameDieBooks s (s.drawn n) := ⟨⟨rfl, rfl, rfl, rfl⟩, rfl, rfl⟩

theorem sameDieBooks_ownSeam (s : State) : SameDieBooks s s.ownSeam.1 := by
  unfold ownSeam
  split <;> exact ⟨⟨rfl, rfl, rfl, rfl⟩, rfl, rfl⟩

theorem sameDieBooks_moveGranule (s : State) (h g : Nat) (p : Place) : SameDieBooks s (s.moveGranule h g p).1 := by
  unfold moveGranule
  split
  · exact .refl s
  · split
    · exact .refl s
    · dsimp only
      split
      · exact (sameDieBooks_ownSeam s).trans ((sameDieBooks_leavePlace ..).trans (sameDieBooks_setHome ..))
      · exact sameDieBooks_ownSeam s

/-- The unit of a granule touched in the store is written, or waits. -/
theorem sameDieBooks_touchUnit (s : State) (h g : Nat) (e : DirEntry) :
    SameDieBooks s (if e.tier ≠ 2 then s else if s.storeTakes then s.storeUnit h g false else s.waitHome h g) := by
  split
  · exact .refl s
  · split
    · exact sameDieBooks_storeUnit s h g false
    · exact sameDieBooks_waitHome s h g

/-- A granule touched gets its home, grows or waits, and the books stay. -/
theorem sameDieBooks_touchGranule (s : State) (h g : Nat) (blocks : List Nat) : SameDieBooks s (s.touchGranule h g blocks) := by
  unfold touchGranule
  split
  · exact .refl s
  next a _ =>
  extract_lets e u
  have unit : SameDieBooks s u := sameDieBooks_touchUnit s h g e
  clear_value u
  split
  · split
    · exact sameDieBooks_waitHome s h g
    · split
      · exact sameDieBooks_waitHome s h g
      · exact (sameDieBooks_setHome ..).trans (sameDieBooks_drawn ..)
  · refine unit.trans ?_
    split
    · exact sameDieBooks_updAlloc ..
    · split
      · exact .refl u
      · split
        · exact sameDieBooks_waitHome u h g
        next p _ =>
        have moved := (sameDieBooks_drawn u 1).trans (sameDieBooks_moveGranule u.drawn h g p)
        dsimp only
        split
        · exact moved
        · exact moved.trans (sameDieBooks_waitHome ..)

theorem sameDieBooks_landBytes (s : State) (h off : Nat) (v : List Byte) : SameDieBooks s (s.landBytes h off v) := by
  unfold landBytes
  split
  · exact .refl s
  · exact (sameDieBooks_updAlloc ..).trans (sameDieBooks_foldl id _ (fun _ _ => sameDieBooks_touchGranule ..) _ _)

theorem sameDieBooks_send (s : State) (t : Txn) : SameDieBooks s (s.send t) := sameDieBooks_of_talked (talked_send s t)

theorem sameDieBooks_lentRequest (s : State) (h g lo hi : Nat) (write : Bool) : SameDieBooks s (s.lentRequest h g lo hi write).1 := by
  unfold lentRequest
  split
  · exact .refl s
  · exact (sameDieBooks_of_talked (talked_cause s _)).trans (sameDieBooks_send ..)

theorem sameDieBooks_lentRequests (s : State) (h off n : Nat) (write : Bool) : SameDieBooks s (s.lentRequests h off n write).1 := by
  refine sameDieBooks_foldl Prod.fst _ (fun x p => ?_) _ (s, [])
  dsimp only
  split
  · exact sameDieBooks_lentRequest ..
  · exact .refl _

theorem sameDieBooks_writeAlloc (s : State) (h off : Nat) (v : List Byte) : SameDieBooks s (s.writeAlloc h off v) :=
  (sameDieBooks_landBytes s h off v).trans (sameDieBooks_lentRequests ..)

theorem sameDieBooks_countUse (s : State) (core : Option Nat) (part h g : Nat) : SameDieBooks s (s.countUse core part h g) := by
  unfold countUse
  split
  · exact .refl s
  · split
    · exact ⟨⟨rfl, rfl, rfl, rfl⟩, rfl, rfl⟩
    · dsimp only
      split
      · exact sameDieBooks_updAlloc ..
      · exact .refl s

theorem sameDieBooks_answer (s : State) (node part txn op status : Nat) (data : List Byte) :
    SameDieBooks s (s.answer node part txn op status data) := sameDieBooks_send ..

theorem sameDieBooks_rawWrite (s : State) (loc off : Nat) (data : List Byte) : SameDieBooks s (s.rawWrite loc off data) :=
  ⟨⟨rfl, rfl, rfl, rfl⟩, rfl, rfl⟩

/-! Large-tier bytes that no allocation homes. -/

theorem rawWrite_bytes (s : State) (loc off : Nat) (data : List Byte) :
    (s.rawWrite loc off data).tier.raw.bytes (loc / 128 * 65536 + off) data.length = data := Mem.bytes_write ..

theorem rawWrite_byte_outside (s : State) (loc off a : Nat) (data : List Byte)
    (h : a < loc / 128 * 65536 + off ∨ loc / 128 * 65536 + off + data.length ≤ a) :
    (s.rawWrite loc off data).tier.raw.byte a = s.tier.raw.byte a := Mem.byte_write_outside _ _ _ _ h

/-! Commands of far memory, as effects of the core die. -/

theorem exec_read (s : State) (node : Fin 4096) (part : Fin 32) (txn : W32) (a : FarAddr) (n : Nat) :
    exec (.read node part txn a n) s = s.runDie (fun s => s.readServe node.val part.val txn.toNat a n) := rfl

theorem exec_write (s : State) (node : Fin 4096) (part : Fin 32) (txn : W32) (a : FarAddr) (data : List Byte) :
    exec (.write node part txn a data) s = s.runDie (fun s => s.writeServe node.val part.val txn.toNat a data) := rfl

theorem exec_moveData (s : State) (node : Fin 4096) (part : Fin 32) (txn : W32) (h : BitVec 20) (g : Nat) (block : Fin 16)
    (data : List Byte) : exec (.moveData node part txn h g block data) s =
      s.runDie (fun s => s.moveBlock node.val part.val txn.toNat h.toNat g block.val data) := rfl

theorem exec_msg (s : State) (node : Fin 4096) (set : Fin 32) (data : List Byte) :
    exec (.msg node set data) s = s.runDie (fun s => s.nodeMsg node.val set.val data) := rfl

theorem exec_readData (s : State) (node : Fin 4096) (txn : W32) (data : List Byte) :
    exec (.readData node txn data) s = s.runDie (fun s => s.readData node.val txn.toNat data) := rfl

theorem exec_writeAck (s : State) (node : Fin 4096) (txn : W32) :
    exec (.writeAck node txn) s = s.runDie (fun s => s.writeAck node.val txn.toNat) := rfl

theorem exec_refuse (s : State) (node : Fin 4096) (txn : W32) :
    exec (.refuse node txn) s = s.runDie (fun s => s.remoteRefused node.val txn.toNat) := rfl

theorem exec_moveAck (s : State) (txn : W32) : exec (.moveAck txn) s = s.runDie (fun s => s.moveAck txn.toNat) := rfl

/-! READ (R369). -/

/-- A READ whose bytes can be read is answered with them, and counted where its address resolves. -/
theorem readServe_served {s : State} {node part txn n : Nat} {a : FarAddr} {b : List Byte} (h : s.farRead node part a n = .inr b) :
    s.readServe node part txn a n = (s.countServed part a).answer node part txn 0x02 0 b := by
  simp [readServe, h]

theorem readServe_refused {s : State} {node part txn n st : Nat} {a : FarAddr} (h : s.farRead node part a n = .inl st) :
    s.readServe node part txn a n = s.answer node part txn 0x05 st := by
  simp [readServe, h]

theorem farRead_handle (s : State) (node part h off n : Nat) : s.farRead node part (.handle h off) n =
    if s.handleRefusal part h off n false = 0 then .inr (s.peek h off n) else .inl (s.handleRefusal part h off n false) := rfl

/-- Space lent is read by the node it is lent to alone, within a granule and clear of unreadable bursts. -/
theorem farRead_lent (s : State) (node part l off n : Nat) : s.farRead node part (.place l 0 off) n =
    if 65536 < off + n then .inl 3
    else if Tab.find? s.tier.lent (l / 128) = some node ∧ s.rawBad l off n = false then .inr (s.tier.raw.bytes (l / 128 * 65536 + off) n)
    else .inl 1 := rfl

/-- A READ of a handle is served exactly where nothing refuses it. -/
theorem exec_read_handle (s : State) (hs : s.ready) (node : Fin 4096) (part : Fin 32) (txn : W32) (h off len : Nat) :
    (s.handleRefusal part h off len false = 0 → exec (.read node part txn (.handle h off) len) s =
      .next ((s.countServed part (.handle h off)).answer node part txn.toNat 0x02 0 (s.peek h off len))) ∧
    (s.handleRefusal part h off len false ≠ 0 → exec (.read node part txn (.handle h off) len) s =
      .next (s.answer node part txn.toNat 0x05 (s.handleRefusal part h off len false))) := by
  rw [exec_read]
  refine ⟨fun served => ?_, fun refused => ?_⟩
  · exact runDie_of_sameDieBooks hs (readServe_served (by rw [farRead_handle, if_pos served]))
      ((sameDieBooks_countUse ..).trans (sameDieBooks_answer ..))
  · exact runDie_of_sameDieBooks hs (readServe_refused (by rw [farRead_handle, if_neg refused])) (sameDieBooks_answer ..)

/-- A READ of space lent is served to its holder, and refused past the granule, to others, and where a burst is unreadable. -/
theorem exec_read_lent (s : State) (hs : s.ready) (node : Fin 4096) (part : Fin 32) (txn : W32) (l off len : Nat) :
    (65536 < off + len → exec (.read node part txn (.place l 0 off) len) s = .next (s.answer node part txn.toNat 0x05 3)) ∧
    (off + len ≤ 65536 → Tab.find? s.tier.lent (l / 128) = some node.val → s.rawBad l off len = false →
      exec (.read node part txn (.place l 0 off) len) s =
        .next (s.answer node part txn.toNat 0x02 0 (s.tier.raw.bytes (l / 128 * 65536 + off) len))) ∧
    (off + len ≤ 65536 → ¬ Tab.find? s.tier.lent (l / 128) = some node.val ∨ s.rawBad l off len = true →
      exec (.read node part txn (.place l 0 off) len) s = .next (s.answer node part txn.toNat 0x05 1)) := by
  rw [exec_read]
  refine ⟨fun past => ?_, fun within mine clear => ?_, fun within barred => ?_⟩
  · exact runDie_of_sameDieBooks hs (readServe_refused (by rw [farRead_lent, if_pos past])) (sameDieBooks_answer ..)
  · have served := farRead_lent s node part l off len
    rw [if_neg (Nat.not_lt.mpr within), if_pos ⟨mine, clear⟩] at served
    exact runDie_of_sameDieBooks hs (readServe_served served) (sameDieBooks_answer ..)
  · have refused := farRead_lent s node part l off len
    rw [if_neg (Nat.not_lt.mpr within), if_neg (fun ⟨mine, clear⟩ => barred.elim (· mine) (by simp [clear]))] at refused
    exact runDie_of_sameDieBooks hs (readServe_refused refused) (sameDieBooks_answer ..)

/-! WRITE (R369). -/

theorem writeServe_handle (s : State) (node part txn h off : Nat) (data : List Byte) : s.writeServe node part txn (.handle h off) data =
    if s.handleRefusal part h off data.length true = 0 then
      ((s.writeAlloc h off data).countServed part (.handle h off)).answer node part txn 0x04 0
    else s.answer node part txn 0x05 (s.handleRefusal part h off data.length true) := rfl

/-- Space lent is written by the node it is lent to alone, where nothing merges with a poisoned burst. -/
theorem writeServe_lent (s : State) (node part txn l off : Nat) (data : List Byte) (h : off + data.length ≤ 65536) :
    s.writeServe node part txn (.place l 0 off) data =
      if Tab.find? s.tier.lent (l / 128) = some node ∧ s.rawMerges l off data.length = false then
        (s.rawWrite l off data).answer node part txn 0x04 0
      else s.answer node part txn 0x05 1 := by
  simp [writeServe, Nat.not_lt.mpr h]

/-- A WRITE of a handle is served exactly where nothing refuses it. -/
theorem exec_write_handle (s : State) (hs : s.ready) (node : Fin 4096) (part : Fin 32) (txn : W32) (h off : Nat) (data : List Byte) :
    (s.handleRefusal part h off data.length true = 0 → exec (.write node part txn (.handle h off) data) s =
      .next (((s.writeAlloc h off data).countServed part (.handle h off)).answer node part txn.toNat 0x04 0)) ∧
    (s.handleRefusal part h off data.length true ≠ 0 → exec (.write node part txn (.handle h off) data) s =
      .next (s.answer node part txn.toNat 0x05 (s.handleRefusal part h off data.length true))) := by
  rw [exec_write]
  refine ⟨fun served => ?_, fun refused => ?_⟩
  · exact runDie_of_sameDieBooks hs ((writeServe_handle ..).trans (if_pos served))
      ((sameDieBooks_writeAlloc s h off data).trans ((sameDieBooks_countUse ..).trans (sameDieBooks_answer ..)))
  · exact runDie_of_sameDieBooks hs ((writeServe_handle ..).trans (if_neg refused)) (sameDieBooks_answer ..)

/-- A WRITE of space lent is served to its holder, and refused to others and where it would merge with a poisoned burst. -/
theorem exec_write_lent (s : State) (hs : s.ready) (node : Fin 4096) (part : Fin 32) (txn : W32) (l off : Nat) (data : List Byte)
    (within : off + data.length ≤ 65536) :
    (Tab.find? s.tier.lent (l / 128) = some node.val → s.rawMerges l off data.length = false →
      exec (.write node part txn (.place l 0 off) data) s = .next ((s.rawWrite l off data).answer node part txn.toNat 0x04 0)) ∧
    (¬ Tab.find? s.tier.lent (l / 128) = some node.val ∨ s.rawMerges l off data.length = true →
      exec (.write node part txn (.place l 0 off) data) s = .next (s.answer node part txn.toNat 0x05 1)) := by
  rw [exec_write]
  refine ⟨fun mine clear => ?_, fun barred => ?_⟩
  · exact runDie_of_sameDieBooks hs ((writeServe_lent _ _ _ _ _ _ _ within).trans (if_pos ⟨mine, clear⟩))
      ((sameDieBooks_rawWrite s l off data).trans (sameDieBooks_answer ..))
  · exact runDie_of_sameDieBooks hs ((writeServe_lent _ _ _ _ _ _ _ within).trans
      (if_neg (fun ⟨mine, clear⟩ => barred.elim (· mine) (by simp [clear])))) (sameDieBooks_answer ..)

/-! MOVE_DATA, MOVE_ACK and MSG (R213, R368, R370). -/

/-- Where the one seam record moves a granule of the allocation here for the sender, the block lands at its place of that location. -/
theorem moveBlock_moved {s : State} {node part txn h g b k : Nat} {data : List Byte} {y : Seam} {a : Action} (hr : s.seams.recs = [(k, y)])
    (hy : y.submitter = 8 ∧ y.coordNode = node ∧ y.state ≤ 3) (ha : y.actions = [a]) (hk : (Act.of a).kind = 1)
    (hh : (Act.of a).handle = h) (hg : (Act.of a).granule = g) (hb : b < 16) :
    s.moveBlock node part txn h g b data =
      (s.rawWrite ((Act.of a).location / 128 * 128) (b * 4096) (sliceBytes data 0 4096)).answer node part txn 0x07 0 := by
  simp [moveBlock, hr, hy, ha, hk, hh, hg, Nat.not_le.mpr hb]

/-- A block of a granule that the one seam record does not move is refused. -/
theorem moveBlock_other {s : State} {node part txn h g b k : Nat} {data : List Byte} {y : Seam} {a : Action} (hr : s.seams.recs = [(k, y)])
    (ha : y.actions = [a]) (hg : (Act.of a).granule ≠ g) : s.moveBlock node part txn h g b data = s.answer node part txn 0x05 1 := by
  simp [moveBlock, hr, ha, hg]

/-- The whole of a list of `n` bytes. -/
theorem sliceBytes_whole (l : List Byte) : sliceBytes l 0 l.length = l := by simp [sliceBytes]

theorem length_sliceBytes (l : List Byte) (o n : Nat) : (sliceBytes l o n).length = n := by
  simp only [sliceBytes, List.length_append, List.length_replicate, List.length_take, List.length_drop]
  omega

/-- A moved block is kept where its granule goes; allocations and seams stay. -/
theorem exec_moveData_moved {s : State} (hs : s.ready) {node : Fin 4096} (part : Fin 32) (txn : W32) {h : BitVec 20} {g : Nat}
    (block : Fin 16) {data : List Byte} {k : Nat} {y : Seam} {a : Action} (hr : s.seams.recs = [(k, y)])
    (hy : y.submitter = 8 ∧ y.coordNode = node.val ∧ y.state ≤ 3) (ha : y.actions = [a]) (hk : (Act.of a).kind = 1)
    (hh : (Act.of a).handle = h.toNat) (hg : (Act.of a).granule = g) (hl : data.length = 4096) :
    ∃ t, exec (.moveData node part txn h g block data) s = .next t ∧
      t.tier.raw.bytes ((Act.of a).location / 128 * 65536 + block.val * 4096) 4096 = data ∧ t.tier.allocs = s.tier.allocs ∧
      t.seams = s.seams := by
  let kept := s.rawWrite ((Act.of a).location / 128 * 128) (block.val * 4096) data
  have told : Talked kept (kept.answer node part txn.toNat 0x07 0) := talked_send ..
  have moved := moveBlock_moved (part := part) (txn := txn.toNat) (data := data) hr hy ha hk hh hg block.isLt
  have whole : sliceBytes data 0 4096 = data := hl ▸ sliceBytes_whole data
  rw [whole] at moved
  rw [exec_moveData]
  refine ⟨_, runDie_of_sameDieBooks hs moved ((sameDieBooks_rawWrite ..).trans (sameDieBooks_answer ..)), ?_, ?_, told.seams⟩
  · have bytes := rawWrite_bytes s ((Act.of a).location / 128 * 128) (block.val * 4096) data
    rw [Nat.mul_div_cancel _ (by decide), hl] at bytes
    rw [told.tier]
    exact bytes
  · exact congrArg (·.allocs) told.tier

theorem exec_moveData_other {s : State} (hs : s.ready) (node : Fin 4096) (part : Fin 32) (txn : W32) (h : BitVec 20) {g : Nat}
    (block : Fin 16) (data : List Byte) {k : Nat} {y : Seam} {a : Action} (hr : s.seams.recs = [(k, y)]) (ha : y.actions = [a])
    (hg : (Act.of a).granule ≠ g) :
    exec (.moveData node part txn h g block data) s = .next (s.answer node part txn.toNat 0x05 1) := by
  rw [exec_moveData]
  exact runDie_of_sameDieBooks hs (moveBlock_other hr ha hg) (sameDieBooks_answer ..)

/-- An MSG is passed to the host of a partition that exists, and dropped for one that does not. -/
theorem exec_msg_delivers (s : State) (hs : s.ready) (node : Fin 4096) (part : Fin 32) (data : List Byte) :
    (s.partValid part = true → exec (.msg node part data) s =
      .next (s.sendHost part 0x8041 (leBytes 2 node ++ List.replicate 14 0 ++ data) true)) ∧
    (s.partValid part = false → exec (.msg node part data) s = .next s) := by
  rw [exec_msg]
  refine ⟨fun valid => ?_, fun invalid => ?_⟩
  · exact runDie_of_sameDieBooks hs (if_pos valid) (sameDieBooks_of_talked (told_sendHost s _ _ _ _ part.isLt).talked)
  · exact runDie_of_sameDieBooks hs (if_neg (by simp [invalid])) (.refl s)

/-! Answers to far requests (R198, R202, R368). -/

/-- A descriptor without the far request of a transaction. -/
def withoutReq (txn : Nat) (y : Desc) : Desc := { y with reqs := y.reqs.filter (fun q => q.txn != txn) }

theorem txn_ne_of_mem_withoutReq {txn : Nat} {y : Desc} {q : FarReq} (h : q ∈ (withoutReq txn y).reqs) : q.txn ≠ txn := by
  simpa using (List.mem_filter.mp h).2

theorem core_updDesc (s : State) (c : Nat) (x : Desc) (f : Desc → Desc) : (s.updDesc c x f).core c =
    { s.core c with descs := (s.core c).descs.map (fun y => if y.write = x.write ∧ y.place = x.place then f y else y) } :=
  core_updCore_same ..

/-- A descriptor of the place changed is one that the change has given, where the change keeps places. -/
theorem mem_updDesc {s : State} {c : Nat} {x y : Desc} {f : Desc → Desc} (h : y ∈ ((s.updDesc c x f).core c).descs)
    (hw : y.write = x.write) (hp : y.place = x.place) : ∃ z, y = f z := by
  rw [core_updDesc] at h
  obtain ⟨z, -, rfl⟩ := List.mem_map.mp h
  by_cases hz : z.write = x.write ∧ z.place = x.place
  · exact ⟨z, if_pos hz⟩
  · rw [if_neg hz] at hw hp; exact absurd ⟨hw, hp⟩ hz

/-- The descriptor of a place after a change of it that keeps places. -/
theorem descAt_updDesc {s : State} {c : Nat} {x y : Desc} {f : Desc → Desc} (hf : ∀ z, (f z).write = z.write ∧ (f z).place = z.place)
    (h : s.descAt c x.write x.place = some y) : (s.updDesc c x f).descAt c x.write x.place = some (f y) := by
  let g : Desc → Desc := fun z => if z.write = x.write ∧ z.place = x.place then f z else z
  have keeps : ∀ z, (g z).write = z.write ∧ (g z).place = z.place := by
    intro z
    by_cases hz : z.write = x.write ∧ z.place = x.place
    · simpa only [g, if_pos hz] using hf z
    · simp only [g, if_neg hz, and_self]
  have mapped : (s.updDesc c x f).descAt c x.write x.place = (s.descAt c x.write x.place).map g := by
    simp only [descAt, engine, core_updDesc, List.filter_map, List.find?_map]
    congr 2
    · funext z
      exact congrArg (· == x.place) (keeps z).2
    · congr 1
      funext z
      exact congrArg (· == x.write) (keeps z).1
  have place : y.place = x.place := by simpa using List.find?_some h
  have write : y.write = x.write := by simpa using (List.mem_filter.mp (List.mem_of_find?_eq_some h)).2
  rw [mapped, h, Option.map_some]
  exact congrArg some (if_pos ⟨write, place⟩)

theorem sameDieBooks_updCore (s : State) (c : Nat) (f : Core → Core) : SameDieBooks s (s.updCore c f) := ⟨⟨rfl, rfl, rfl, rfl⟩, rfl, rfl⟩

/-- READ_DATA of a request of one piece: its bytes land at the piece's local address, and the request is answered. -/
theorem readData_piece {s : State} {node txn c : Nat} {d : Desc} {r : FarReq} {q : Nat × Nat × Nat} {data : List Byte}
    (hr : s.farReq? node txn = some (c, d, r)) (hw : d.write = false) (hq : r.pieces = [q]) :
    s.readData node txn data = (s.setScratch c q.2.1 (sliceBytes data q.1 q.2.2)).updDesc c d (withoutReq txn) := by
  simp only [readData, hr, hw, hq, List.foldl_cons, List.foldl_nil]
  rfl

theorem writeAck_write {s : State} {node txn c : Nat} {d : Desc} {r : FarReq} (hr : s.farReq? node txn = some (c, d, r))
    (hw : d.write = true) : s.writeAck node txn = s.updDesc c d (withoutReq txn) := by
  simp only [writeAck, hr, hw, if_true]
  rfl

theorem remoteRefused_desc {s : State} {node txn c : Nat} {d : Desc} {r : FarReq} (hr : s.farReq? node txn = some (c, d, r)) :
    s.remoteRefused node txn = s.streamFault c d 9 := by
  simp only [remoteRefused, hr]

/-- READ_DATA lands in the scratchpad where its request says, changes nothing else there, and ends the request. -/
theorem exec_readData_lands {s : State} (hs : s.ready) {node : Fin 4096} {txn : W32} {c : Nat} {d : Desc} {r : FarReq}
    {q : Nat × Nat × Nat} (data : List Byte) (hr : s.farReq? node txn.toNat = some (c, d, r)) (hw : d.write = false) (hq : r.pieces = [q]) :
    ∃ t, exec (.readData node txn data) s = .next t ∧ t.scratch c q.2.1 q.2.2 = sliceBytes data q.1 q.2.2 ∧
      (∀ i, i < q.2.1 ∨ q.2.1 + q.2.2 ≤ i → (t.core c).scratch.byte i = (s.core c).scratch.byte i) ∧ OtherCores c s t ∧
      ∀ y, y ∈ (t.core c).descs → y.write = d.write → y.place = d.place → ∀ q, q ∈ y.reqs → q.txn ≠ txn.toNat := by
  have length : (sliceBytes data q.1 q.2.2).length = q.2.2 := length_sliceBytes ..
  let landed := s.setScratch c q.2.1 (sliceBytes data q.1 q.2.2)
  have scratch : ((landed.updDesc c d (withoutReq txn.toNat)).core c).scratch =
      (s.core c).scratch.write q.2.1 (sliceBytes data q.1 q.2.2) := by
    rw [core_updDesc]
    exact congrArg (·.scratch) (core_updCore_same s c _)
  rw [exec_readData]
  refine ⟨landed.updDesc c d (withoutReq txn.toNat), ?_, ?_, ?_, ?_, ?_⟩
  · exact runDie_of_sameDieBooks hs (readData_piece hr hw hq) ((sameDieBooks_updCore ..).trans (sameDieBooks_updCore ..))
  · have read := Mem.bytes_write (s.core c).scratch q.2.1 (sliceBytes data q.1 q.2.2)
    rw [length] at read
    rw [State.scratch, scratch, read]
  · intro i outside
    rw [scratch]
    exact Mem.byte_write_outside _ _ _ _ (by rwa [length])
  · intro e other
    exact (core_updCore_ne _ _ _ _ other).trans (core_updCore_ne _ _ _ _ other)
  · intro y mem write place p hp
    obtain ⟨z, rfl⟩ := mem_updDesc mem write place
    exact txn_ne_of_mem_withoutReq hp

/-! Stream faults (R202, R203). -/

/-- Two states agree in the books, the registers and the descriptors. -/
structure SameDescs (s t : State) : Prop extends SameDieBooks s t where
  regs : t.regs = s.regs
  descs : ∀ c, (t.core c).descs = (s.core c).descs

theorem SameDescs.refl (s : State) : SameDescs s s := ⟨.refl s, rfl, fun _ => rfl⟩

theorem SameDescs.trans {s t u : State} (h : SameDescs s t) (k : SameDescs t u) : SameDescs s u :=
  ⟨h.toSameDieBooks.trans k.toSameDieBooks, k.regs.trans h.regs, fun c => (k.descs c).trans (h.descs c)⟩

theorem SameDescs.rd {s t : State} (h : SameDescs s t) (off : Nat) : t.rd off = s.rd off := by
  simp only [State.rd, reg, h.regs, h.part]

theorem SameDescs.descAt {s t : State} (h : SameDescs s t) (c : Nat) (w : Bool) (p : Nat) : t.descAt c w p = s.descAt c w p := by
  simp only [State.descAt, engine, h.descs]

/-- A change of a core that keeps its descriptors. -/
theorem sameDescs_updCore (s : State) (c : Nat) (f : Core → Core) (hf : ∀ k, (f k).descs = k.descs) : SameDescs s (s.updCore c f) := by
  refine ⟨sameDieBooks_updCore s c f, rfl, fun e => ?_⟩
  by_cases h : e = c
  · subst h; rw [core_updCore_same, hf]
  · rw [core_updCore_ne _ _ _ _ h]

theorem sameDescs_updAlloc (s : State) (h : Nat) (f : Alloc → Alloc) : SameDescs s (s.updAlloc h f) := by
  refine ⟨sameDieBooks_updAlloc s h f, ?_, fun c => ?_⟩ <;> (unfold updAlloc; split <;> rfl)

theorem sameDescs_drawn (s : State) (n : Nat) : SameDescs s (s.drawn n) := ⟨sameDieBooks_drawn s n, rfl, fun _ => rfl⟩

/-- What a cancelled write leaves undefined is bytes of allocations and scratchpads. -/
theorem sameDescs_spoilFar (s : State) (x : Desc) : SameDescs s (s.spoilFar x) := by
  refine List.foldlRecOn x.pieces _ (motive := fun t => SameDescs s t) (.refl s) (fun t ht p _ => ht.trans ?_)
  dsimp only
  split
  · exact (sameDescs_drawn t _).trans (sameDescs_updAlloc ..)
  · split
    · exact (sameDescs_drawn t _).trans (sameDescs_updCore _ _ _ (fun _ => rfl))
    · exact .refl t

/-- A descriptor stopped while it is in progress. -/
def haltedDesc (y : Desc) : Desc := { y with state := 2, reqs := [] }

/-- The state in which a descriptor in progress is stopped: its ticket is dead, and where it was to write is undefined. -/
def ticketDead (s : State) (c : Nat) (x : Desc) : State :=
  let s := s.updCore c (fun k => { k with dead := k.dead ++ [x.ticket] })
  if x.write then s.spoilFar x else s

theorem stopDesc_inProgress (s : State) (c : Nat) (x : Desc) (h : x.state = 1) :
    s.stopDesc c x = (s.ticketDead c x).updDesc c x haltedDesc := by
  simp only [stopDesc, if_pos h]
  rfl

theorem sameDescs_ticketDead (s : State) (c : Nat) (x : Desc) : SameDescs s (s.ticketDead c x) := by
  have dead := sameDescs_updCore s c (fun k => { k with dead := k.dead ++ [x.ticket] }) (fun _ => rfl)
  unfold ticketDead
  dsimp only
  split
  · exact dead.trans (sameDescs_spoilFar ..)
  · exact dead

/-- The word of TIER_STREAM_FAULT for a fault of a descriptor (R203). -/
def faultWord (c : Nat) (x : Desc) (code : Nat) : Nat :=
  2 ^ 31 + x.part * 2 ^ 26 + x.slot * 2 ^ 24 + b2n x.write * 2 ^ 23 + c / 32 * 2 ^ 15 + c % 32 * 2 ^ 10 + code

/-- The state after the registers have taken a stream fault: the first one not cleared stays. -/
def faultShown (s : State) (c : Nat) (x : Desc) (code : Nat) : State :=
  if s.fld Reg.TIER_STREAM_FAULT 31 31 = 1 then s
  else ((s.wr Reg.TIER_STREAM_FAULT (faultWord c x code)).wr Reg.TIER_STREAM_FAULT_TAG (x.w 3 31 0)).wr Reg.TIER_STREAM_FAULT_ADDR x.addr

/-- The state after a stream fault has been counted. -/
def faultCounted (s : State) (c : Nat) (x : Desc) (code : Nat) : State :=
  (s.faultShown c x code).bump (Reg.TIER_STREAM_FAULTS x.part)

/-- The state after a stream fault has been raised. -/
def faultRaised (s : State) (c : Nat) (x : Desc) (code : Nat) : State :=
  (s.faultCounted c x code).event 0x0020 2 2 (some x.part) [faultWord c x code, x.w 3 31 0]

theorem told_faultRaised (s : State) (c : Nat) (x : Desc) (code : Nat) (h : x.part < 32) :
    Told (s.faultCounted c x code) (s.faultRaised c x code) :=
  told_event _ _ _ _ _ _ (fun _ hp => Option.some.inj hp ▸ h)

theorem sameDieBooks_faultCounted (s : State) (c : Nat) (x : Desc) (code : Nat) : SameDieBooks s (s.faultCounted c x code) := by
  unfold faultCounted faultShown
  split <;> exact ⟨⟨rfl, rfl, rfl, rfl⟩, rfl, rfl⟩

theorem faultCounted_cores (s : State) (c : Nat) (x : Desc) (code : Nat) : (s.faultCounted c x code).cores = s.cores := by
  unfold faultCounted faultShown
  split <;> rfl

theorem faultCounted_serving (s : State) (c : Nat) (x : Desc) (code : Nat) : (s.faultCounted c x code).serving = s.serving := by
  unfold faultCounted faultShown
  split <;> rfl

theorem sameDieBooks_faultRaised (s : State) (c : Nat) (x : Desc) (code : Nat) (h : x.part < 32) :
    SameDieBooks s (s.faultRaised c x code) :=
  (sameDieBooks_faultCounted s c x code).trans (sameDieBooks_of_talked (told_faultRaised s c x code h).talked)

theorem faultRaised_cores (s : State) (c : Nat) (x : Desc) (code : Nat) (h : x.part < 32) : (s.faultRaised c x code).cores = s.cores :=
  (told_faultRaised s c x code h).cores.trans (faultCounted_cores s c x code)

theorem faultRaised_serving (s : State) (c : Nat) (x : Desc) (code : Nat) (h : x.part < 32) :
    (s.faultRaised c x code).serving = s.serving :=
  (told_faultRaised s c x code h).serving.trans (faultCounted_serving s c x code)

/-- The counts of stream faults lie above the registers that record one. -/
theorem streamFaults_ne (p off : Nat) (h : off < 0x210110) : Reg.TIER_STREAM_FAULTS p ≠ off := by
  simp only [Reg.TIER_STREAM_FAULTS]; omega

/-- A stream fault adds one to its partition's count. -/
theorem rd_faultRaised_count (s : State) (c : Nat) (x : Desc) (code : Nat) (h : x.part < 32) :
    (s.faultRaised c x code).rd (Reg.TIER_STREAM_FAULTS x.part) = (s.rd (Reg.TIER_STREAM_FAULTS x.part) + 1) % 2 ^ 32 := by
  have quiet : tells (Reg.TIER_STREAM_FAULTS x.part) = false := by
    have past : ¬ Reg.TIER_STREAM_FAULTS x.part < 0x030300 := by simp only [Reg.TIER_STREAM_FAULTS]; omega
    have below : Reg.TIER_STREAM_FAULTS x.part ≠ Reg.FW_LOG_PROD := by simp only [Reg.TIER_STREAM_FAULTS, Reg.FW_LOG_PROD]; omega
    simp [tells, past, below, streamFaults_ne _ Reg.EVENT_PROD (by decide), streamFaults_ne _ Reg.EVENT_LOST (by decide)]
  have shown : (s.faultShown c x code).rd (Reg.TIER_STREAM_FAULTS x.part) = s.rd (Reg.TIER_STREAM_FAULTS x.part) := by
    unfold faultShown
    split
    · rfl
    · rw [rd_wr_ne _ _ _ _ (streamFaults_ne _ _ (by decide)), rd_wr_ne _ _ _ _ (streamFaults_ne _ _ (by decide)),
        rd_wr_ne _ _ _ _ (streamFaults_ne _ _ (by decide))]
  calc (s.faultRaised c x code).rd (Reg.TIER_STREAM_FAULTS x.part)
      = (s.faultCounted c x code).rd (Reg.TIER_STREAM_FAULTS x.part) :=
        congrArg BitVec.toNat ((told_faultRaised s c x code h).regs _ quiet)
    _ = (s.rd (Reg.TIER_STREAM_FAULTS x.part) + 1) % 2 ^ 32 := by rw [faultCounted, bump, rd_wr_same, shown]

/-- Where no stream fault stood recorded, TIER_STREAM_FAULT names the code of this one. -/
theorem fld_faultRaised_code (s : State) (c : Nat) (x : Desc) (code : Nat) (h : x.part < 32) (hc : code < 1024)
    (hf : s.fld Reg.TIER_STREAM_FAULT 31 31 = 0) : (s.faultRaised c x code).fld Reg.TIER_STREAM_FAULT 9 0 = code := by
  have word : bits (faultWord c x code % 2 ^ 32) 9 0 = code := by
    simp only [faultWord, bits, Nat.shiftRight_zero]
    omega
  have raised : (s.faultRaised c x code).rd Reg.TIER_STREAM_FAULT = (s.faultCounted c x code).rd Reg.TIER_STREAM_FAULT :=
    congrArg BitVec.toNat ((told_faultRaised s c x code h).regs _ (by decide))
  rw [fld, raised, faultCounted, faultShown, if_neg (by simp [hf]), bump,
    rd_wr_ne _ _ _ _ (streamFaults_ne _ _ (by decide)).symm, rd_wr_ne _ _ _ _ (by decide), rd_wr_ne _ _ _ _ (by decide), rd_wr_same, word]

/-- A stream fault of a descriptor whose item is off the list stops the descriptor alone. -/
theorem streamFault_noItem (s : State) (c : Nat) (x : Desc) (code : Nat) (h : x.part < 32) (hi : s.item? x.item = none) :
    s.streamFault c x code = (s.faultRaised c x code).stopDesc c x := by
  have item : (s.faultRaised c x code).item? x.item = none := by
    rw [State.item?, faultRaised_serving s c x code h]; exact hi
  unfold streamFault
  extract_lets
  split
  · rfl
  next i listed => exact absurd (item.symm.trans listed) (by simp)

/-- A refusal faults the descriptor of its request REMOTE_REFUSED: counted, recorded where nothing was, and the descriptor stopped. -/
theorem exec_refuse_faults {s : State} (hs : s.ready) {node : Fin 4096} {txn : W32} {c : Nat} {d : Desc} {r : FarReq}
    (hr : s.farReq? node txn.toNat = some (c, d, r)) (hd : d.state = 1) (ha : s.descAt c d.write d.place = some d) (hp : d.part < 32)
    (hi : s.item? d.item = none) :
    ∃ t y, exec (.refuse node txn) s = .next t ∧ t.descAt c d.write d.place = some y ∧ y.state = 2 ∧ y.reqs = [] ∧
      t.rd (Reg.TIER_STREAM_FAULTS d.part) = (s.rd (Reg.TIER_STREAM_FAULTS d.part) + 1) % 2 ^ 32 ∧
      (s.fld Reg.TIER_STREAM_FAULT 31 31 = 0 → t.fld Reg.TIER_STREAM_FAULT 9 0 = 9) := by
  let raised := s.faultRaised c d 9
  have dead : SameDescs raised (raised.ticketDead c d) := sameDescs_ticketDead raised c d
  have effect : s.remoteRefused node txn.toNat = (raised.ticketDead c d).updDesc c d haltedDesc := by
    rw [remoteRefused_desc hr, streamFault_noItem s c d 9 hp hi, stopDesc_inProgress _ c d hd]
  have rd : ∀ off, ((raised.ticketDead c d).updDesc c d haltedDesc).rd off = raised.rd off := fun off => dead.rd off
  have found : (raised.ticketDead c d).descAt c d.write d.place = some d := by
    rw [dead.descAt, State.descAt, engine, core, faultRaised_cores s c d 9 hp]
    exact ha
  rw [exec_refuse]
  refine ⟨_, haltedDesc d, ?_, descAt_updDesc (fun _ => ⟨rfl, rfl⟩) found, rfl, rfl, ?_, fun clear => ?_⟩
  · exact runDie_of_sameDieBooks hs effect
      ((sameDieBooks_faultRaised s c d 9 hp).trans (dead.toSameDieBooks.trans (sameDieBooks_updCore ..)))
  · exact (rd _).trans (rd_faultRaised_count s c d 9 hp)
  · rw [fld, rd]
    exact fld_faultRaised_code s c d 9 hp (by decide) clear

/-- Settles O47: each clause is the rule for its command, by what the address names or by which request waits for the answer. -/
theorem farAccessesAreServedOrRefused : Obligations.FarAccessesAreServedOrRefused := by
  unfold Obligations.FarAccessesAreServedOrRefused
  intro s node part txn hs
  refine ⟨exec_read_handle s hs node part txn, ?lent, exec_write_handle s hs node part txn, ?moved, exec_msg_delivers s hs node part, ?answers,
    ?moveAck⟩
  case lent =>
    intro l off len
    obtain ⟨past, served, refused⟩ := exec_read_lent s hs node part txn l off len
    refine ⟨past, served, refused, ?_⟩
    rintro data rfl within
    obtain ⟨served, refused⟩ := exec_write_lent s hs node part txn l off data within
    exact ⟨fun mine clear => ⟨s.rawWrite l off data, served mine clear, rawWrite_bytes s l off data,
      fun a outside => rawWrite_byte_outside s l off a data outside, rfl⟩, refused⟩
  case moved =>
    intro h g block data k y a recs submitter coordinator phase acts kind handle
    exact ⟨exec_moveData_moved hs part txn block recs ⟨submitter, coordinator, phase⟩ acts kind handle,
      exec_moveData_other hs node part txn h block data recs acts⟩
  case answers =>
    intro c d r waits
    refine ⟨fun q data read piece => exec_readData_lands hs data waits read piece, fun write => ?_, ?_⟩
    · rw [exec_writeAck]
      exact runDie_of_sameDieBooks hs (writeAck_write waits write) (sameDieBooks_updCore ..)
    · intro begun held part _ _ item
      exact exec_refuse_faults hs waits begun held part item
  case moveAck =>
    rw [exec_moveAck]
    exact runDie_of_sameDieBooks hs rfl ⟨⟨rfl, rfl, rfl, rfl⟩, rfl, rfl⟩

end State

end Sys2Proof.Machine
end

section
/-!
Weight broadcast (R222, R338, R339, R371): what handing messages to the transport leaves, what a message of a tree comes to at its
receiver, what the reader sends, and when a replica may be read. O42 is assembled from these rules.
-/
namespace Sys2Proof.Machine

namespace State

/-! What handing packets to the transport leaves. -/

/-- One state is another after transactions have been handed to the transport: what `Talked` allows, no value drawn, the lost nodes and the
broadcasts as they were, and nothing that was handed over or waits taken back. -/
structure Handed (s t : State) : Prop extends Talked s t where
  free : t.free = s.free
  lost : t.cause.lost = s.cause.lost
  broadcasts : t.cause.broadcasts = s.cause.broadcasts
  sent : ∀ m ∈ s.cause.sent, m ∈ t.cause.sent
  parked : ∀ m ∈ s.cause.parked, m ∈ t.cause.parked

theorem Handed.refl (s : State) : Handed s s := ⟨.refl s, rfl, rfl, rfl, fun _ h => h, fun _ h => h⟩

theorem Handed.trans {s t u : State} (h : Handed s t) (k : Handed t u) : Handed s u :=
  ⟨h.toTalked.trans k.toTalked, k.free.trans h.free, k.lost.trans h.lost, k.broadcasts.trans h.broadcasts,
    fun m hm => k.sent m (h.sent m hm), fun m hm => k.parked m (h.parked m hm)⟩

theorem handed_bump (s : State) (off n : Nat) (h : carries off = true) : Handed s (s.bump off n) :=
  ⟨talked_bump s off n h, rfl, rfl, rfl, fun _ h => h, fun _ h => h⟩

/-- A change of the transport that drops neither a message nor a broadcast may come before what is handed over. -/
theorem Handed.afterCause {s t : State} {x : CauseSt} (h : Handed { s with cause := x } t) (lost : x.lost = s.cause.lost)
    (broadcasts : x.broadcasts = s.cause.broadcasts) (sent : ∀ m ∈ s.cause.sent, m ∈ x.sent) (parked : ∀ m ∈ s.cause.parked, m ∈ x.parked) :
    Handed s t :=
  Handed.trans ⟨talked_cause s x, rfl, lost, broadcasts, sent, parked⟩ h

theorem handed_updPort (s : State) (p : Nat) (f : PortSt → PortSt) : Handed s (s.updPort p f) :=
  ⟨talked_updPort s p f, rfl, rfl, rfl, fun _ h => h, fun _ h => h⟩

theorem handed_putFlit (s : State) (p : Nat) (f : Flit) : Handed s (s.putFlit p f).1 :=
  ⟨talked_putFlit s p f, rfl, rfl, rfl, fun _ h => h, fun _ h => h⟩

theorem handed_freeBuffer (s : State) (b : Nat × Nat × Nat) : Handed s (s.freeBuffer b) := by
  unfold freeBuffer
  split
  · exact .refl s
  · exact handed_updPort s _ _

/-- A fold whose every step hands something over hands it over. -/
theorem handed_foldl {α : Type} (f : State → α → State) (l : List α) (h : ∀ s, ∀ a ∈ l, Handed s (f s a)) (s : State) :
    Handed s (l.foldl f s) :=
  List.foldlRecOn l f (motive := fun t => Handed s t) (.refl s) (fun t ht a ha => ht.trans (h t a ha))

theorem handed_pump (p : Nat) (hp : p < 16) (fuel : Nat) : ∀ s : State, Handed s (s.pump p fuel) := by
  induction fuel with
  | zero => exact Handed.refl
  | succ n ih =>
    intro s
    have flit (u : State) (f : PortSt → PortSt) : Handed u ((u.updPort p f).bump (Reg.CAUSEWAY_PORT_TX_FLITS p)) :=
      (handed_updPort u p f).trans (handed_bump _ _ 1 (carries_tx p hp))
    simp only [pump]
    split
    · exact .refl s
    · split
      · exact .refl s
      · split
        next b _ => exact ((handed_putFlit s p _).trans (flit _ _)).trans ((handed_freeBuffer _ b).trans (ih _))
        · exact ((handed_putFlit s p _).trans (flit _ _)).trans (ih _)

theorem handed_queueFlits (s : State) (p : Nat) (l : List Flit) (hp : p < 16) : Handed s (s.queueFlits p l) :=
  (handed_updPort s p _).trans (handed_pump p hp _ _)

theorem handed_sendPacket (s : State) (id : FlowId) (b : Bool) (fl seq : Nat) (t : Txn) : Handed s (s.sendPacket id b fl seq none t) := by
  simp only [sendPacket, Option.none_or]
  split
  · exact (handed_bump _ _ 1 (by decide)).afterCause rfl rfl (fun _ h => h) (fun _ h => h)
  next p route =>
    exact (handed_queueFlits _ p _ (routeTo_lt _ _ _ _ route)).afterCause rfl rfl (fun _ h => h) (fun _ h => h)

/-- A transaction handed to the transport takes nothing back; for a node not lost, on a flow that exists, it is sent or waits (R365). -/
theorem handed_send (s : State) (t : Txn) : Handed s (s.send t) ∧
    (s.nodeLost t.node = false → (s.flowOf t).isSome = true → t ∈ (s.send t).cause.sent ∨ t ∈ (s.send t).cause.parked) := by
  simp only [send, sendVia]
  split
  next lost => exact ⟨handed_bump _ _ _ (by decide), fun here => by simp [lost] at here⟩
  · split
    next noFlow => exact ⟨.refl s, fun _ flow => by simp [noFlow] at flow⟩
    · split
      · exact ⟨⟨talked_cause s _, rfl, rfl, rfl, fun _ h => h, fun _ h => List.mem_append_left _ h⟩, fun _ _ => .inr (by simp)⟩
      next id _ _ =>
        exact ⟨(handed_sendPacket ..).afterCause rfl rfl (fun _ h => List.mem_append_left _ h) (fun _ h => h),
          fun _ _ => .inl ((handed_sendPacket ..).sent t (by simp))⟩

/-- Ports named by a tree's entry exist. -/
theorem treeOut_lt {s : State} {tree p : Nat} (h : p ∈ s.treeOut tree) : p < 16 := by
  unfold treeOut at h
  split at h
  · exact List.mem_range.mp (List.mem_filter.mp h).1
  · cases h

theorem handed_sendTree (s : State) (tree seq : Nat) (ports : List Nat) (t : Txn) (h : ∀ p ∈ ports, p < 16) :
    Handed s (s.sendTree tree seq ports t) := by
  unfold sendTree
  split
  · exact .refl s
  · exact (handed_foldl _ ports (fun u p hp => handed_queueFlits u p _ (h p hp)) _).afterCause rfl rfl
      (fun _ h => List.mem_append_left _ h) (fun _ h => h)

/-- A message goes out on the ready ports of its tree. -/
theorem handed_sendTree_out (s : State) (tree seq : Nat) (t : Txn) : Handed s (s.sendTree tree seq ((s.treeOut tree).filter s.portReady) t) :=
  handed_sendTree s tree seq _ t (fun _ hp => treeOut_lt (List.mem_filter.mp hp).1)

theorem handed_treeStep (s : State) (tree : Nat) : Handed s (s.treeStep tree) :=
  ⟨talked_cause s _, rfl, rfl, rfl, fun _ h => h, fun _ h => h⟩

theorem handed_treeNext (s : State) (next : Tab Nat) : Handed s { s with cause := { s.cause with treeNext := next } } :=
  ⟨talked_cause s _, rfl, rfl, rfl, fun _ h => h, fun _ h => h⟩

theorem handed_treeGap (s : State) (tree seq : Nat) (t : Txn) : Handed s (s.treeGap tree seq t) := by
  unfold treeGap
  extract_lets next lost at_ gs u
  clear_value gs
  have asked : Handed s u := handed_foldl _ gs (fun v _ _ => (handed_send v _).1) s
  clear_value u
  exact asked.trans (handed_treeNext u _)

/-- After handing over, a state differs in its registers, its host interface and its transport alone. -/
theorem Handed.eq {s t : State} (h : Handed s t) : t = { s with regs := t.regs, host := t.host, cause := t.cause } := by
  cases t
  rw [State.mk.injEq]
  exact ⟨h.part, h.free, rfl, h.snap, h.posted, h.leg, rfl, h.serving, h.tables, h.seams, h.tier, rfl, h.cores, h.net, h.expert, h.store,
    h.power, h.enclave, h.mgmt, h.test, h.due, h.pending⟩

/-! A message of a tree (R371). -/

/-- A message that comes by another port than its tree's in-port is dropped and counted. -/
theorem treeTxn_elsewhere {s : State} {port tree : Nat} (seq : Nat) (t : Txn) (h : s.treeIn tree ≠ some port) :
    s.treeTxn port tree seq t = s.bump Reg.CAUSEWAY_NOROUTE := by
  simp [treeTxn, treeArrives, h]

/-- One that comes by the in-port is sent on, and delivered where the tree's entry says so. -/
theorem treeTxn_here {s : State} {port tree : Nat} (seq : Nat) (t : Txn) (h : s.treeIn tree = some port)
    (receives : bit (s.ent 6 (4096 + tree) 0 1) 1 = true) :
    ∃ u, Handed s u ∧ s.treeTxn port tree seq t = u.deliverTxn t (some port) := by
  let v := s.sendTree tree seq ((s.treeOut tree).filter s.portReady) t
  have sentOn : Handed s v := handed_sendTree_out s tree seq t
  have same : v.ent 6 (4096 + tree) 0 1 = s.ent 6 (4096 + tree) 0 1 := by simp only [ent, entry, sentOn.tables]
  refine ⟨v.treeGap tree seq t, sentOn.trans (handed_treeGap v tree seq t), ?_⟩
  simp only [treeTxn, treeArrives, h, ne_eq, not_true_eq_false, if_false]
  rw [show (s.sendTree tree seq ((s.treeOut tree).filter s.portReady) t).ent 6 (4096 + tree) 0 1 = _ from same, receives]
  rfl

/-! The broadcasts of a module. -/

theorem broadcast?_of_handed {s t : State} (h : Handed s t) (tree obj ver : Nat) : t.broadcast? tree obj ver = s.broadcast? tree obj ver := by
  simp only [broadcast?, h.broadcasts]

/-- A change of a broadcast that keeps its tree, object and version. -/
theorem broadcast?_updBroadcast (s : State) (tree obj ver : Nat) (f : Broadcast → Broadcast)
    (hf : ∀ b, (f b).tree = b.tree ∧ (f b).object = b.object ∧ (f b).version = b.version) :
    (s.updBroadcast tree obj ver f).broadcast? tree obj ver = (s.broadcast? tree obj ver).map f := by
  simp only [broadcast?, updBroadcast]
  induction s.cause.broadcasts with
  | nil => rfl
  | cons b l ih =>
    by_cases hb : b.tree = tree ∧ b.object = obj ∧ b.version = ver
    · obtain ⟨ht, ho, hv⟩ := hf b
      simp [hb, ht, ho, hv]
    · have other : (b.tree == tree && b.object == obj && b.version == ver) = false := by simpa [and_assoc] using hb
      simp only [List.map_cons, if_neg hb, List.find?_cons, other, ih]

/-! BCAST at a receiver (R338). -/

/-- The state with a broadcast registered, where it is not yet. -/
def openBroadcast (s : State) (tree obj ver first part tier : Nat) (rehoming : Bool) : State :=
  if (s.broadcast? tree obj ver).isSome then s else { s with cause := { s.cause with
    broadcasts := s.cause.broadcasts ++ [{ tree, object := obj, version := ver, first, part, tier, rehoming }] } }

/-- A broadcast with one more block come. -/
def withBlock (x : Nat) (b : Broadcast) : Broadcast := { b with blocks := if b.blocks.contains x then b.blocks else b.blocks ++ [x] }

/-- An allocation with the bytes of a block. -/
def withBytes (g k : Nat) (data : List Byte) (a : Alloc) : Alloc :=
  { a with data := a.data.write (g * 65536 + k * 4096) (sliceBytes data 0 4096) }

/-- The state with a block of a broadcast kept. -/
def keepBlock (s : State) (h tree obj ver g k : Nat) (data : List Byte) : State :=
  (s.updAlloc h (withBytes g k data)).updBroadcast tree obj ver (withBlock (g * 16 + k))

/-- The state with a granule whose sixteen blocks have come registered as a replica. -/
def enterReplica (s : State) (tree : Nat) (r : Replica) : State :=
  ({ s.drawn with tier := { s.tier with replicas := s.tier.replicas ++ [r] } } : State).updBroadcast tree r.object r.version
    (fun b => { b with blocks := b.blocks.filter (fun x => x / 16 != r.granule), received := b.received ++ [r.granule] })

/-- The sixteen blocks of a granule have come. -/
def allBlocks (s : State) (tree obj ver g : Nat) : Bool :=
  (List.range 16).all (fun i => (((s.broadcast? tree obj ver).map (·.blocks)).getD []).contains (g * 16 + i))

/-- A granule of an object may become a replica in the large tier here: it has none there yet, and the directory, the quota and the large
tier have room. -/
structure ReplicaFits (s : State) (part obj ver g : Nat) : Prop where
  none : (s.tier.replicas.filter (fun r => r.object == obj && r.version == ver && r.granule == g)).any (fun r => r.tier == 1) = false
  few : (s.tier.replicas.filter (fun r => r.object == obj && r.version == ver && r.granule == g)).length < 64
  directory : s.dirUsed < 134217728
  quota : s.quotaRoom part = true
  place : s.largePlace ≠ .none

/-- A block that comes for a granule of an object known here is kept, and the sixteenth enters the replica. -/
theorem bcast_kept {s : State} {part obj ver g h : Nat} {a : Alloc} (fits : s.ReplicaFits part obj ver g)
    (known : s.objectHandle obj ver = some h) (ha : s.alloc? h = some a) (hg : g < a.granules) (root tree : Nat) {k : Nat} (hk : k < 16)
    (rehoming : Bool) (data : List Byte) :
    ∃ loc, s.bcast root part tree obj ver g k 1 rehoming data =
      let u := (s.openBroadcast tree obj ver g part 1 rehoming).keepBlock h tree obj ver g k data
      if u.allBlocks tree obj ver g then u.enterReplica tree { object := obj, version := ver, granule := g, part, tier := 1, location := loc }
      else u := by
  obtain ⟨loc, place⟩ := Option.ne_none_iff_exists'.mp fits.place
  refine ⟨loc, ?_⟩
  have here : s.objectLocal obj ver part root g = (s, some h) := by simp [objectLocal, known, ha, hg]
  unfold bcast
  rw [if_neg (by simp; omega)]
  extract_lets all spot
  have busy : (all.any (fun r => r.tier == 1) || decide (64 ≤ all.length) || decide (134217728 ≤ s.dirUsed) || (1 == 1 && !s.quotaRoom part) ||
      (1 == 2 && decide (s.storeUsable ≤ s.storeReserved))) = false := by
    simp [all, fits.none, fits.few, fits.directory, fits.quota]
  have free : spot = some loc := place
  simp only [busy, free, here, Bool.false_eq_true, if_false]
  rfl

theorem sameDieBooks_updBroadcast (s : State) (tree obj ver : Nat) (f : Broadcast → Broadcast) :
    SameDieBooks s (s.updBroadcast tree obj ver f) := ⟨⟨rfl, rfl, rfl, rfl⟩, rfl, rfl⟩

theorem sameDieBooks_openBroadcast (s : State) (tree obj ver first part tier : Nat) (rehoming : Bool) :
    SameDieBooks s (s.openBroadcast tree obj ver first part tier rehoming) := by
  unfold openBroadcast
  split
  · exact .refl s
  · exact ⟨⟨rfl, rfl, rfl, rfl⟩, rfl, rfl⟩

theorem tier_openBroadcast (s : State) (tree obj ver first part tier : Nat) (rehoming : Bool) :
    (s.openBroadcast tree obj ver first part tier rehoming).tier = s.tier := by
  unfold openBroadcast
  split <;> rfl

theorem sameDieBooks_enterReplica (s : State) (tree : Nat) (r : Replica) : SameDieBooks s (s.enterReplica tree r) :=
  ⟨⟨rfl, rfl, rfl, rfl⟩, rfl, rfl⟩

/-- An allocation reads as it was changed. -/
theorem alloc?_updAlloc_same {s : State} {h : Nat} {a : Alloc} (f : Alloc → Alloc) (ha : s.alloc? h = some a) :
    (s.updAlloc h f).alloc? h = some (f a) := by
  unfold updAlloc
  split
  next absent => simp [ha] at absent
  next b found =>
    rw [ha] at found
    cases found
    exact Tab.find?_set_same ..

/-- What keeping a block of a broadcast leaves: the bytes, and every block of the granule where the others had come before. -/
theorem keepBlock_kept {s : State} {h : Nat} {a : Alloc} (ha : s.alloc? h = some a) (tree obj ver g k : Nat) (data : List Byte) :
    SameDieBooks s (s.keepBlock h tree obj ver g k data) ∧ (s.keepBlock h tree obj ver g k data).alloc? h = some (withBytes g k data a) :=
  ⟨(sameDieBooks_updAlloc ..).trans (sameDieBooks_updBroadcast ..), alloc?_updAlloc_same _ ha⟩

theorem withBytes_bytes (g k : Nat) (data : List Byte) (a : Alloc) (h : data.length = 4096) :
    (withBytes g k data a).data.bytes (g * 65536 + k * 4096) 4096 = data := by
  have whole : sliceBytes data 0 4096 = data := h ▸ sliceBytes_whole data
  have read := Mem.bytes_write a.data (g * 65536 + k * 4096) data
  rw [h] at read
  simpa only [withBytes, whole] using read

/-- With its block a granule is whole where its fifteen others had come. -/
theorem allBlocks_keepBlock {s : State} {tree obj ver g k : Nat} {b : Broadcast} (hb : s.broadcast? tree obj ver = some b)
    (others : ∀ i, i < 16 → i ≠ k → b.blocks.contains (g * 16 + i) = true) (h : Nat) (data : List Byte) :
    (s.keepBlock h tree obj ver g k data).allBlocks tree obj ver g = true := by
  have kept : (s.updAlloc h (withBytes g k data)).broadcast? tree obj ver = some b := by
    unfold updAlloc
    split <;> exact hb
  have found : (s.keepBlock h tree obj ver g k data).broadcast? tree obj ver = some (withBlock (g * 16 + k) b) := by
    rw [keepBlock, broadcast?_updBroadcast _ _ _ _ (withBlock (g * 16 + k)) (fun _ => ⟨rfl, rfl, rfl⟩), kept, Option.map_some]
  simp only [allBlocks, found, Option.map_some, Option.getD_some, List.all_eq_true, List.mem_range]
  intro i hi
  by_cases hk : i = k
  · subst hk
    by_cases old : b.blocks.contains (g * 16 + i) = true
    · simp only [withBlock, old, if_true]
    · simp only [withBlock, if_neg old]; simp
  · have before := others i hi hk
    unfold withBlock
    split
    · exact before
    · simp only [List.contains_eq_mem, decide_eq_true_eq, List.mem_append] at before ⊢
      exact .inl before

/-- What handing over leaves of the room for a replica. -/
theorem replicaFits_of_handed {s t : State} (h : Handed s t) {part obj ver g : Nat} (hp : part < 32) (fits : s.ReplicaFits part obj ver g) :
    t.ReplicaFits part obj ver g := by
  have quota : t.fld (Reg.TIER_QUOTA part) 24 0 = s.fld (Reg.TIER_QUOTA part) 24 0 := by
    have quiet : tells (Reg.TIER_QUOTA part) = false := by
      have past : ¬ Reg.TIER_QUOTA part < 0x030300 := by simp only [Reg.TIER_QUOTA]; omega
      have off (o : Nat) (ho : o < 0x201000 ∨ 0x201400 ≤ o) : Reg.TIER_QUOTA part ≠ o := by simp only [Reg.TIER_QUOTA]; omega
      simp [tells, past, off Reg.EVENT_PROD (by decide), off Reg.EVENT_LOST (by decide), off Reg.FW_LOG_PROD (by decide)]
    have inside : carries (Reg.TIER_QUOTA part) = false := by
      have off : Reg.TIER_QUOTA part ≠ Reg.CAUSEWAY_NOROUTE := by simp only [Reg.TIER_QUOTA, Reg.CAUSEWAY_NOROUTE]; omega
      have low : ¬ 0x400020 ≤ Reg.TIER_QUOTA part := by simp only [Reg.TIER_QUOTA]; omega
      simp [carries, off, low]
    simp only [fld, rd, h.regs _ quiet inside]
  have used : t.tierUsed part = s.tierUsed part := by rw [h.eq]; rfl
  have dir : t.dirUsed = s.dirUsed := by rw [h.eq]; rfl
  have place : t.largePlace = s.largePlace := by rw [h.eq]; rfl
  refine ⟨?_, ?_, ?_, ?_, ?_⟩
  · rw [h.tier]; exact fits.none
  · rw [h.tier]; exact fits.few
  · rw [dir]; exact fits.directory
  · rw [quotaRoom, used, quota]; exact fits.quota
  · rw [place]; exact fits.place

theorem exec_bcast (port : Fin 16) (tree : Fin 256) (seqNo : W32) (part : Fin 32) (object version : W32) (g : Nat) (block : Fin 16)
    (tier : Fin 4) (rehoming : Bool) (data : List Byte) (s : State) :
    exec (.bcast port tree seqNo part object version g block tier rehoming data) s = s.runDie (fun s => s.treeTxn port.val tree.val seqNo.toNat
      { node := 4096 + tree.val, part := some part.val, flow := tree.val, op := 0x10
        args := [tree.val, object.toNat, version.toNat, g, block.val, tier.val, b2n rehoming], data := data }) := rfl

/-- A BCAST delivered is the block its operands name. -/
theorem deliverTxn_bcast (s : State) (node part flow tree obj ver g k tier : Nat) (rehoming : Bool) (data : List Byte) (via : Option Nat) :
    s.deliverTxn { node, part := some part, flow, op := 0x10, args := [tree, obj, ver, g, k, tier, b2n rehoming], data } via =
      s.bcast (bits (s.ent 6 (4096 + tree) 4 2) 11 0) part tree obj ver g k tier rehoming data := by
  cases rehoming <;> rfl

/-- The in-port's block of a granule of an object known here is kept, and the sixteenth makes the granule a replica (R338, R371). -/
theorem exec_bcast_replica {s : State} (hs : s.ready) {port : Fin 16} {tree : Fin 256} (seqNo : W32) {part : Fin 32} {object version : W32}
    (rehoming : Bool) {g : Nat} (block : Fin 16) {data : List Byte} {h : Nat} {a : Alloc} (inPort : s.treeIn tree.val = some port.val)
    (receives : bit (s.ent 6 (4096 + tree.val) 0 1) 1 = true) (hl : data.length = 4096)
    (fits : s.ReplicaFits part.val object.toNat version.toNat g) (known : s.objectHandle object.toNat version.toNat = some h)
    (ha : s.alloc? h = some a) (hg : g < a.granules) :
    ∃ t a', exec (.bcast port tree seqNo part object version g block 1 rehoming data) s = .next t ∧ t.alloc? h = some a' ∧
      a'.data.bytes (g * 65536 + block.val * 4096) 4096 = data ∧
      ((∃ b, s.broadcast? tree.val object.toNat version.toNat = some b ∧
          ∀ i, i < 16 → i ≠ block.val → b.blocks.contains (g * 16 + i) = true) →
        ∃ r, r ∈ t.tier.replicas ∧ r.object = object.toNat ∧ r.version = version.toNat ∧ r.granule = g ∧ r.part = part.val ∧ r.tier = 1 ∧
          r.making = false) := by
  obtain ⟨u, arrived, arrives⟩ := treeTxn_here seqNo.toNat
    { node := 4096 + tree.val, part := some part.val, flow := tree.val, op := 0x10
      args := [tree.val, object.toNat, version.toNat, g, block.val, 1, b2n rehoming], data := data } inPort receives
  rw [deliverTxn_bcast] at arrives
  have knownHere : u.objectHandle object.toNat version.toNat = some h := by simpa only [objectHandle, arrived.tier] using known
  have haHere : u.alloc? h = some a := by simpa only [alloc?, arrived.tier] using ha
  obtain ⟨loc, kept⟩ := bcast_kept (replicaFits_of_handed arrived part.isLt fits) knownHere haHere hg
    (bits (u.ent 6 (4096 + tree.val) 4 2) 11 0) tree.val block.isLt rehoming data
  let v := u.openBroadcast tree.val object.toNat version.toNat g part.val 1 rehoming
  have opened : SameDieBooks u v := sameDieBooks_openBroadcast ..
  have haOpen : v.alloc? h = some a := by simpa only [v, alloc?, tier_openBroadcast] using haHere
  obtain ⟨blockBooks, blockAlloc⟩ := keepBlock_kept haOpen tree.val object.toNat version.toNat g block.val data
  have books := (sameDieBooks_of_talked arrived.toTalked).trans (opened.trans blockBooks)
  have bytes := withBytes_bytes g block.val data a hl
  let r : Replica := { object := object.toNat, version := version.toNat, granule := g, part := part.val, tier := 1, location := loc }
  let w := v.keepBlock h tree.val object.toNat version.toNat g block.val data
  have effect := arrives.trans kept
  rw [exec_bcast]
  by_cases whole : w.allBlocks tree.val object.toNat version.toNat g = true
  · refine ⟨w.enterReplica tree.val r, withBytes g block.val data a,
      runDie_of_sameDieBooks hs (effect.trans (if_pos whole)) (books.trans (sameDieBooks_enterReplica ..)), blockAlloc, bytes, fun _ => ?_⟩
    exact ⟨r, List.mem_append_right _ (List.mem_singleton.mpr rfl), rfl, rfl, rfl, rfl, rfl, rfl⟩
  · refine ⟨w, withBytes g block.val data a, runDie_of_sameDieBooks hs (effect.trans (if_neg whole)) books, blockAlloc, bytes, ?_⟩
    rintro ⟨b, hb, others⟩
    have already : v = u := if_pos (by rw [broadcast?_of_handed arrived, hb]; rfl)
    exact absurd (allBlocks_keepBlock (by rw [already, broadcast?_of_handed arrived, hb]) others h data) whole

/-! BCAST_END at a receiver (R339). -/

theorem exec_bcastEnd (port : Fin 16) (tree : Fin 256) (seqNo : W32) (part : Fin 32) (object version : W32) (count first : Nat)
    (tier : Fin 4) (rehoming : Bool) (s : State) :
    exec (.bcastEnd port tree seqNo part object version count first tier rehoming) s = s.runDie (fun s =>
      s.treeTxn port.val tree.val seqNo.toNat { node := 4096 + tree.val, part := some part.val, flow := tree.val, op := 0x11
                                                args := [tree.val, object.toNat, version.toNat, count, first, tier.val, b2n rehoming]
                                                data := [] }) := rfl

/-- A BCAST_END delivered is the end of the broadcast its operands name. -/
theorem deliverTxn_bcastEnd (s : State) (node part flow tree obj ver count first tier : Nat) (rehoming : Bool) (via : Option Nat) :
    s.deliverTxn { node, part := some part, flow, op := 0x11, args := [tree, obj, ver, count, first, tier, b2n rehoming], data := [] } via =
      (s.bcastEnd (bits (s.ent 6 (4096 + tree) 4 2) 11 0) tree obj ver count first rehoming (bit s.draw.toNat 0) (bit s.draw.toNat 1)).drawn := by
  cases rehoming <;> rfl

/-- Replicas released: of the books and the transport nothing changes. -/
theorem releaseReplicas_kept (l : List Replica) (s : State) : SameDieBooks s (l.foldl (fun s r => s.releaseReplica r) s) ∧
    (l.foldl (fun s r => s.releaseReplica r) s).cause = s.cause :=
  List.foldlRecOn l _ (motive := fun t => SameDieBooks s t ∧ t.cause = s.cause) ⟨.refl s, rfl⟩
    (fun _ ht _ _ => ⟨ht.1.trans ⟨⟨rfl, rfl, rfl, rfl⟩, rfl, rfl⟩, ht.2⟩)

/-- The end of a broadcast whose granules have all come takes it off the list. -/
theorem bcastEnd_complete {s : State} {tree obj ver count first : Nat} {b : Broadcast} (hb : s.broadcast? tree obj ver = some b)
    (come : ∀ i, i < count → b.received.contains (i + first) = true) (root : Nat) (digestBad first_ : Bool) :
    SameDieBooks s (s.bcastEnd root tree obj ver count first false digestBad first_) ∧
    (s.bcastEnd root tree obj ver count first false digestBad first_).cause.broadcasts = s.cause.broadcasts.erase b := by
  have none : ((List.range count).map (· + first)).filter (fun g => !b.received.contains g) = [] := by
    simp only [List.filter_eq_nil_iff, List.mem_map, List.mem_range]
    rintro _ ⟨i, hi, rfl⟩
    simp only [come i hi, Bool.not_true, Bool.false_eq_true, not_false_eq_true]
  simp only [bcastEnd, hb, none, ne_eq, not_true_eq_false, if_false, Bool.false_and, Bool.false_eq_true]
  let ended : State := { s with cause := { s.cause with broadcasts := s.cause.broadcasts.erase b } }
  have books : SameDieBooks s ended := ⟨⟨rfl, rfl, rfl, rfl⟩, rfl, rfl⟩
  split
  · exact ⟨books, rfl⟩
  · split
    · obtain ⟨released, same⟩ := releaseReplicas_kept (ended.tier.replicas.filter (fun r =>
        r.object == obj && r.version == ver && b.received.contains r.granule && r.tier == b.tier)) ended
      have told := told_none (List.foldl (fun s r => s.releaseReplica r) ended (ended.tier.replicas.filter (fun r =>
        r.object == obj && r.version == ver && b.received.contains r.granule && r.tier == b.tier))) 0x0022 2 2 [obj, ver]
      exact ⟨books.trans (released.trans (sameDieBooks_of_talked told.talked)), by rw [told.cause, same]⟩
    · exact ⟨books, rfl⟩

theorem exec_bcastEnd_complete {s : State} (hs : s.ready) {port : Fin 16} {tree : Fin 256} (seqNo : W32) (part : Fin 32)
    {object version : W32} {count first : Nat} (tier : Fin 4) {b : Broadcast} (inPort : s.treeIn tree.val = some port.val)
    (receives : bit (s.ent 6 (4096 + tree.val) 0 1) 1 = true) (hb : s.broadcast? tree.val object.toNat version.toNat = some b)
    (come : ∀ i, i < count → b.received.contains (i + first) = true) :
    ∃ t, exec (.bcastEnd port tree seqNo part object version count first tier false) s = .next t ∧
      t.cause.broadcasts = s.cause.broadcasts.erase b := by
  obtain ⟨u, arrived, arrives⟩ := treeTxn_here seqNo.toNat
    { node := 4096 + tree.val, part := some part.val, flow := tree.val, op := 0x11
      args := [tree.val, object.toNat, version.toNat, count, first, tier.val, b2n false], data := [] } inPort receives
  rw [deliverTxn_bcastEnd] at arrives
  obtain ⟨books, ended⟩ := bcastEnd_complete ((broadcast?_of_handed arrived ..).trans hb) come (bits (u.ent 6 (4096 + tree.val) 4 2) 11 0)
    (bit u.draw.toNat 0) (bit u.draw.toNat 1)
  rw [exec_bcastEnd]
  refine ⟨_, runDie_of_sameDieBooks hs arrives
    ((sameDieBooks_of_talked arrived.toTalked).trans (books.trans (sameDieBooks_drawn ..))), ?_⟩
  rw [drawn_cause, ended, arrived.broadcasts]

/-! A granule sent by the reader: on the tree, or to one node alone (R338, R371). -/

/-- The message that carries a block of a granule of a broadcast to a node. -/
def blockTxn (s : State) (b : Broadcast) (h g node k : Nat) : Txn :=
  { node := node, part := some b.part, flow := b.tree, op := 0x10
    args := [b.tree, b.object, b.version, g, k, b.tier, b2n b.rehoming], data := s.peek h (g * 65536 + k * 4096) 4096 }

theorem sendGranule_alone (s : State) (b : Broadcast) (h g node : Nat) :
    s.sendGranule b h g (some node) = (List.range 16).foldl (fun u k => u.send (u.blockTxn b h g node k)) s := rfl

theorem sendGranule_tree (s : State) (b : Broadcast) (h g : Nat) : s.sendGranule b h g none = (List.range 16).foldl (fun u k =>
    (u.sendTree b.tree (u.treeSeqOf b.tree) ((u.treeOut b.tree).filter u.portReady) (u.blockTxn b h g (4096 + b.tree) k)).treeStep b.tree) s := rfl

theorem blockTxn_of_handed {s t : State} (e : Handed s t) (b : Broadcast) (h g node k : Nat) :
    t.blockTxn b h g node k = s.blockTxn b h g node k := by
  simp only [blockTxn, peek, alloc?, e.tier]

theorem handed_sendGranule_tree (s : State) (b : Broadcast) (h g : Nat) : Handed s (s.sendGranule b h g none) :=
  handed_foldl _ _ (fun u _ _ => (handed_sendTree_out u _ _ _).trans (handed_treeStep _ _)) s

/-- Blocks of a granule sent one after another to a node that is not lost, for a partition with VCs: each is sent or waits. -/
theorem handed_blocks (b : Broadcast) (h g node : Nat) (l : List Nat) : ∀ s : State, s.nodeLost node = false → s.partVcs b.part ≠ [] →
    Handed s (l.foldl (fun u k => u.send (u.blockTxn b h g node k)) s) ∧
    ∀ k ∈ l, s.blockTxn b h g node k ∈ (l.foldl (fun u k => u.send (u.blockTxn b h g node k)) s).cause.sent ∨
      s.blockTxn b h g node k ∈ (l.foldl (fun u k => u.send (u.blockTxn b h g node k)) s).cause.parked := by
  induction l with
  | nil => exact fun s _ _ => ⟨.refl s, fun _ hk => by cases hk⟩
  | cons k l ih =>
    intro s here vcs
    obtain ⟨first, given⟩ := handed_send s (s.blockTxn b h g node k)
    have flow : (s.flowOf (s.blockTxn b h g node k)).isSome = true := by
      simp only [flowOf, blockTxn]
      split
      next absent => exact absurd absent vcs
      · rfl
    have hereAfter : (s.send (s.blockTxn b h g node k)).nodeLost node = false := by simpa only [nodeLost, first.lost] using here
    have vcsAfter : (s.send (s.blockTxn b h g node k)).partVcs b.part ≠ [] := by simpa only [partVcs, ent, entry, first.tables] using vcs
    obtain ⟨rest, others⟩ := ih _ hereAfter vcsAfter
    refine ⟨first.trans rest, fun j hj => ?_⟩
    rcases List.mem_cons.mp hj with rfl | hj
    · exact (given here flow).imp (rest.sent _) (rest.parked _)
    · have sent := others j hj
      rwa [blockTxn_of_handed first] at sent

theorem exec_bcastResume (node : Fin 4096) (tree : Fin 256) (object version : W32) (g : Nat) (s : State) :
    exec (.bcastResume node tree object version g) s =
      s.runDie (fun s => s.bcastResume node.val tree.val object.toNat version.toNat g) := rfl

/-- The reader sends a granule it can read again to a node that asks (R371). -/
theorem exec_bcastResume_sent {s : State} (hs : s.ready) (node : Fin 4096) (tree : Fin 256) (object version : W32) (g : Nat) {h : Nat}
    {b : Broadcast} (hb : s.broadcast? tree.val object.toNat version.toNat = some b)
    (known : s.objectHandle object.toNat version.toNat = some h) :
    (b.reader = false ∨ s.granuleReadable h g = false → exec (.bcastResume node tree object version g) s = .next s) ∧
    (b.reader = true → s.granuleReadable h g = true → s.nodeLost node.val = false → s.partVcs b.part ≠ [] →
      ∃ t, exec (.bcastResume node tree object version g) s = .next t ∧ ∀ k, k < 16 →
        ∃ m, (m ∈ t.cause.sent ∨ m ∈ t.cause.parked) ∧ m.node = node.val ∧ m.op = 0x10 ∧ m.part = some b.part ∧
          m.data = s.peek h (g * 65536 + k * 4096) 4096) := by
  rw [exec_bcastResume]
  refine ⟨fun idle => ?_, fun reads readable here vcs => ?_⟩
  · have none : (b.reader && s.granuleReadable h g) = false := by rcases idle with idle | idle <;> simp [idle]
    exact runDie_of_sameDieBooks hs (by simp [bcastResume, hb, known, none]) (.refl s)
  · obtain ⟨handed, blocks⟩ := handed_blocks b h g node.val (List.range 16) s here vcs
    have effect : s.bcastResume node.val tree.val object.toNat version.toNat g =
        (List.range 16).foldl (fun u k => u.send (u.blockTxn b h g node.val k)) s := by
      simp only [bcastResume, hb, known, reads, readable, Bool.and_self, if_true, sendGranule_alone]
    exact ⟨_, runDie_of_sameDieBooks hs effect (sameDieBooks_of_talked handed.toTalked),
      fun k hk => ⟨s.blockTxn b h g node.val k, blocks k (List.mem_range.mpr hk), rfl, rfl, rfl, rfl⟩⟩

/-! WEIGHT_BROADCAST_START at the reader (R338). -/

theorem exec_weightBroadcastStart (tree : Fin 256) (object version : W32) (first count : Nat) (part : Fin 32) (tier : Fin 4)
    (rehoming : Bool) (s : State) : exec (.weightBroadcastStart tree object version first count part tier rehoming) s =
      s.runDie (fun s => s.broadcastStart tree.val object.toNat version.toNat first count part.val tier.val rehoming) := rfl

/-- The root of a valid tree whose serving processor runs registers a broadcast of granules of an object it knows, and sends them. -/
theorem exec_weightBroadcastStart_registers {s : State} (hs : s.ready) {tree : Fin 256} {object version : W32} (first : Nat) {count : Nat}
    (part : Fin 32) {tier : Fin 4} (rehoming : Bool) {h : Nat} (known : s.objectHandle object.toNat version.toNat = some h)
    (runs : s.fld (Reg.FW_STATUS 2) 3 0 = 1) (valid : bit (s.ent 6 (4096 + tree.val) 0 1) 0 = true)
    (root : bits (s.ent 6 (4096 + tree.val) 4 2) 11 0 = s.node) (data : tree.val ≠ 0) (nonempty : count ≠ 0) (place : tier.val = 1 ∨ tier.val = 2)
    (fresh : s.broadcast? tree.val object.toNat version.toNat = none) :
    ∃ t b, exec (.weightBroadcastStart tree object version first count part tier rehoming) s = .next t ∧
      t.cause.broadcasts = s.cause.broadcasts ++ [b] ∧ b.reader = true ∧ b.tree = tree.val ∧ b.object = object.toNat ∧
      b.version = version.toNat ∧ b.first = first ∧ b.count = count ∧ b.rehoming = rehoming := by
  let b : Broadcast := { tree := tree.val, object := object.toNat, version := version.toNat, first := first, count := count
                         part := part.val, tier := tier.val, rehoming := rehoming, reader := true, sent := first + count }
  let opened : State := { s with cause := { s.cause with broadcasts := s.cause.broadcasts ++ [b] } }
  let read := ((List.range count).map (· + first)).foldl (fun s g => if s.granuleReadable h g then s.sendGranule b h g none else s) opened
  have granules : Handed opened read := handed_foldl _ _ (fun u g _ => by
    split
    · exact handed_sendGranule_tree u b h g
    · exact .refl u) opened
  have allowed : ¬ (s.fld (Reg.FW_STATUS 2) 3 0 ≠ 1 ∨ (!bit (s.ent 6 (4096 + tree.val) 0 1) 0) = true ∨
      bits (s.ent 6 (4096 + tree.val) 4 2) 11 0 ≠ s.node ∨ tree.val = 0 ∨ count = 0 ∨ (tier.val ≠ 1 ∧ tier.val ≠ 2) ∨
      (s.broadcast? tree.val object.toNat version.toNat).isSome = true) := by
    simp [runs, valid, root, data, nonempty, fresh]
    omega
  have effect : s.broadcastStart tree.val object.toNat version.toNat first count part.val tier.val rehoming =
      (read.sendTree tree.val (read.treeSeqOf tree.val) ((read.treeOut tree.val).filter read.portReady)
        { node := 4096 + tree.val, part := some part.val, flow := tree.val, op := 0x11
          args := [tree.val, object.toNat, version.toNat, count, first, tier.val, b2n rehoming] }).treeStep tree.val := by
    simp only [broadcastStart, known]
    exact if_neg allowed
  have handed := granules.trans ((handed_sendTree_out read tree.val (read.treeSeqOf tree.val)
    { node := 4096 + tree.val, part := some part.val, flow := tree.val, op := 0x11
      args := [tree.val, object.toNat, version.toNat, count, first, tier.val, b2n rehoming] }).trans (handed_treeStep _ tree.val))
  have books : SameDieBooks s opened := ⟨⟨rfl, rfl, rfl, rfl⟩, rfl, rfl⟩
  rw [exec_weightBroadcastStart]
  exact ⟨_, b, runDie_of_sameDieBooks hs effect (books.trans (sameDieBooks_of_talked handed.toTalked)), handed.broadcasts,
    rfl, rfl, rfl, rfl, rfl, rfl, rfl⟩

/-! REPLICA_MADE (R222). -/

theorem exec_replicaMade (object version : W32) (g : Nat) (failed : Bool) (s : State) :
    exec (.replicaMade object version g failed) s = s.runDie (fun s => s.replicaMade object.toNat version.toNat g failed) := rfl

/-- A READ for a replica of a granule of an object is not answered yet. -/
def fetches (s : State) (obj ver g : Nat) (f : FetchWait) : Bool :=
  f.granule == g && ((s.alloc? f.handle).bind (·.published)) == some (obj, ver)

/-- A replica being made becomes readable once nothing of it is awaited, and is dropped and counted where an error was met. -/
theorem exec_replicaMade_made {s : State} (hs : s.ready) {object version : W32} {g : Nat} {r : Replica}
    (making : s.tier.replicas.find? (fun r => r.object == object.toNat && r.version == version.toNat && r.granule == g && r.making) = some r) :
    (s.tier.fetches.any (s.fetches object.toNat version.toNat g) = true → exec (.replicaMade object version g false) s = .next s) ∧
    (s.tier.fetches.any (s.fetches object.toNat version.toNat g) = false → exec (.replicaMade object version g false) s =
      .next { s with tier := { s.tier with replicas := s.tier.replicas.erase r ++ [{ r with making := false }] } }) ∧
    exec (.replicaMade object version g true) s =
      .next (({ s with tier := { s.tier with
        replicas := s.tier.replicas.erase r
        fetches := s.tier.fetches.filter (fun f => !s.fetches object.toNat version.toNat g f) } } : State).bump
          (Reg.TIER_STREAM_PREFDROP r.part)) := by
  rw [exec_replicaMade, exec_replicaMade]
  refine ⟨fun waits => ?_, fun come => ?_, ?_⟩
  · refine runDie_of_sameDieBooks hs ?_ (.refl s)
    simp only [replicaMade, making, Bool.false_eq_true, if_false]
    exact if_pos waits
  · refine runDie_of_sameDieBooks hs ?_ ⟨⟨rfl, rfl, rfl, rfl⟩, rfl, rfl⟩
    simp only [replicaMade, making, Bool.false_eq_true, if_false]
    exact if_neg (by rw [Bool.not_eq_true]; exact come)
  · refine runDie_of_sameDieBooks hs ?_ ⟨⟨rfl, rfl, rfl, rfl⟩, rfl, rfl⟩
    simp only [replicaMade, making, if_true]
    rfl

/-- Settles O42: each clause is the rule for its command; what the transport does with a message touches neither the tier nor the list of
broadcasts. -/
theorem broadcastsMakeReplicas : Obligations.BroadcastsMakeReplicas := by
  unfold Obligations.BroadcastsMakeReplicas
  intro s hs
  refine ⟨fun port tree seqNo part object version rehoming => ⟨?elsewhere, ?block, ?ended, ?start⟩, ?resume, ?made⟩
  case elsewhere =>
    intro g block tier data other
    rw [exec_bcast]
    exact runDie_of_sameDieBooks hs (treeTxn_elsewhere _ _ other) ⟨⟨rfl, rfl, rfl, rfl⟩, rfl, rfl⟩
  case block =>
    intro g block data h a inPort receives hl replicas directory quota place known ha hg
    exact exec_bcast_replica hs seqNo rehoming block inPort receives hl ⟨replicas.1, replicas.2, directory, quota, place⟩ known ha hg
  case ended =>
    intro count first tier b inPort receives hb come
    exact exec_bcastEnd_complete hs seqNo part tier inPort receives hb come
  case start =>
    intro count first h tier known runs valid root data nonempty place fresh
    exact exec_weightBroadcastStart_registers hs first part rehoming known runs valid root data nonempty place fresh
  case resume =>
    intro node tree object version g h b hb known
    exact exec_bcastResume_sent hs node tree object version g hb known
  case made =>
    intro object version g r making
    exact exec_replicaMade_made hs making

end State

end Sys2Proof.Machine
end

section
/-!
A refutation of the statement on moves (R213, R260). What a granule's copy leaves of its directory entry decides, through the rule of
R260, whether its seam may commit; in a directory that is not in canonical form the entry's writing drops the entries behind it.
-/
namespace Sys2Proof.Machine

namespace State

theorem exec_moveCommit (k : Fin 256) (failed : Option MoveFailure) (s : State) :
    exec (.moveCommit k failed) s = s.runDie (fun s => s.moveCommit k.val failed) := rfl

/-- The state once the dirty blocks of the granule that a move names have been copied again. -/
def copiedAgain (s : State) (w : Act) : State := s.updAlloc w.handle (fun a => a.setEntry w.granule { a.entry w.granule with dirty := [] })

theorem seam?_copiedAgain (s : State) (w : Act) (k : Nat) : (s.copiedAgain w).seam? k = s.seam? k := by
  unfold copiedAgain updAlloc
  split <;> rfl

/-- MOVE_COMMIT of a seam of one move within the module: the blocks are copied again, and then it waits where it may not commit. -/
theorem moveCommit_waits {s : State} {k : Nat} {x : Seam} {a : Action} (hx : s.seam? k = some x) (ready : x.state = 3)
    (own : x.submitter ≠ 8) (acts : x.actions = [a]) (kind : (Act.of a).kind = 1) (tier : (Act.of a).tier ≠ 3)
    (acked : s.tier.moveAcks.any (fun m => m.seam == k) = false) (held : (s.copiedAgain (Act.of a)).mayCommit x = false) :
    s.moveCommit k none = s.copiedAgain (Act.of a) := by
  have after : (s.copiedAgain (Act.of a)).tryCommit k = s.copiedAgain (Act.of a) := by
    simp [tryCommit, seam?_copiedAgain, hx, own, held]
  simpa [copiedAgain, moveCommit, hx, ready, own, acts, kind, tier, acked] using after

/-! The counterexample. -/

/-- A directory whose keys do not rise: granule 5 has dirty blocks, and behind it stands granule 3, homed in the large tier. -/
def unsortedDir : Tab DirEntry := [(5, { dirty := [0] }), (3, { state := 1, tier := 1 })]

/-- A published object that may lie in the large tier and the store, with that directory. -/
def unsortedAlloc : Alloc := { part := 31, flags := 0x0C, granules := 16, published := some (5, 1), dir := unsortedDir }

/-- The move of its granule 5 to sector 256 of the large tier. -/
def unsortedMove : Action := (BitVec.ofNat 64 (2 ^ 60 + 2 ^ 36 + 5 * 2 ^ 12 + 2 ^ 10), 256)

/-- A write of the tenant table, which a power loss must save (R260). -/
def keptWrite : Action := (BitVec.ofNat 64 (2 * 2 ^ 60 + 2 * 2 ^ 48), 0)

/-- The seam of that move, ready. -/
def unsortedSeam : Seam := { state := 3, actions := [unsortedMove] }

/-- It stands in record 0, and 32 seams that a power loss must save stand in state 4. -/
def crowdedMove : State :=
  { reset with
    power := { reset.power with vmainGood := true }
    tier := { allocs := [(1, unsortedAlloc)] }
    seams := { recs := (0, unsortedSeam) :: (List.range 32).map (fun k => (k + 1, { state := 4, actions := [keptWrite] })) } }

/-- Refutes O34: granule 5's blocks copied again, its entry is the default and is taken out of the list, and with it goes the entry of
granule 3 behind it. Now no granule listed lies outside the store, so the object is one that a power loss must save (R260), and the seam
waits behind the 32 others although it named nothing kept before. The statement lacks the premise that the directory is in canonical form. -/
theorem not_movesScrubsAndLending : ¬ Obligations.MovesScrubsAndLending := by
  unfold Obligations.MovesScrubsAndLending
  intro h
  have hs : crowdedMove.ready := ⟨rfl, rfl⟩
  have hx : crowdedMove.seam? 0 = some unsortedSeam := rfl
  have plain : unsortedSeam.plain := ⟨by decide, rfl, rfl, nofun, nofun⟩
  have kind : (Act.of unsortedMove).kind = 1 := by decide
  have handle : crowdedMove.alloc? (Act.of unsortedMove).handle = some unsortedAlloc := by decide +kernel
  have tier : (Act.of unsortedMove).tier ≠ 3 := by decide
  have notKept : crowdedMove.keptSeam unsortedSeam = false := by decide +kernel
  have held : (crowdedMove.copiedAgain (Act.of unsortedMove)).mayCommit unsortedSeam = false := by decide +kernel
  have stays : exec (.moveCommit 0 none) crowdedMove = .next (crowdedMove.copiedAgain (Act.of unsortedMove)) := by
    rw [exec_moveCommit]
    exact runDie_of_sameDieBooks hs (moveCommit_waits hx rfl (by decide) rfl kind tier rfl held) (sameDieBooks_updAlloc ..)
  obtain ⟨moves, -⟩ := h crowdedMove hs
  obtain ⟨commits, -⟩ := moves 0 unsortedSeam unsortedMove unsortedAlloc hx rfl rfl plain kind handle (by decide) rfl nofun
  obtain ⟨t, -, committed, gone, -⟩ := commits rfl rfl rfl notKept tier nofun
  rw [stays] at committed
  cases committed
  rw [show (0 : Fin 256).val = 0 from rfl, seam?_copiedAgain, hx] at gone
  cases gone

end State

end Sys2Proof.Machine
end

section
/-!
The tree and the block-hash table (R292, R305): what inserting a block, flushing and asking for a resize leave; and the writes of
SERVING_PREFIX_CTRL, SERVING_RES_CLEAR and SERVING_PLAN_CTRL (R305, R348, R182).
-/
namespace Sys2Proof.Machine

namespace State

/-! Records freed and records kept. -/

theorem requestFree_tier (s : State) (h : Nat) (host : Option (Nat × Nat)) :
    ∃ tier, s.requestFree h host = { s with tier := tier } := by
  unfold requestFree updAlloc
  split <;> exact ⟨_, rfl⟩

/-- Freeing objects that no record names changes the tier block alone. -/
theorem freeOrphans_tier (s : State) : ∃ tier, s.freeOrphans = { s with tier := tier } :=
  List.foldlRecOn _ _ (motive := fun u : State => ∃ tier, u = { s with tier := tier }) ⟨_, rfl⟩
    (fun _ ⟨_, hu⟩ x _ => hu ▸ requestFree_tier _ x.1 none)

/-- A record is referenced. -/
def referenced (x : Nat × PrefixNode) : Bool := decide (0 < x.2.refs)

/-- The tree's records with references, their children counted again. -/
def keptTree (s : State) : Tab PrefixNode := s.emptyTree.serving.tree

theorem keptTree_keys (s : State) : s.keptTree.map (·.1) = (s.serving.tree.filter referenced).map (·.1) := by
  simp only [keptTree, emptyTree, List.map_map]
  rfl

/-- Every record kept has references. -/
theorem keptTree_filter (s : State) : s.keptTree.filter referenced = s.keptTree := by
  simp only [keptTree, emptyTree, List.filter_eq_self, List.mem_map, List.mem_filter]
  rintro _ ⟨x, ⟨-, refs⟩, rfl⟩
  exact refs

theorem prefixFlush_eq (s : State) : ∃ tier, s.prefixFlush = { s with
    tier := tier
    serving := { s.serving with tree := s.keptTree, hashTable := s.serving.hashTable.filter referenced } } :=
  freeOrphans_tier _

theorem prefixResizeAsked_eq (s : State) : ∃ tier, s.prefixResizeAsked = { s with
    tier := tier
    serving := { s.serving with tree := s.keptTree, resize := true } } := by
  obtain ⟨tier, freed⟩ := freeOrphans_tier s.emptyTree
  exact ⟨tier, by rw [prefixResizeAsked, freed]; rfl⟩

/-- The flush where it is asked for, then the resize where it is. -/
def pruned (s : State) (flush resize : Bool) : State :=
  let u := if flush then s.prefixFlush else s
  if resize then u.prefixResizeAsked else u

/-- Pruning keeps the records with references: of both indexes by a flush, of the tree by a resize too. -/
theorem pruned_eq (s : State) (flush resize : Bool) : ∃ tier tree, s.pruned flush resize = { s with
      tier := tier
      serving := { s.serving with
        tree := tree
        hashTable := if flush then s.serving.hashTable.filter referenced else s.serving.hashTable
        resize := resize || s.serving.resize } } ∧
    tree.map (·.1) = (if flush || resize then s.serving.tree.filter referenced else s.serving.tree).map (·.1) := by
  obtain ⟨tier, flushed⟩ := prefixFlush_eq s
  cases flush <;> cases resize
  case false.false => exact ⟨s.tier, s.serving.tree, rfl, rfl⟩
  case true.false => exact ⟨tier, s.keptTree, flushed, keptTree_keys s⟩
  case false.true =>
    obtain ⟨tier', resized⟩ := prefixResizeAsked_eq s
    exact ⟨tier', s.keptTree, resized, keptTree_keys s⟩
  case true.true =>
    obtain ⟨tier', resized⟩ := prefixResizeAsked_eq s.prefixFlush
    refine ⟨tier', s.prefixFlush.keptTree, resized.trans (by rw [flushed]; rfl), ?_⟩
    calc s.prefixFlush.keptTree.map (·.1)
      _ = (s.prefixFlush.serving.tree.filter referenced).map (·.1) := keptTree_keys _
      _ = (s.keptTree.filter referenced).map (·.1) := by rw [flushed]
      _ = (s.serving.tree.filter referenced).map (·.1) := by rw [keptTree_filter, keptTree_keys]

/-! SERVING_PREFIX_CTRL. -/

/-- A tree_log2 that R305 allows. -/
def treeLog2Legal (n : Nat) : Bool := decide (16 ≤ n) && decide (n ≤ 24)

theorem fieldBad_treeLog2 (n : Nat) : fieldBad rowServingPrefixCtrl.name 0 n = !treeLog2Legal n := by
  simp only [fieldBad, rowServingPrefixCtrl, treeLog2Legal, decide_true, Bool.true_and, Bool.not_and, ← decide_not, Nat.not_le]

/-- The state after the fields of SERVING_PREFIX_CTRL have been written. -/
def prefixCtrlWritten (s : State) (v : Nat) : State :=
  s.wr Reg.SERVING_PREFIX_CTRL (mergeWrite rowServingPrefixCtrl (s.rd Reg.SERVING_PREFIX_CTRL) v)

theorem mergeWrite_servingPrefixCtrl (old v : Nat) : mergeWrite rowServingPrefixCtrl old v =
    if fieldBad rowServingPrefixCtrl.name 0 (bits v 4 0) then old else withBits old 4 0 (bits v 4 0) := rfl

theorem fld_prefixCtrlWritten (s : State) (v : Nat) : (s.prefixCtrlWritten v).fld Reg.SERVING_PREFIX_CTRL 4 0 =
    if treeLog2Legal (bits v 4 0) then bits v 4 0 else s.fld Reg.SERVING_PREFIX_CTRL 4 0 := by
  rw [prefixCtrlWritten, fld_wr_same, mergeWrite_servingPrefixCtrl, fieldBad_treeLog2]
  cases treeLog2Legal (bits v 4 0)
  case false => exact congrArg (bits · 4 0) (Nat.mod_eq_of_lt (s.rd_lt _))
  case true =>
    have fits := withBits_lt (s.rd Reg.SERVING_PREFIX_CTRL) 4 0 (bits v 4 0) (s.rd_lt _) (by decide) (by decide)
    exact (congrArg (bits · 4 0) (Nat.mod_eq_of_lt fits)).trans ((bits_withBits_same ..).trans (Nat.mod_eq_of_lt (bits_lt ..)))

/-- A write of SERVING_PREFIX_CTRL writes its fields; then both indexes are pruned as it asks. -/
theorem barWrite_servingPrefixCtrl (s : State) (v : W32) (ho : s.barOpen 0 = true) : s.barWrite 0 Reg.SERVING_PREFIX_CTRL 4 v.toNat =
    (s.prefixCtrlWritten v.toNat).pruned (bit v.toNat 8) (treeLog2Legal (bits v.toNat 4 0)) := by
  rw [barWrite_reach s _ _ ho (by decide) (by decide) (by decide) (by rw [find_serving_prefix_ctrl]; rfl) (by decide) v.isLt]
  unfold reachReg
  rw [find_serving_prefix_ctrl]
  change s.writePrefixCtrl rowServingPrefixCtrl v.toNat = _
  simp only [writePrefixCtrl, fieldBad_treeLog2]
  cases treeLog2Legal (bits v.toNat 4 0) <;> rfl

theorem exec_prefixFlush (fn : Fin 33) (v : W32) (s : State) :
    exec (.prefixFlush fn v) s = s.runPlain (fun s => s.barWrite fn.val Reg.SERVING_PREFIX_CTRL 4 v.toNat) := rfl

theorem exec_prefixTreeLog2Write (fn : Fin 33) (v : W32) (s : State) :
    exec (.prefixTreeLog2Write fn v) s = s.runPlain (fun s => s.barWrite fn.val Reg.SERVING_PREFIX_CTRL 4 v.toNat) := rfl

/-- What a write of SERVING_PREFIX_CTRL leaves: tree_log2 where it is legal, the records that the flush and the resize keep, and the
resize asked for; requests stay. -/
theorem runPlain_servingPrefixCtrl {s : State} (hs : s.due = []) (v : W32) (ho : s.barOpen 0 = true) :
    let legal := treeLog2Legal (bits v.toNat 4 0)
    let flush := bit v.toNat 8
    ∃ t, s.runPlain (fun s => s.barWrite 0 Reg.SERVING_PREFIX_CTRL 4 v.toNat) = .next t ∧
      t.fld Reg.SERVING_PREFIX_CTRL 4 0 = (if legal then bits v.toNat 4 0 else s.fld Reg.SERVING_PREFIX_CTRL 4 0) ∧
      t.serving.hashTable = (if flush then s.serving.hashTable.filter referenced else s.serving.hashTable) ∧
      t.serving.tree.map (·.1) = (if flush || legal then s.serving.tree.filter referenced else s.serving.tree).map (·.1) ∧
      t.serving.resize = (legal || s.serving.resize) ∧ t.serving.treeLog2 = s.serving.treeLog2 ∧ t.serving.reqs = s.serving.reqs := by
  intro legal flush
  obtain ⟨tier, tree, pruned, keys⟩ := pruned_eq (s.prefixCtrlWritten v.toNat) flush legal
  refine ⟨_, runPlain_of_sameBooks hs ((barWrite_servingPrefixCtrl s v ho).trans pruned) ⟨rfl, rfl, rfl, rfl⟩,
    fld_prefixCtrlWritten s v.toNat, rfl, keys, rfl, rfl, rfl⟩

/-! SERVING_RES_CLEAR. -/

theorem exec_servingResClear (fn : Fin 33) (v : W32) (s : State) :
    exec (.servingResClear fn v) s = s.runPlain (fun s => s.barWrite fn.val Reg.SERVING_RES_CLEAR 4 v.toNat) := rfl

/-- clear_max clears the longest formation time (R348). -/
theorem exec_servingResClear_clears {s : State} (hs : s.due = []) (v : W32) (ho : s.barOpen 0 = true) (hv : bit v.toNat 0 = true) :
    exec (.servingResClear 0 v) s = .next (s.setFld Reg.SERVING_RES_FORM_TIME 15 0 0) := by
  rw [exec_servingResClear]
  refine runPlain_of_sameBooks hs ?_ (sameBooks_setFld ..)
  refine (barWrite_reach s _ _ ho (by decide) (by decide) (by decide) (by rw [find_serving_res_clear]; rfl) (by decide) v.isLt).trans ?_
  unfold reachReg
  rw [find_serving_res_clear]
  exact if_pos hv

/-! SERVING_PLAN_CTRL. -/

/-- A number of cycles that R182 allows for target_cycles. -/
def targetLegal (n : Nat) : Prop := 1600 ≤ n ∧ n ≤ 80000

theorem fieldBad_target (n : Nat) : fieldBad rowServingPlanCtrl.name 0 n = true ↔ ¬ targetLegal n := by
  simp only [fieldBad, rowServingPlanCtrl, targetLegal, Bool.or_eq_true, decide_eq_true_eq]
  omega

/-- A write of SERVING_PLAN_CTRL writes its field; a legal target makes plans anew while CP0 is up. -/
theorem reachReg_servingPlanCtrl (s : State) (v : Nat) : s.reachReg Reg.SERVING_PLAN_CTRL v =
    (let t := s.wr Reg.SERVING_PLAN_CTRL (mergeWrite rowServingPlanCtrl (s.rd Reg.SERVING_PLAN_CTRL) v)
    if fieldBad rowServingPlanCtrl.name 0 (bits v 16 0) = true ∨ t.cpUp 0 = false then t else t.replanAll) := by
  unfold reachReg
  rw [find_serving_plan_ctrl]
  rfl

theorem mergeWrite_servingPlanCtrl (old v : Nat) : mergeWrite rowServingPlanCtrl old v =
    if fieldBad rowServingPlanCtrl.name 0 (bits v 16 0) then old else withBits old 16 0 (bits v 16 0) := rfl

theorem barWrite_servingPlanCtrl (s : State) (v : W32) (ho : s.barOpen 0 = true) :
    s.barWrite 0 Reg.SERVING_PLAN_CTRL 4 v.toNat = s.reachReg Reg.SERVING_PLAN_CTRL v.toNat :=
  barWrite_reach s _ _ ho (by decide) (by decide) (by decide) (by rw [find_serving_plan_ctrl]; rfl) (by decide) v.isLt

theorem exec_servingPlanCtrlWrite (fn : Fin 33) (v : W32) (s : State) :
    exec (.servingPlanCtrlWrite fn v) s = s.runPlain (fun s => s.barWrite fn.val Reg.SERVING_PLAN_CTRL 4 v.toNat) := rfl

theorem sameDieBooks_writePlan (s : State) (part : Nat) (c : Ctx) (i : Nat) : SameDieBooks s (s.writePlan part c i).1 := by
  have own := sameDieBooks_ownSeam s
  unfold writePlan
  dsimp only
  split
  · exact own.trans ⟨⟨rfl, rfl, rfl, rfl⟩, rfl, rfl⟩
  · exact own

theorem sameDieBooks_writePlans (s : State) (part : Nat) (c : Ctx) : SameDieBooks s (s.writePlans part c).1 := by
  refine sameDieBooks_foldl Prod.fst _ (fun x i => ?_) _ (s, true)
  exact sameDieBooks_writePlan x.1 part c i

theorem sameDieBooks_replanAll (s : State) : SameDieBooks s s.replanAll := by
  refine sameDieBooks_foldl id _ (fun u c => ?_) s.residents s
  dsimp only [id]
  split
  · exact .refl u
  · exact sameDieBooks_writePlans ..

/-- A legal target_cycles is kept, and plans are made anew unless CP0 is down (R182). -/
theorem exec_servingPlanCtrlWrite_legal {s : State} (hs : s.due = []) (v : W32) (ho : s.barOpen 0 = true)
    (legal : targetLegal (bits v.toNat 16 0)) :
    let t := s.setFld Reg.SERVING_PLAN_CTRL 16 0 (bits v.toNat 16 0)
    exec (.servingPlanCtrlWrite 0 v) s = .next (if s.cpUp 0 then t.replanAll else t) := by
  intro t
  have good : ¬ fieldBad rowServingPlanCtrl.name 0 (bits v.toNat 16 0) = true := fun bad => (fieldBad_target _).mp bad legal
  have up : t.cpUp 0 = s.cpUp 0 := by
    rw [cpUp, cpState, fld_setFld_ne _ _ _ _ _ _ _ _ (by decide), cpUp, cpState]
  have follows : ∀ u : State, (if fieldBad rowServingPlanCtrl.name 0 (bits v.toNat 16 0) = true ∨ u.cpUp 0 = false then u
      else u.replanAll) = if u.cpUp 0 then u.replanAll else u := by
    intro u
    cases u.cpUp 0 <;> simp [good]
  have written : s.barWrite 0 Reg.SERVING_PLAN_CTRL 4 v.toNat = if s.cpUp 0 then t.replanAll else t := by
    rw [barWrite_servingPlanCtrl s v ho, reachReg_servingPlanCtrl, mergeWrite_servingPlanCtrl, if_neg good]
    exact (follows t).trans (by rw [up])
  rw [exec_servingPlanCtrlWrite]
  refine runPlain_of_sameBooks hs written ?_
  split
  · exact { sameDieBooks_replanAll t with }
  · exact sameBooks_setFld ..

/-- Writing a register's own value changes no register. -/
theorem onlyRegs_wr_rd (s : State) (off : Nat) : OnlyRegs (fun _ => false) s (s.wr off (s.rd off)) := by
  refine ⟨rfl, fun o _ => ?_⟩
  by_cases h : o = off
  · subst h
    simp [wr, rd]
  · exact reg_setReg_ne _ _ _ _ h

/-- A target_cycles out of its range changes no register (R182). -/
theorem exec_servingPlanCtrlWrite_illegal {s : State} (hs : s.due = []) (v : W32) (ho : s.barOpen 0 = true)
    (illegal : ¬ targetLegal (bits v.toNat 16 0)) :
    ∃ t, exec (.servingPlanCtrlWrite 0 v) s = .next t ∧ OnlyRegs (fun _ => false) s t := by
  have bad := (fieldBad_target _).mpr illegal
  have written : s.barWrite 0 Reg.SERVING_PLAN_CTRL 4 v.toNat = s.wr Reg.SERVING_PLAN_CTRL (s.rd Reg.SERVING_PLAN_CTRL) := by
    rw [barWrite_servingPlanCtrl s v ho, reachReg_servingPlanCtrl, mergeWrite_servingPlanCtrl, if_pos bad]
    exact if_pos (.inl bad)
  exact ⟨_, runPlain_of_sameBooks hs written ⟨rfl, rfl, rfl, rfl⟩, onlyRegs_wr_rd ..⟩

/-! A block inserted (R292). -/

theorem node_setNode_same (s : State) (kind i : Nat) (x : PrefixNode) : (s.setNode kind i x).node_ kind i = x := by
  by_cases h : kind = 0 <;> simp [setNode, node_, h, Tab.find?_set_same]

theorem node_setNode_ne (s : State) (kind i j : Nat) (x : PrefixNode) (h : j ≠ i) :
    (s.setNode kind i x).node_ kind j = s.node_ kind j := by
  by_cases hk : kind = 0 <;> simp [setNode, node_, hk, Tab.find?_set_ne _ _ _ _ h]

/-- A record written changes what the serving block holds, and none of its requests. -/
theorem setNode_serving (s : State) (kind i : Nat) (x : PrefixNode) :
    ∃ serving, s.setNode kind i x = { s with serving := serving } ∧ serving.reqs = s.serving.reqs := by
  unfold setNode
  split <;> exact ⟨_, rfl, rfl⟩

theorem node_freeOrphans (s : State) (kind i : Nat) : s.freeOrphans.node_ kind i = s.node_ kind i := by
  obtain ⟨tier, freed⟩ := freeOrphans_tier s
  rw [freed]
  rfl

theorem rd_freeOrphans (s : State) (off : Nat) : s.freeOrphans.rd off = s.rd off := by
  obtain ⟨tier, freed⟩ := freeOrphans_tier s
  rw [freed]
  rfl

theorem sameDieBooks_freeOrphans (s : State) : SameDieBooks s s.freeOrphans := by
  obtain ⟨tier, freed⟩ := freeOrphans_tier s
  rw [freed]
  exact ⟨⟨rfl, rfl, rfl, rfl⟩, rfl, rfl⟩

theorem rd_setNode (s : State) (kind i : Nat) (x : PrefixNode) (off : Nat) : (s.setNode kind i x).rd off = s.rd off := by
  obtain ⟨serving, written, -⟩ := setNode_serving s kind i x
  rw [written]
  rfl

theorem sameDieBooks_setNode (s : State) (kind i : Nat) (x : PrefixNode) : SameDieBooks s (s.setNode kind i x) := by
  obtain ⟨serving, written, -⟩ := setNode_serving s kind i x
  rw [written]
  exact ⟨⟨rfl, rfl, rfl, rfl⟩, rfl, rfl⟩

/-- The record of a first block. -/
def firstNode (s : State) (q : PrefixPending) (c : BitVec 128) (page : Nat) : PrefixNode :=
  { chain := c, pageHandle := q.handle, pageIndex := page, parent := 0xFFFFFFFF, block := 0, lastUse := s.legCount % 2 ^ 32, valid := true
    part := q.part, object := q.object, model := q.model, patch := q.patch }

/-- The index of a pending KV space's partition: 0 the tree, 1 the table. -/
def indexOf (s : State) (q : PrefixPending) : Nat := s.prefixMode q.part - 1

/-- The published KV space of handle `h` waits with a sole block, its first, which its partition's index does not hold and whose group has
record `i` free. -/
structure FirstBlockWaits (s : State) (h : Nat) (q : PrefixPending) (c : BitVec 128) (page i : Nat) : Prop where
  waits : s.serving.prefixPending.find? (fun q => q.handle == h) = some q
  published : ((s.alloc? h).bind (·.published)).isSome = true
  blocks : q.blocks = [(c, page)]
  first : q.firstBlock = 0
  before : q.before = none
  on : s.prefixMode q.part = 1 ∨ s.prefixMode q.part = 2
  absent : s.lookup (s.indexOf q) q.part c = none
  room : s.roomInGroup (s.indexOf q) c none = some i
  free : (s.node_ (s.indexOf q) i).valid = false

/-- The state with the blocks that wait for an allocation's publication taken off the list. -/
def pendingTaken (s : State) (h : Nat) : State :=
  { s with serving := { s.serving with prefixPending := s.serving.prefixPending.filter (fun x => x.handle != h) } }

/-- The state with a first block entered in record `i` and counted. -/
def firstEntered (s : State) (h : Nat) (q : PrefixPending) (c : BitVec 128) (page i : Nat) : State :=
  ((s.pendingTaken h).setNode (s.indexOf q) i (s.firstNode q c page)).bump Reg.SERVING_PREFIX_INSERTED

section FirstBlock

variable {s : State} {h : Nat} {q : PrefixPending} {c : BitVec 128} {page i : Nat}

theorem insertBlocks_first (w : FirstBlockWaits s h q c page i) :
    (s.pendingTaken h).insertBlocks q (s.indexOf q) none 0 [(c, page)] = s.firstEntered h q c page i := by
  have absent : (s.pendingTaken h).lookup (s.indexOf q) q.part c = none := w.absent
  have room : (s.pendingTaken h).roomInGroup (s.indexOf q) c none = some i := w.room
  have free : ((s.pendingTaken h).node_ (s.indexOf q) i).valid = false := w.free
  have leg : (s.pendingTaken h).legCount = s.legCount := rfl
  simp [insertBlocks, absent, room, free, leg, firstEntered, firstNode]

theorem prefixInsert_first (w : FirstBlockWaits s h q c page i) : s.prefixInsert h = (s.firstEntered h q c page i).freeOrphans := by
  obtain ⟨p, published⟩ := Option.isSome_iff_exists.mp w.published
  simp only [prefixInsert, w.waits, published, w.blocks, w.first, w.before, Option.bind_none, ite_self]
  refine congrArg freeOrphans ((if_pos ?_).trans (insertBlocks_first w))
  exact w.on

theorem node_firstEntered_same : (s.firstEntered h q c page i).node_ (s.indexOf q) i = s.firstNode q c page :=
  node_setNode_same (s.pendingTaken h) ..

theorem node_firstEntered_ne {j : Nat} (hj : j ≠ i) : (s.firstEntered h q c page i).node_ (s.indexOf q) j = s.node_ (s.indexOf q) j :=
  node_setNode_ne (s.pendingTaken h) _ _ _ _ hj

theorem rd_firstEntered : (s.firstEntered h q c page i).rd Reg.SERVING_PREFIX_INSERTED =
    (s.rd Reg.SERVING_PREFIX_INSERTED + 1) % 2 ^ 32 := by
  rw [firstEntered, bump, rd_wr_same, rd_setNode]
  rfl

theorem sameDieBooks_firstEntered : SameDieBooks s (s.firstEntered h q c page i) :=
  let entered := sameDieBooks_setNode (s.pendingTaken h) (s.indexOf q) i (s.firstNode q c page)
  ⟨⟨entered.due, entered.part, entered.pending, entered.enclave⟩, entered.mgmt, entered.test⟩

end FirstBlock

theorem exec_prefixInsert (h : BitVec 20) (s : State) : exec (.prefixInsert h) s = s.runDie (fun s => s.prefixInsert h.toNat) := rfl

/-- PREFIX_INSERT enters a sole first block, counts it, and frees the objects that no record names. -/
theorem exec_prefixInsert_first {s : State} (hs : s.ready) {h : BitVec 20} {q : PrefixPending} {c : BitVec 128} {page i : Nat}
    (w : FirstBlockWaits s h.toNat q c page i) : exec (.prefixInsert h) s = .next (s.firstEntered h.toNat q c page i).freeOrphans :=
  runDie_of_sameDieBooks hs (prefixInsert_first w) (sameDieBooks_firstEntered.trans (sameDieBooks_freeOrphans _))

end State

end Sys2Proof.Machine
end

section
/-!
Admission (R267, R284, R291): what a request's admission leaves of what requests asked for, through the match of its prompt and the
assignment of a slot with its KV space; and the answer of one that fails a test. O38 is assembled from these rules and those of the two
indexes.
-/
namespace Sys2Proof.Machine

/-- What a live request asked for: all but the pages matched for it and its slot. -/
def Req.terms (r : Req) : Req := { r with matched := [], slot := none }

theorem Req.eq_of_terms {q r : Req} (h : q.terms = r.terms) : q = { r with matched := q.matched, slot := q.slot } := by
  cases q
  cases r
  simp_all [Req.terms]

namespace State

/-- Two states agree in the books, in what live requests asked for, and in the number admitted. -/
structure SameRequests (s t : State) : Prop extends SameDieBooks s t where
  terms : ∀ id, (t.req? id).map Req.terms = (s.req? id).map Req.terms
  admitted : t.rd Reg.SERVING_ADMITTED = s.rd Reg.SERVING_ADMITTED

theorem SameRequests.refl (s : State) : SameRequests s s := ⟨.refl s, fun _ => rfl, rfl⟩

theorem SameRequests.trans {s t u : State} (h : SameRequests s t) (k : SameRequests t u) : SameRequests s u :=
  ⟨h.toSameDieBooks.trans k.toSameDieBooks, fun id => (k.terms id).trans (h.terms id), k.admitted.trans h.admitted⟩

/-- Where an operation answers a state and something else, the state it names is that of the answer. -/
theorem SameRequests.of_fst {α : Type} {s t : State} {x : State × α} {y : α} (h : SameRequests s x.1) (e : x = (t, y)) :
    SameRequests s t := by
  subst e
  exact h

/-- A state with the same list of requests and the same number admitted. -/
theorem sameRequests_of_reqs {s t : State} (books : SameDieBooks s t) (reqs : t.serving.reqs = s.serving.reqs)
    (admitted : t.reg Reg.SERVING_ADMITTED = s.reg Reg.SERVING_ADMITTED) : SameRequests s t :=
  ⟨books, fun id => by rw [req?, reqs, req?], by rw [rd, admitted, rd]⟩

theorem sameRequests_of_talked {s t : State} (h : Talked s t) : SameRequests s t :=
  sameRequests_of_reqs (sameDieBooks_of_talked h) (by rw [h.serving]) (h.regs _ (by decide) (by decide))

/-- A fold whose every step keeps the requests of the state it carries keeps them. -/
theorem sameRequests_foldl {σ α : Type} (carried : σ → State) (f : σ → α → σ)
    (h : ∀ x a, SameRequests (carried x) (carried (f x a)))
    (l : List α) (x : σ) : SameRequests (carried x) (carried (l.foldl f x)) :=
  List.foldlRecOn l f (motive := fun y => SameRequests (carried x) (carried y)) (.refl _) (fun y hy a _ => hy.trans (h y a))

/-! Registers and the tier block. -/

theorem sameRequests_wr (s : State) (off v : Nat) (h : Reg.SERVING_ADMITTED ≠ off) : SameRequests s (s.wr off v) :=
  sameRequests_of_reqs ⟨⟨rfl, rfl, rfl, rfl⟩, rfl, rfl⟩ rfl (reg_setReg_ne _ _ _ _ h)

theorem sameRequests_bump (s : State) (off n : Nat) (h : Reg.SERVING_ADMITTED ≠ off) : SameRequests s (s.bump off n) :=
  sameRequests_wr s off _ h

theorem sameRequests_tier (s : State) (tier : TierSt) : SameRequests s { s with tier := tier } :=
  sameRequests_of_reqs ⟨⟨rfl, rfl, rfl, rfl⟩, rfl, rfl⟩ rfl rfl

theorem sameRequests_drawn (s : State) (n : Nat) : SameRequests s (s.drawn n) := sameRequests_of_reqs (sameDieBooks_drawn s n) rfl rfl

theorem sameRequests_updAlloc (s : State) (h : Nat) (f : Alloc → Alloc) : SameRequests s (s.updAlloc h f) := by
  unfold updAlloc
  split
  · exact .refl s
  · exact sameRequests_tier ..

theorem sameRequests_ownSeam (s : State) : SameRequests s s.ownSeam.1 := by
  unfold ownSeam
  split
  · exact ((sameRequests_bump s _ _ (by decide)).trans (sameRequests_bump _ _ _ (by decide))).trans (sameRequests_wr _ _ _ (by decide))
  · exact sameRequests_of_reqs ⟨⟨rfl, rfl, rfl, rfl⟩, rfl, rfl⟩ rfl (reg_setReg_ne _ _ _ _ (by decide))

theorem sameRequests_storeUnit (s : State) (h g : Nat) (moved : Bool) : SameRequests s (s.storeUnit h g moved) := by
  unfold storeUnit
  split
  · exact .refl s
  · exact ((sameRequests_bump s Reg.STORE_HOST_UNITS 1 (by decide)).trans (sameRequests_bump _ Reg.STORE_NAND_UNITS 1 (by decide))).trans
      (sameRequests_of_reqs ⟨⟨rfl, rfl, rfl, rfl⟩, rfl, rfl⟩ rfl rfl)

theorem sameRequests_setHome (s : State) (h g : Nat) (p : Place) : SameRequests s (s.setHome h g p) := by
  simp only [setHome]
  split
  · exact (sameRequests_updAlloc ..).trans (sameRequests_storeUnit ..)
  · exact sameRequests_updAlloc ..

theorem sameRequests_waitHome (s : State) (h g : Nat) : SameRequests s (s.waitHome h g) := sameRequests_tier ..

theorem sameRequests_leavePlace (s : State) (h g : Nat) (e : DirEntry) : SameRequests s (s.leavePlace h g e) :=
  sameRequests_of_reqs (sameDieBooks_leavePlace ..) rfl rfl

theorem sameRequests_moveGranule (s : State) (h g : Nat) (p : Place) : SameRequests s (s.moveGranule h g p).1 := by
  have own := sameRequests_ownSeam s
  unfold moveGranule
  split
  · exact .refl s
  · split
    · exact .refl s
    · dsimp only
      split
      · exact own.trans ((sameRequests_leavePlace ..).trans (sameRequests_setHome ..))
      · exact own

/-- A granule touched gets its home, grows or waits, and requests stay. -/
theorem sameRequests_touchGranule (s : State) (h g : Nat) (blocks : List Nat) : SameRequests s (s.touchGranule h g blocks) := by
  unfold touchGranule
  split
  · exact .refl s
  next a _ =>
  extract_lets e u
  have unit : SameRequests s u := by
    unfold u
    split
    · exact .refl s
    · split
      · exact sameRequests_storeUnit ..
      · exact sameRequests_waitHome ..
  clear_value u
  split
  case isTrue =>
    split
    · exact sameRequests_waitHome ..
    · split
      · exact sameRequests_waitHome ..
      · exact (sameRequests_setHome ..).trans (sameRequests_drawn ..)
  case isFalse =>
    refine unit.trans ?_
    split
    · exact sameRequests_updAlloc ..
    · split
      · exact .refl u
      · split
        · exact sameRequests_waitHome ..
        · have moved := fun p => (sameRequests_drawn u 1).trans (sameRequests_moveGranule u.drawn h g p)
          dsimp only
          split
          · exact moved _
          · exact (moved _).trans (sameRequests_waitHome ..)

theorem sameRequests_landBytes (s : State) (h off : Nat) (v : List Byte) : SameRequests s (s.landBytes h off v) := by
  unfold landBytes
  split
  · exact .refl s
  · exact (sameRequests_updAlloc ..).trans (sameRequests_foldl id _ (fun _ _ => sameRequests_touchGranule ..) _ _)

theorem sameRequests_lentRequests (s : State) (h off n : Nat) (write : Bool) : SameRequests s (s.lentRequests h off n write).1 := by
  refine sameRequests_foldl Prod.fst _ (fun x p => ?_) _ (s, [])
  dsimp only
  split
  · unfold lentRequest
    split
    · exact .refl _
    · exact sameRequests_of_talked ((talked_cause x.1 _).trans (talked_send ..))
  · exact .refl _

theorem sameRequests_writeAlloc (s : State) (h off : Nat) (v : List Byte) : SameRequests s (s.writeAlloc h off v) :=
  (sameRequests_landBytes s h off v).trans (sameRequests_lentRequests ..)

/-! Room made, and an allocation granted (R216, R219). -/

theorem sameRequests_moveLower {s u : State} {h g : Nat} (moved : s.moveLower h g = some u) : SameRequests s u := by
  unfold moveLower at moved
  split at moved
  · cases moved
  · split at moved
    · cases moved
    · dsimp only at moved
      split at moved
      · cases moved
        exact ((sameRequests_drawn s 1).trans (sameRequests_moveGranule ..)).trans (sameRequests_lentRequests ..)
      · cases moved

theorem sameRequests_moveDown {s u : State} {p t : Nat} (moved : s.moveDown p t = some u) : SameRequests s u := by
  simp only [moveDown] at moved
  split at moved
  · cases moved
  · exact sameRequests_moveLower moved

theorem sameRequests_dropReplica {s u : State} {p t : Nat} (dropped : s.dropReplica p t = some u) : SameRequests s u := by
  obtain ⟨r, -, rfl⟩ := Option.map_eq_some_iff.mp dropped
  exact sameRequests_tier ..

theorem sameRequests_makeRoom (p t n fuel : Nat) : ∀ s : State, SameRequests s (s.makeRoom p t n fuel) := by
  induction fuel with
  | zero => exact .refl
  | succ fuel ih =>
    intro s
    unfold makeRoom
    split
    · exact .refl s
    · split
      · exact .refl s
      next u released =>
        refine SameRequests.trans ?_ (ih u)
        rcases Option.or_eq_some_iff.mp released with dropped | ⟨-, moved⟩
        · exact sameRequests_dropReplica dropped
        · exact sameRequests_moveDown moved

theorem sameRequests_grant (s : State) (a : Alloc) : SameRequests s (s.grant a).1 := by
  unfold grant
  split
  · exact .refl s
  · exact (sameRequests_tier ..).trans (sameRequests_drawn ..)

theorem sameRequests_allocate (s : State) (a : Alloc) : SameRequests s (s.allocate a).1 := by
  have swept : SameRequests s s.sweepReplicas := sameRequests_tier ..
  unfold allocate
  extract_lets u t core st v st'
  have roomy : SameRequests s v := by
    unfold v
    split
    · exact swept.trans (sameRequests_makeRoom ..)
    · exact swept
  clear_value v
  have own := roomy.trans (sameRequests_ownSeam v)
  split
  · exact roomy
  · dsimp only
    split
    · exact own.trans (sameRequests_grant ..)
    · exact own

/-! The match of a prompt (R291). -/

theorem sameRequests_setNode (s : State) (kind i : Nat) (x : PrefixNode) : SameRequests s (s.setNode kind i x) := by
  obtain ⟨serving, written, reqs⟩ := setNode_serving s kind i x
  rw [written]
  exact sameRequests_of_reqs ⟨⟨rfl, rfl, rfl, rfl⟩, rfl, rfl⟩ reqs rfl

/-- A change of a request that keeps what it asked for. -/
theorem sameRequests_updReq (s : State) (id : Nat) (f : Req → Req) (h : ∀ r, (f r).terms = r.terms) :
    SameRequests s (s.updReq id f) := by
  refine ⟨⟨⟨rfl, rfl, rfl, rfl⟩, rfl, rfl⟩, fun i => ?_, rfl⟩
  have same : ∀ r : Req, (if r.id = id then f r else r).terms = r.terms := fun r => by split <;> simp [h]
  have ids : ∀ r : Req, (if r.id = id then f r else r).id = r.id := fun r => by simpa [Req.terms] using congrArg Req.id (same r)
  simp only [req?, updReq, List.find?_map, Option.map_map]
  congr 1
  · exact funext same
  · exact congrArg (List.find? · _) (funext fun r => by simp only [Function.comp, ids])

theorem sameRequests_matchPrefix (s : State) (id : Nat) (cut : Option Nat) : SameRequests s (s.matchPrefix id cut) := by
  unfold matchPrefix
  split
  · exact .refl s
  next r _ =>
  extract_lets mode b tokens patch chain fuel m kind found t u v
  split
  · exact .refl s
  have used : SameRequests s t := by
    refine sameRequests_foldl (fun u => u) _ (fun u f => ?_) found s
    exact sameRequests_setNode ..
  have matched : SameRequests s u := used.trans (sameRequests_updReq t _ _ fun _ => rfl)
  have counted : SameRequests s v := matched.trans ((sameRequests_bump u _ _ (by decide)).trans (sameRequests_bump _ _ _ (by decide)))
  split
  · exact counted.trans (sameRequests_bump v _ _ (by decide))
  · exact counted

/-! A slot and its KV space (R267, R284). -/

theorem sameRequests_sizePool (s : State) (p h : Nat) : SameRequests s (s.sizePool p h) := by
  unfold sizePool
  split
  · exact .refl s
  · dsimp only
    split
    · split
      · exact sameRequests_updAlloc ..
      · exact .refl s
    · exact sameRequests_updAlloc ..

theorem sameRequests_withPool (s : State) (p : Nat) : SameRequests s (s.withPool p).1 := by
  unfold withPool
  split
  · exact sameRequests_sizePool ..
  · split
    next u h st granted =>
    have granted : SameRequests s u := .of_fst (sameRequests_allocate ..) granted
    split
    · exact .refl s
    · exact granted.trans (sameRequests_of_reqs ⟨⟨rfl, rfl, rfl, rfl⟩, rfl, rfl⟩ rfl rfl)

theorem sameRequests_writeList (s : State) (h g n : Nat) (r : Req) (space : Nat) : SameRequests s (s.writeList h g n r space) :=
  ((sameRequests_updAlloc ..).trans (sameRequests_writeAlloc ..)).trans (sameRequests_writeAlloc ..)

/-- The state with a request in a slot. -/
def slotTaken (s : State) (n id : Nat) (x : Slot) : State :=
  ({ s with serving := { s.serving with slots := Tab.set s.serving.slots n x } } : State).updReq id (fun r => { r with slot := some n })

theorem sameRequests_slotTaken (s : State) (n id : Nat) (x : Slot) : SameRequests s (s.slotTaken n id x) :=
  (sameRequests_of_reqs ⟨⟨rfl, rfl, rfl, rfl⟩, rfl, rfl⟩ rfl rfl : SameRequests s
    { s with serving := { s.serving with slots := Tab.set s.serving.slots n x } }).trans
    (sameRequests_updReq _ id (fun r => { r with slot := some n }) fun _ => rfl)

theorem sameRequests_assignSlot (s : State) (id : Nat) : SameRequests s (s.assignSlot id) := by
  unfold assignSlot
  split
  case h_2 => exact .refl s
  next r n _ _ =>
  extract_lets base put
  have taken : ∀ u x, SameRequests u (put u x) := fun u x => sameRequests_slotTaken u n id x
  clear_value base put
  split
  · exact .refl s
  split
  next s0 ok own =>
  have own : SameRequests s s0 := .of_fst (sameRequests_ownSeam s) own
  split
  · exact own
  split
  · exact own.trans (taken ..)
  have pooled := own.trans (sameRequests_withPool s0 r.part)
  generalize s0.withPool r.part = w at pooled ⊢
  split
  next s1 pool =>
  change SameRequests s s1 at pooled
  split
  · exact .refl s
  split
  next s2 space st granted =>
  have granted : SameRequests s s2 := (pooled.trans (sameRequests_drawn s1 1)).trans (.of_fst (sameRequests_allocate ..) granted)
  split
  · exact .refl s
  · exact (granted.trans (taken ..)).trans (sameRequests_writeList ..)

/-! Admission. -/

/-- The state with a request entered in the list and counted. -/
def enrolled (s : State) (p : Nat) (b : ReqBody) : State :=
  ({ s with serving := { s.serving with reqs := s.serving.reqs ++ [s.newReq p b] } } : State).bump Reg.SERVING_ADMITTED

theorem sameDieBooks_enrolled (s : State) (p : Nat) (b : ReqBody) : SameDieBooks s (s.enrolled p b) :=
  ⟨⟨rfl, rfl, rfl, rfl⟩, rfl, rfl⟩

theorem rd_enrolled (s : State) (p : Nat) (b : ReqBody) :
    (s.enrolled p b).rd Reg.SERVING_ADMITTED = (s.rd Reg.SERVING_ADMITTED + 1) % 2 ^ 32 := rd_wr_same ..

theorem req?_enrolled_same (s : State) (p : Nat) (b : ReqBody) (absent : s.req? b.id = none) :
    (s.enrolled p b).req? b.id = some (s.newReq p b) := by
  change List.find? _ (s.serving.reqs ++ [s.newReq p b]) = _
  rw [List.find?_append, show List.find? _ s.serving.reqs = none from absent]
  simp [newReq]

theorem req?_enrolled_ne (s : State) (p : Nat) (b : ReqBody) {id : Nat} (h : id ≠ b.id) : (s.enrolled p b).req? id = s.req? id := by
  change List.find? _ (s.serving.reqs ++ [s.newReq p b]) = _
  rw [List.find?_append]
  simp [newReq, h.symm, req?]

/-- A test that ends with a status of its own has been passed where the status is 0. -/
theorem passed_of_status_zero {c : Prop} [Decidable c] {st hint : Nat} {x : Nat × Nat} (bad : st ≠ 0) (h : (if c then (st, hint) else x) = (0, 0)) :
    ¬ c ∧ x = (0, 0) := by
  split at h
  · exact absurd (congrArg Prod.fst h) bad
  · exact ⟨‹_›, h⟩

/-- A request that passes every test names none that is live. -/
theorem req?_of_admissible {s : State} {p : Nat} {b : ReqBody} (h : s.admissionTest p b = (0, 0)) : s.req? b.id = none := by
  unfold admissionTest at h
  obtain ⟨-, h⟩ := passed_of_status_zero (by decide) h
  obtain ⟨-, h⟩ := passed_of_status_zero (by decide) h
  obtain ⟨unknown, -⟩ := passed_of_status_zero (by decide) h
  simpa using unknown

/-- A request that passes every test is enrolled; what follows keeps what it asked for. -/
theorem sameRequests_admission {s : State} {p : Nat} {b : ReqBody} (cut : Option Nat) (hp : p < 32) (h : s.admissionTest p b = (0, 0)) :
    SameRequests (s.enrolled p b) (s.admission p b cut) := by
  have matched := sameRequests_matchPrefix (s.enrolled p b) b.id cut
  unfold admission
  rw [h]
  change SameRequests (s.enrolled p b) (if (0 : Nat) ≠ 0 then _ else _)
  rw [if_neg (by decide)]
  extract_lets waiting _ _ _ w
  have assigned : SameRequests (s.enrolled p b) w := by
    unfold w
    split
    · exact matched
    · exact matched.trans (sameRequests_assignSlot ..)
  clear_value w
  split
  · exact assigned
  · exact assigned.trans (sameRequests_of_talked (told_sendHost w p _ _ _ hp).talked)

/-- A request that fails a test other than those of overload and of the tile plans is counted and answered. -/
theorem admission_refused {s : State} {p st hint : Nat} {b : ReqBody} (cut : Option Nat) (h : s.admissionTest p b = (st, hint))
    (bad : st ≠ 0) (overload : st ≠ stOverload) (plan : st ≠ stNoPlan) :
    s.admission p b cut = (s.bump Reg.SERVING_REFUSED).refuseMsg p b.id st hint 0 := by
  simp [admission, h, bad, overload, plan]

theorem told_refuseMsg (s : State) (p id status hint header : Nat) (h : p < 32) : Told s (s.refuseMsg p id status hint header) :=
  told_place s p _ _ h

/-! The message. -/

theorem fieldAt_hostMessage_type (type : Nat) (head : HostHead) (h : type < 65536) : fieldAt (hostMessage type head) 2 2 = type := by
  simp [fieldAt, sliceBytes, hostMessage, leBytes, leNat]
  omega

/-- A REQUEST that passes every test of Table 15.7 is tested for admission. -/
theorem receive_request {s : State} {set : Fin 32} {fn : Fin 33} {head : HostHead} (h : s.accepts set fn 0x0010 head) (cut : Option Nat) :
    s.receive set.val fn.val (hostMessage 0x0010 head) none cut = s.admission set.val (ReqBody.ofBytes (hostMessage 0x0010 head)) cut := by
  obtain ⟨length, whole, header⟩ := h
  have type := fieldAt_hostMessage_type 0x0010 head (by decide)
  simp [receive, length, whole, header, runMessage, type]

theorem exec_request (set : Fin 32) (fn : Fin 33) (head : HostHead) (cut : Option Nat) (s : State) :
    exec (.request set fn head cut) s = s.runPlain (fun s => s.receive set.val fn.val (hostMessage 0x0010 head) none cut) := rfl

section Request

variable {s : State} {set : Fin 32} {fn : Fin 33} {head : HostHead}

/-- An admissible REQUEST enters the list with what its message says, and no other comes or goes (R267). -/
theorem exec_request_admitted (hs : s.due = []) (h : s.accepts set fn 0x0010 head) (cut : Option Nat) {r : ReqBody}
    (hr : ReqBody.ofBytes (hostMessage 0x0010 head) = r) (admissible : s.admissionTest set.val r = (0, 0)) :
    ∃ t matched slot, exec (.request set fn head cut) s = .next t ∧
      t.req? r.id = some { s.newReq set.val r with matched := matched, slot := slot } ∧
      t.rd Reg.SERVING_ADMITTED = (s.rd Reg.SERVING_ADMITTED + 1) % 2 ^ 32 ∧
      ∀ id, id ≠ r.id → ((t.req? id).isSome ↔ (s.req? id).isSome) := by
  have kept := sameRequests_admission cut set.isLt admissible
  have books := (sameDieBooks_enrolled s set.val r).trans kept.toSameDieBooks
  have entered := kept.terms r.id
  rw [req?_enrolled_same s set.val r (req?_of_admissible admissible), Option.map_some] at entered
  obtain ⟨q, live, terms⟩ := Option.map_eq_some_iff.mp entered
  refine ⟨s.admission set.val r cut, q.matched, q.slot, ?_, live.trans (congrArg some (Req.eq_of_terms terms)),
    kept.admitted.trans (rd_enrolled ..), fun id other => ?_⟩
  · exact runPlain_of_sameBooks hs (hr ▸ receive_request h cut) { books with }
  · rw [← Option.isSome_map (f := Req.terms), kept.terms id, Option.isSome_map, req?_enrolled_ne s set.val r other]

/-- A REQUEST that fails a test is counted and answered with a FINAL (R263, R267). -/
theorem exec_request_refused (hs : s.due = []) (h : s.accepts set fn 0x0010 head) (cut : Option Nat) {r : ReqBody} {st hint : Nat}
    (hr : ReqBody.ofBytes (hostMessage 0x0010 head) = r) (fails : s.admissionTest set.val r = (st, hint)) (bad : st ≠ 0)
    (overload : st ≠ stOverload) (plan : st ≠ stNoPlan) :
    exec (.request set fn head cut) s = .next ((s.bump Reg.SERVING_REFUSED).refuseMsg set.val r.id st hint 0) := by
  have told := told_refuseMsg (s.bump Reg.SERVING_REFUSED) set.val r.id st hint 0 set.isLt
  exact runPlain_of_sameBooks hs ((hr ▸ receive_request h cut).trans (admission_refused cut fails bad overload plan))
    ⟨told.due, told.part, told.pending, told.enclave⟩

end Request

/-- Settles O38: each clause is the rule for its command, by what the admission tests answer, or by the value written. -/
theorem requestsAndThePrefixIndex : Obligations.RequestsAndThePrefixIndex := by
  unfold Obligations.RequestsAndThePrefixIndex
  intro s hs
  refine ⟨?requests, ?insert, ?registers⟩
  case requests =>
    intro set fn head cut accepted r
    have body : ReqBody.ofBytes (hostMessage 0x0010 head) = r := rfl
    clear_value r
    refine ⟨fun admissible => ?_, fun st hint => exec_request_refused hs accepted cut body⟩
    obtain ⟨t, matched, slot, run, live, count, others⟩ := exec_request_admitted hs accepted cut body admissible
    exact ⟨t, _, run, req?_of_admissible admissible, live, rfl, rfl, rfl, rfl, rfl, rfl, rfl, count, others⟩
  case insert =>
    intro h q a c page i good waits ha published blocks first before mode kind on absent room free
    have w : FirstBlockWaits s h.toNat q c page i :=
      ⟨waits, by rw [ha]; exact published, blocks, first, before, on, absent, room, free⟩
    have record : (s.firstEntered h.toNat q c page i).freeOrphans.node_ kind i = s.firstNode q c page :=
      (node_freeOrphans ..).trans node_firstEntered_same
    exact ⟨_, exec_prefixInsert_first ⟨good, hs⟩ w, congrArg PrefixNode.valid record, congrArg PrefixNode.chain record,
      congrArg PrefixNode.part record, congrArg PrefixNode.pageHandle record, congrArg PrefixNode.pageIndex record,
      congrArg PrefixNode.refs record, fun j other => (node_freeOrphans ..).trans (node_firstEntered_ne other),
      (rd_freeOrphans ..).trans rd_firstEntered⟩
  case registers =>
    intro v ho n legal flush
    refine ⟨?indexes, exec_servingResClear_clears hs v ho, fun low high => exec_servingPlanCtrlWrite_legal hs v ho ⟨low, high⟩,
      fun out => exec_servingPlanCtrlWrite_illegal hs v ho fun ⟨low, high⟩ => by omega⟩
    rintro it (rfl | rfl)
    · rw [exec_prefixFlush]
      exact runPlain_servingPrefixCtrl hs v ho
    · rw [exec_prefixTreeLog2Write]
      exact runPlain_servingPrefixCtrl hs v ho

end State

end Sys2Proof.Machine
end
